-- ==== Sys2Proof/Word.lean ====
section
/-! DEFINITION. The words of the Tarkilo 840: the byte of the two serial lines and the eight-member mask. Every
quantity of the manual (volumes, rates, times, counts) is an integer in a stated unit (00_scope.md 1.3.1) and is a
Nat or an Int in this model; only what the manual treats as bits is a bit vector. -/
namespace Sys2Proof

/-- One byte on the host link or the gauge bus (09 R185, 04 R81). -/
abbrev Byte := BitVec 8

/-- A set of up to eight named members (lanes, tanks, sumps, products), member i being bit i (00_scope.md 1.3.4,
09 R191). -/
abbrev Mask := BitVec 8

end Sys2Proof
end

