-- ==== Sys2Proof/Config.lean ====
section
/-! DEFINITION. What the manual and the model's clock leave open: the free values. -/
namespace Sys2Proof

/-- FREE VALUE (log 4). The model counts elapsed time in the seconds of CLOCK_SECOND; where within a second an event
falls is not counted. For the n-th event that reads an elapsed time to the second, this says whether the part
second carries it past the whole second. It has no body: nothing can be proved about its value. -/
opaque Config.freePhase : Nat → Bool

end Sys2Proof
end

