-- ==== Sys2Proof/Syntax.lean ====
section
/-! DEFINITION. The commands of the block: one constructor of Instr for each row of spec/opcode_table.json. The
fields of a host request are the values its message body carries (09 R191), before any range check: NONE or none is
255, LANE is 255, a boundary of none is 65,535, an enumerated field is its code. -/
namespace Sys2Proof

/-- PRODUCT-SET (03 R60): the product number and every field of R58. -/
structure ProductFields where
  product : Nat
  kind : Nat
  alpha : Nat
  fullRate : Nat
  slowRate : Nat
  primeVolume : Nat
  trimVolume : Nat
  closeAhead : Nat
  maxFill : Nat
  maxOpen : Nat
  noFlow : Nat
  creepVolume : Nat
  serviceFlag : Nat
  feedTank : Nat
  pumpCapacity : Nat
  runOn : Nat
  deriving DecidableEq, Repr

/-- LANE-SET (01 R2). -/
structure LaneFields where
  lane : Nat
  product : Nat
  kFactor : Nat
  curveSource : Nat
  spanTrim : Int
  window : Nat
  deriving DecidableEq, Repr

/-- TANK-SET (04 R78). -/
structure TankFields where
  tank : Nat
  product : Nat
  gaugeAddress : Nat
  cutOff : Nat
  lowBand : Nat
  highHigh : Nat
  leakThreshold : Nat
  alarmClass : Nat
  deriving DecidableEq, Repr

/-- TABLE-POINT (04 R79). -/
structure TablePointFields where
  tank : Nat
  index : Nat
  level : Nat
  volume : Nat
  deriving DecidableEq, Repr

/-- CURVE-POINT (02 R46). -/
structure CurvePointFields where
  lane : Nat
  index : Nat
  rate : Nat
  correction : Int
  deriving DecidableEq, Repr

/-- TABLE-COMMIT (04 R80) and CURVE-COMMIT (02 R47): the tank or lane number and the point count. -/
structure CommitFields where
  owner : Nat
  count : Nat
  deriving DecidableEq, Repr

/-- BAY-SET (09 R197): the seven settings. -/
structure BayFields where
  stagger : Nat
  authTimeout : Nat
  burnBand : Nat
  boundary1 : Nat
  boundary2 : Nat
  maskLevel : Nat
  roundPeriod : Nat
  deriving DecidableEq, Repr

/-- AUTHORISE (01 R8). -/
structure AuthoriseFields where
  lane : Nat
  machine : Nat
  preset : Nat
  hourReading : Option Nat
  serviceFlag : Nat
  operator : Nat
  deriving DecidableEq, Repr

/-- RECEIPT-OPEN (04 R95). -/
structure ReceiptOpenFields where
  tank : Nat
  docket : Option Nat
  deriving DecidableEq, Repr

/-- BOOK-SET (04 R93). -/
structure BookFields where
  tank : Nat
  book : Int
  deriving DecidableEq, Repr

/-- The values a MACHINE-WRITE or a pattern carries, one for every writable field in the order of 05 R124. -/
structure MachineValues where
  status : Nat
  permitted : Nat
  fuelCapacity : Nat
  serviceInterval : Nat
  hoursSinceService : Nat
  hourBaseline : Option Nat
  burnAverage : Nat
  deriving DecidableEq, Repr

/-- MACHINE-WRITE (05 R124): the mask is one byte, field 1 of R124's table in bit 0. -/
structure MachineWriteFields where
  machine : Nat
  mask : Nat
  values : MachineValues
  deriving DecidableEq, Repr

/-- PATTERN-LOAD (05 R127). -/
structure PatternFields where
  mask : Nat
  values : MachineValues
  deriving DecidableEq, Repr

/-- GROUP-APPLY (05 R128). -/
structure GroupFields where
  base : Nat
  members : Nat
  deriving DecidableEq, Repr

/-- JOURNAL-READ (06 R136). -/
structure JournalReadFields where
  start : Nat
  count : Nat
  autoAck : Nat
  deriving DecidableEq, Repr

/-- REPORT-READ (08 R183): the section code (BAY 0, TANK 1, LANE 2) and the number byte. -/
structure ReportReadFields where
  part : Nat
  number : Nat
  deriving DecidableEq, Repr

/-- The pins a start reads (01 R32, 09 R199, 10 R202), and the order in which a warm start's late close and its
POWER commits are taken, which the manual leaves open (08 R184; log 7). -/
structure StartPins where
  nozzleOut : Mask
  keyLow : Bool
  baudHigh : Bool
  closeFirst : Bool
  deriving DecidableEq, Repr

/-- A host request as its owner takes it: its kind and its body's fields (09 R196). -/
inductive Request where
  | productSet (f : ProductFields)
  | laneSet (f : LaneFields)
  | tankSet (f : TankFields)
  | tablePoint (f : TablePointFields)
  | tableCommit (f : CommitFields)
  | curvePoint (f : CurvePointFields)
  | curveCommit (f : CommitFields)
  | baySet (f : BayFields)
  | timeSet (clock : Nat)
  | authorise (f : AuthoriseFields)
  | cancel (lane : Nat)
  | laneQuery (lane : Nat)
  | tankQuery (tank : Nat)
  | gaugeNow (tank : Nat)
  | receiptOpen (f : ReceiptOpenFields)
  | receiptClose (tank : Nat)
  | bookSet (f : BookFields)
  | machineRead (machine : Nat)
  | machineWrite (f : MachineWriteFields)
  | patternLoad (f : PatternFields)
  | groupApply (f : GroupFields)
  | journalRead (f : JournalReadFields)
  | journalStop
  | journalAck (seq : Nat)
  | bayArm
  | bayDisarm
  | bayShutdown
  | bayClear (kind : Nat)
  | pumpReset (header : Nat)
  | status (part : Nat)
  | reportNow
  | reportRead (f : ReportReadFields)
  deriving DecidableEq, Repr

/-- The commands, one constructor per row of the opcode table. A request's first argument is its TAG (09 R190). -/
inductive Instr where
  | productSet (tag : Byte) (f : ProductFields)
  | laneSet (tag : Byte) (f : LaneFields)
  | tankSet (tag : Byte) (f : TankFields)
  | tablePoint (tag : Byte) (f : TablePointFields)
  | tableCommit (tag : Byte) (f : CommitFields)
  | curvePoint (tag : Byte) (f : CurvePointFields)
  | curveCommit (tag : Byte) (f : CommitFields)
  | baySet (tag : Byte) (f : BayFields)
  | timeSet (tag : Byte) (clock : Nat)
  | authorise (tag : Byte) (f : AuthoriseFields)
  | cancel (tag : Byte) (lane : Nat)
  | laneQuery (tag : Byte) (lane : Nat)
  | tankQuery (tag : Byte) (tank : Nat)
  | gaugeNow (tag : Byte) (tank : Nat)
  | receiptOpen (tag : Byte) (f : ReceiptOpenFields)
  | receiptClose (tag : Byte) (tank : Nat)
  | bookSet (tag : Byte) (f : BookFields)
  | machineRead (tag : Byte) (machine : Nat)
  | machineWrite (tag : Byte) (f : MachineWriteFields)
  | patternLoad (tag : Byte) (f : PatternFields)
  | groupApply (tag : Byte) (f : GroupFields)
  | journalRead (tag : Byte) (f : JournalReadFields)
  | journalStop (tag : Byte)
  | journalAck (tag : Byte) (seq : Nat)
  | bayArm (tag : Byte)
  | bayDisarm (tag : Byte)
  | bayShutdown (tag : Byte)
  | bayClear (tag : Byte) (kind : Nat)
  | pumpReset (tag : Byte) (header : Nat)
  | status (tag : Byte) (part : Nat)
  | reportNow (tag : Byte)
  | reportRead (tag : Byte) (f : ReportReadFields)
  /-- A request frame whose KIND names no request is taken. -/
  | unknownKind (tag kind : Byte) (body : List Byte)
  /-- A request frame of known KIND with a bad body length or presence byte is taken. -/
  | malformed (tag kind : Byte) (body : List Byte)
  /-- A frame completes on HRX: its bytes after the sync (LEN, KIND, TAG, BODY, CRC). -/
  | frameReceived (bytes : List Byte)
  | frameGap
  | frameSent
  | pulse (lane : Fin 8)
  | sample (lane : Fin 8)
  | nozzleLift (lane : Fin 8)
  | nozzleHangup (lane : Fin 8)
  | authorisationExpiry (lane : Fin 8)
  | maxOpenExpiry (lane : Fin 8)
  | closeLimitExpiry (lane : Fin 8)
  | creepWindowExpiry (lane : Fin 8)
  | grantTaken (lane : Fin 8)
  | pumpEnding (lane : Fin 8)
  | tankLowEnding (lane : Fin 8)
  | proveChange (header : Fin 6) (active : Bool)
  | provingTimerExpiry (header : Fin 6)
  | runonExpiry (header : Fin 6)
  | staggerElapsed
  | roundDue
  | gaugePollSent
  /-- The bytes received on the gauge bus for the outstanding poll (04 R81). -/
  | gaugeReply (bytes : List Byte)
  | replyTimerExpiry
  | sumpActive (sump : Fin 4) (active : Bool)
  | pressBegin
  /-- The release of a press is confirmed; the press lasted this many milliseconds, fall to rise. -/
  | pressRelease (lengthMs : Nat)
  | longPress
  | valveFailureReport (lane : Fin 8)
  | creepReport (lane : Fin 8)
  | closingReport (lane : Fin 8)
  | keyTurn
  | boundary
  | powerLoss
  | resetAssert
  | vbatLoss
  | coldStart (pins : StartPins)
  | warmStart (pins : StartPins)
  | hostByteReceived (byte : Byte)
  | keySeenHigh
  | clockSecond
  deriving DecidableEq, Repr

end Sys2Proof
end

