-- ==== Sys2Proof/WellFormed.lean ====
section
/-! DEFINITION. When a command is one the part's pins and link can carry: each field of a request fits the width it
has in the message body (09 R191), a frame has the form of 09 R185, a gauge reply holds a complete frame (04 R81) and
a press has a length a press can have (07 R149). exec is total on ill-formed commands too; the checks say which
commands the hardware can be given. -/
namespace Sys2Proof

/-- A number that a field of w bytes can carry. -/
def fitsBytes (w n : Nat) : Bool := n < 2 ^ (8 * w)

/-- A signed number that a field of w bytes can carry in two's complement. -/
def fitsSigned (w : Nat) (v : Int) : Bool :=
  -(2 ^ (8 * w - 1) : Int) ≤ v && v < (2 ^ (8 * w - 1) : Int)

/-- An optional number: absent, or one its field can carry. -/
def fitsOption (w : Nat) : Option Nat → Bool
  | none => true
  | some n => fitsBytes w n

def ProductFields.wf (f : ProductFields) : Bool :=
  fitsBytes 1 f.product && fitsBytes 1 f.kind && fitsBytes 2 f.alpha && fitsBytes 2 f.fullRate
    && fitsBytes 2 f.slowRate && fitsBytes 4 f.primeVolume && fitsBytes 4 f.trimVolume && fitsBytes 4 f.closeAhead
    && fitsBytes 4 f.maxFill && fitsBytes 1 f.maxOpen && fitsBytes 1 f.noFlow && fitsBytes 2 f.creepVolume
    && fitsBytes 1 f.serviceFlag && fitsBytes 1 f.feedTank && fitsBytes 2 f.pumpCapacity && fitsBytes 1 f.runOn

def LaneFields.wf (f : LaneFields) : Bool :=
  fitsBytes 1 f.lane && fitsBytes 1 f.product && fitsBytes 2 f.kFactor && fitsBytes 1 f.curveSource
    && fitsSigned 2 f.spanTrim && fitsBytes 1 f.window

def TankFields.wf (f : TankFields) : Bool :=
  fitsBytes 1 f.tank && fitsBytes 1 f.product && fitsBytes 1 f.gaugeAddress && fitsBytes 4 f.cutOff
    && fitsBytes 4 f.lowBand && fitsBytes 2 f.highHigh && fitsBytes 4 f.leakThreshold && fitsBytes 1 f.alarmClass

def TablePointFields.wf (f : TablePointFields) : Bool :=
  fitsBytes 1 f.tank && fitsBytes 1 f.index && fitsBytes 2 f.level && fitsBytes 4 f.volume

def CurvePointFields.wf (f : CurvePointFields) : Bool :=
  fitsBytes 1 f.lane && fitsBytes 1 f.index && fitsBytes 2 f.rate && fitsSigned 4 f.correction

def CommitFields.wf (f : CommitFields) : Bool := fitsBytes 1 f.owner && fitsBytes 1 f.count

def BayFields.wf (f : BayFields) : Bool :=
  fitsBytes 1 f.stagger && fitsBytes 2 f.authTimeout && fitsBytes 1 f.burnBand && fitsBytes 2 f.boundary1
    && fitsBytes 2 f.boundary2 && fitsBytes 1 f.maskLevel && fitsBytes 1 f.roundPeriod

def AuthoriseFields.wf (f : AuthoriseFields) : Bool :=
  fitsBytes 1 f.lane && fitsBytes 2 f.machine && fitsBytes 4 f.preset && fitsOption 4 f.hourReading
    && fitsBytes 1 f.serviceFlag && fitsBytes 2 f.operator

def MachineValues.wf (v : MachineValues) : Bool :=
  fitsBytes 1 v.status && fitsBytes 1 v.permitted && fitsBytes 4 v.fuelCapacity && fitsBytes 4 v.serviceInterval
    && fitsBytes 4 v.hoursSinceService && fitsOption 4 v.hourBaseline && fitsBytes 2 v.burnAverage

/-- Every field of the request fits its width. -/
def Request.wf : Request → Bool
  | .productSet f => f.wf
  | .laneSet f => f.wf
  | .tankSet f => f.wf
  | .tablePoint f => f.wf
  | .tableCommit f => f.wf
  | .curvePoint f => f.wf
  | .curveCommit f => f.wf
  | .baySet f => f.wf
  | .timeSet n => fitsBytes 4 n
  | .authorise f => f.wf
  | .cancel n => fitsBytes 1 n
  | .laneQuery n => fitsBytes 1 n
  | .tankQuery n => fitsBytes 1 n
  | .gaugeNow n => fitsBytes 1 n
  | .receiptOpen f => fitsBytes 1 f.tank && fitsOption 4 f.docket
  | .receiptClose n => fitsBytes 1 n
  | .bookSet f => fitsBytes 1 f.tank && fitsSigned 6 f.book
  | .machineRead n => fitsBytes 2 n
  | .machineWrite f => fitsBytes 2 f.machine && fitsBytes 1 f.mask && f.values.wf
  | .patternLoad f => fitsBytes 1 f.mask && f.values.wf
  | .groupApply f => fitsBytes 2 f.base && fitsBytes 1 f.members
  | .journalRead f => fitsBytes 4 f.start && fitsBytes 1 f.count && fitsBytes 1 f.autoAck
  | .journalStop => true
  | .journalAck n => fitsBytes 4 n
  | .bayArm => true
  | .bayDisarm => true
  | .bayShutdown => true
  | .bayClear n => fitsBytes 1 n
  | .pumpReset n => fitsBytes 1 n
  | .status n => fitsBytes 1 n
  | .reportNow => true
  | .reportRead f => fitsBytes 1 f.part && fitsBytes 1 f.number

/-- A command the part can be given. An UNKNOWN_KIND or MALFORMED row is one whatever its KIND and body; what it then
does is the model's, log 35. -/
def Instr.wellFormed : Instr → Bool
  | .productSet _ f => (Request.productSet f).wf
  | .laneSet _ f => (Request.laneSet f).wf
  | .tankSet _ f => (Request.tankSet f).wf
  | .tablePoint _ f => (Request.tablePoint f).wf
  | .tableCommit _ f => (Request.tableCommit f).wf
  | .curvePoint _ f => (Request.curvePoint f).wf
  | .curveCommit _ f => (Request.curveCommit f).wf
  | .baySet _ f => (Request.baySet f).wf
  | .timeSet _ n => (Request.timeSet n).wf
  | .authorise _ f => (Request.authorise f).wf
  | .cancel _ n => (Request.cancel n).wf
  | .laneQuery _ n => (Request.laneQuery n).wf
  | .tankQuery _ n => (Request.tankQuery n).wf
  | .gaugeNow _ n => (Request.gaugeNow n).wf
  | .receiptOpen _ f => (Request.receiptOpen f).wf
  | .receiptClose _ n => (Request.receiptClose n).wf
  | .bookSet _ f => (Request.bookSet f).wf
  | .machineRead _ n => (Request.machineRead n).wf
  | .machineWrite _ f => (Request.machineWrite f).wf
  | .patternLoad _ f => (Request.patternLoad f).wf
  | .groupApply _ f => (Request.groupApply f).wf
  | .journalRead _ f => (Request.journalRead f).wf
  | .journalStop _ => true
  | .journalAck _ n => (Request.journalAck n).wf
  | .bayArm _ => true
  | .bayDisarm _ => true
  | .bayShutdown _ => true
  | .bayClear _ n => (Request.bayClear n).wf
  | .pumpReset _ n => (Request.pumpReset n).wf
  | .status _ n => (Request.status n).wf
  | .reportNow _ => true
  | .reportRead _ f => (Request.reportRead f).wf
  | .unknownKind _ _ body => body.length ≤ 248
  | .malformed _ _ body => body.length ≤ 248
  | .frameReceived bytes => bytes.length ≤ 253
  | .frameGap => true
  | .frameSent => true
  | .pulse _ => true
  | .sample _ => true
  | .nozzleLift _ => true
  | .nozzleHangup _ => true
  | .authorisationExpiry _ => true
  | .maxOpenExpiry _ => true
  | .closeLimitExpiry _ => true
  | .creepWindowExpiry _ => true
  | .grantTaken _ => true
  | .pumpEnding _ => true
  | .tankLowEnding _ => true
  | .proveChange _ _ => true
  | .provingTimerExpiry _ => true
  | .runonExpiry _ => true
  | .staggerElapsed => true
  | .roundDue => true
  | .gaugePollSent => true
  | .gaugeReply bytes => 10 ≤ (bytes.dropWhile (· != 0x5A)).length
  | .replyTimerExpiry => true
  | .sumpActive _ _ => true
  | .pressBegin => true
  | .pressRelease lengthMs => 50 ≤ lengthMs
  | .longPress => true
  | .valveFailureReport _ => true
  | .creepReport _ => true
  | .closingReport _ => true
  | .keyTurn => true
  | .boundary => true
  | .powerLoss => true
  | .resetAssert => true
  | .vbatLoss => true
  | .coldStart _ => true
  | .warmStart _ => true
  | .hostByteReceived _ => true
  | .keySeenHigh => true
  | .clockSecond => true

end Sys2Proof
end

