-- ==== Sys2Proof/Decode.lean ====
section
/-! DEFINITION. The command a word of the opcode table's bits spells. No row of spec/opcode_table.json gives bits
(every row's fields are empty), so no word spells one. The byte codec of the host link's messages, which the spec does
give (09 R185 to R191), is Sys2Proof/Machine/Wire.lean. -/
namespace Sys2Proof

/-- No row gives bits: every word is refused. -/
def decodeTableWord (_nbits _w : Nat) : Option Instr := none

end Sys2Proof
end

