-- ==== Sys2Proof/Machine/State.lean ====
section
/-! DEFINITION. The state of the Tarkilo 840 as plain data, block by block, and the state after a cold start. Each
field names the rule that gives it. R = in the retained domain (10 R201), V = volatile. -/
namespace Sys2Proof.Machine

/-! ## Enumerations -/

/-- 01 2.2. -/
inductive LaneState where
  | idle | authorised | waiting | flowing | trimming | closing | done
  deriving DecidableEq, Repr

/-- 01 R4. -/
inductive Stage where
  | prime | main | trim
  deriving DecidableEq, Repr

/-- A lane's valve output, in the order CLOSED, SLOW, FULL (01 R5). -/
inductive Valve where
  | closed | slow | full
  deriving DecidableEq, Repr

/-- 03 R70. -/
inductive Grant where
  | full | slow | hold
  deriving DecidableEq, Repr

/-- 01 R22, 06 R134. -/
inductive EndCause where
  | preset | hangup | cancel | time | laneStop | shutdown | noflow | tankLow | pump | power
  deriving DecidableEq, Repr

/-- Template C1 to C6 (index 0 to 5) or LANE (01 R1). -/
inductive CurveSource where
  | template (n : Fin 6)
  | lane
  deriving DecidableEq, Repr

/-- 03 R58. -/
inductive ProductKind where
  | fuel | lube
  deriving DecidableEq, Repr

/-- 03 4.2. -/
inductive PumpState where
  | stopped | queued | starting | running | runon | failed
  deriving DecidableEq, Repr

/-- 03 R67. -/
inductive PumpReason where
  | proveTimeout | proveLost
  deriving DecidableEq, Repr

/-- 04 R86. -/
inductive GaugeStatus where
  | unpolled | good | stale | lost
  deriving DecidableEq, Repr

/-- 04 R91. -/
inductive Band where
  | noBand | normal | lowBand | cutOff
  deriving DecidableEq, Repr

/-- 08 R178. -/
inductive VarianceClass where
  | v0 | v1 | v2 | v3 | v4 | v5
  deriving DecidableEq, Repr

/-- The two states of a receipt in progress (04 R94); no receipt is NONE. -/
inductive ReceiptState where
  | opened | settling
  deriving DecidableEq, Repr

/-- 04 R94. -/
inductive SettleCause where
  | close | shutdown | overfillStop | power
  deriving DecidableEq, Repr

/-- 05 R107. -/
inductive MachineStatus where
  | vacant | active | barred
  deriving DecidableEq, Repr

/-- 07 8.1. -/
inductive BayState where
  | disarmed | armed | shutting | shut | lockout
  deriving DecidableEq, Repr

/-- 07 8.2. -/
inductive CauseKind where
  | sump | hose | runaway | estop | overfill | tankleak | command
  deriving DecidableEq, Repr

/-- 07 R160. -/
inductive LockoutReason where
  | valveHeld | creep
  deriving DecidableEq, Repr

/-- 07 R149: NONE, PRESSED or LONG. -/
inductive PressState where
  | noPress | pressed | long
  deriving DecidableEq, Repr

/-- 08 R174. -/
inductive PeriodKind where
  | day | night | manual
  deriving DecidableEq, Repr

/-- 08 R182. -/
inductive CloseReason where
  | boundary | request | late
  deriving DecidableEq, Repr

/-- 08 R182. -/
inductive ClockState where
  | unset | adjusted | set
  deriving DecidableEq, Repr

/-- 06 R141. -/
inductive EndReason where
  | countDone | noMore | stopped | interrupted
  deriving DecidableEq, Repr

/-- Whether the part runs, or has lost VDD, or is held in reset (10 R200). -/
inductive Power where
  | running | vddLost | resetHeld
  deriving DecidableEq, Repr

/-- 10 R202. -/
inductive StartKind where
  | cold | warm | key
  deriving DecidableEq, Repr

/-- The reply statuses (09 R190). -/
inductive Status where
  | accepted | malformed | unknownKind | range | bayState | laneBusy | notConfigured | headerBusy | headerFailed
  | tankBusy | machineVacant | machineBarred | notPermitted | engaged | journalFull | gaugeLost | gaugeUnpolled
  | tankLow | tableInvalid | receiptOpen | noReceipt | wrongRecord | conditionPresent | busy | noneHeld | noPattern
  deriving DecidableEq, Repr

/-! ## Lanes (chapters 01 and 02) -/

/-- A timer that is running: the elapsed second it started at and its duration (log 4). A stopped timer is none. -/
structure Timer where
  start : Nat
  seconds : Nat
  deriving DecidableEq, Repr

/-- The journal flags (06 R135). -/
structure JournalFlags where
  short : Bool := false
  clamped : Bool := false
  hoursBackward : Bool := false
  hoursJump : Bool := false
  tempHeld : Bool := false
  tempClamped : Bool := false
  rateCapped : Bool := false
  saturated : Bool := false
  valveHeld : Bool := false
  burnHigh : Bool := false
  serviceReset : Bool := false
  deriving DecidableEq, Repr

/-- 01 R1 (R). -/
structure LaneRecord where
  product : Option (Fin 6) := none
  kFactor : Nat := 1000
  curve : CurveSource := .template 0
  spanTrim : Int := 0
  window : Nat := 8
  deriving DecidableEq, Repr

/-- The delivery in hand but its state and stage (01 R4, R). Cleared, every field is absent or zero. -/
structure Delivery where
  machine : Fin 512 := 0
  operator : Nat := 0
  preset : Nat := 0
  authTime : Nat := 0
  firstFlow : Option Nat := none
  gross : Nat := 0
  net : Nat := 0
  peak : Nat := 0
  hourReading : Option Nat := none
  accrued : Nat := 0
  service : Bool := false
  endCause : Option EndCause := none
  flags : JournalFlags := {}
  flowNotified : Bool := false
  rate : Nat := 0
  lastT10 : Option Int := none
  seq : Option Nat := none
  /-- The stage the lane ran when a HOLD last sent it to WAITING, for the last stage run of 01 R33. -/
  lastRun : Option Stage := none
  deriving DecidableEq, Repr

/-- A point of a meter curve: a rate in dL/min and a correction in ppm (02 R40). -/
structure CurvePoint where
  rate : Nat
  correction : Int
  deriving DecidableEq, Repr

/-- The lane totals of the current period (08 R180, R; owner the Period Unit). -/
structure LaneTotals where
  gross : Nat := 0
  net : Nat := 0
  peak : Nat := 0
  deliveries : Nat := 0
  preset : Nat := 0
  hangup : Nat := 0
  other : Nat := 0
  deriving DecidableEq, Repr

/-- One lane: its Lane Controller, its share of the Meter Engine, its grant and its period totals. -/
structure Lane where
  record : LaneRecord := {}
  state : LaneState := .idle
  stage : Option Stage := none
  delivery : Delivery := {}
  /-- The committed lane curve (02 R48, R). -/
  curve : Option (List CurvePoint) := none
  totals : LaneTotals := {}
  /-- The debounced nozzle state is OUT (01 R7, V). -/
  nozzleOut : Bool := true
  authTimer : Option Timer := none
  maxOpen : Option Timer := none
  closeLimit : Option Timer := none
  /-- The creep window's 60 s timer and count (01 R28, V). -/
  creepTimer : Option Timer := none
  creepCount : Nat := 0
  /-- The rate window, oldest count first (02 R37, V). -/
  rates : List Nat := []
  noFlowRun : Nat := 0
  quietRun : Nat := 0
  hoseCount : Nat := 0
  /-- The taken grant (03 R70, V). -/
  grant : Grant := .hold
  /-- The Header Arbiter's grant for the lane (03 R70, V; owner the Header Arbiter). -/
  arbiterGrant : Grant := .hold
  /-- The pulse counter, 0 to 65,535 (02 R34, V). -/
  pulses : Nat := 0
  grossResidue : Nat := 0
  netResidue : Nat := 0
  /-- The curve staging area (02 R45, V). -/
  staging : Vector (Option CurvePoint) 16 := Vector.replicate 16 none
  /-- A PUMP ending sent by the header and not yet taken (03 R67; log 1). -/
  pumpEnding : Bool := false
  /-- A TANK-LOW ending sent by the Tank Unit and not yet taken (04 R91; log 1). -/
  tankLowEnding : Bool := false
  /-- Valve failure reports sent to the Shutdown Unit and not yet taken (01 R25; log 1). -/
  valveReports : Nat := 0
  /-- Creep reports sent to the Shutdown Unit and not yet taken (01 R28; log 1). -/
  creepReports : Nat := 0
  /-- The report of leaving CLOSING, not yet taken (01 R23; log 1). -/
  leaveReport : Bool := false
  deriving DecidableEq, Repr

/-! ## Products, headers and the start slot (chapter 03) -/

/-- 03 R58 (R). -/
structure Product where
  kind : ProductKind := .fuel
  alpha : Nat := 0
  fullRate : Nat := 1000
  slowRate : Nat := 200
  primeVolume : Nat := 0
  trimVolume : Nat := 0
  closeAhead : Nat := 0
  maxFill : Nat := 100000
  maxOpen : Nat := 30
  noFlow : Nat := 15
  creepVolume : Nat := 200
  service : Bool := false
  feedTank : Option (Fin 8) := none
  pumpCapacity : Nat := 1000
  runOn : Nat := 30
  deriving DecidableEq, Repr

/-- 03 R61 (V). -/
structure Header where
  pump : PumpState := .stopped
  proving : Option Timer := none
  runOn : Option Timer := none
  /-- The debounced PROVE level is active. -/
  prove : Bool := false
  deriving DecidableEq, Repr

/-- The pump start queue and the start slot (03 R63, R64, V). -/
structure StartSlot where
  queue : List (Fin 6) := []
  free : Bool := false
  lastStart : Nat := 0
  deriving DecidableEq, Repr

/-! ## Tanks and the gauge bus (chapter 04) -/

/-- 04 R77 (R). -/
structure TankRecord where
  product : Option (Fin 6) := none
  address : Option Nat := none
  cutOff : Nat := 0
  lowBand : Nat := 0
  highHigh : Nat := 40000
  leakThreshold : Nat := 0
  alarmClass : VarianceClass := .v3
  deriving DecidableEq, Repr

/-- A point of a strapping table: a level in mm and a gross volume in cL (04 R79). -/
structure TablePoint where
  level : Nat
  volume : Nat
  deriving DecidableEq, Repr

/-- 04 R87 (R). -/
structure HeldReading where
  level : Nat
  temperature : Int
  water : Nat
  time : Nat
  net : Int
  counter : Nat
  deriving DecidableEq, Repr

/-- A receipt in progress (04 R94, R). `midRound` marks one closed while a round was running, whose end does not
count (04 R97). -/
structure Receipt where
  state : ReceiptState
  docket : Option Nat
  g0 : Int
  d0 : Nat
  openTime : Nat
  closeTime : Option Nat := none
  cause : Option SettleCause := none
  rounds : Nat := 0
  midRound : Bool := false
  deriving DecidableEq, Repr

/-- The result of a completed receipt, as RECEIPT-END reports it (04 R98). -/
structure ReceiptResult where
  cause : Option SettleCause
  openTime : Nat
  closeTime : Option Nat
  docket : Option Nat
  rise : Int
  credited : Int
  variance : Option Int
  held : Bool
  deriving DecidableEq, Repr

/-- One tank (chapter 04, and its OPENED-LATE mark of 08 R177). -/
structure Tank where
  record : TankRecord := {}
  table : Option (List TablePoint) := none
  staging : Vector (Option TablePoint) 32 := Vector.replicate 32 none
  status : GaugeStatus := .unpolled
  fails : Nat := 0
  /-- The GAUGE-LOST notice of the current LOST episode has been raised (04 R88, V). -/
  noticed : Bool := false
  held : Option HeldReading := none
  /-- The dispensed counter (04 R90, R). -/
  dispensed : Nat := 0
  sincePoll : Nat := 0
  band : Band := .noBand
  book : Int := 0
  bookSaturated : Bool := false
  receipt : Option Receipt := none
  lastReceipt : Option ReceiptResult := none
  highHigh : Bool := false
  /-- The overfill watch: armed with its stop level, or disarmed (04 R101, R). -/
  watch : Option Nat := none
  opening : Option Int := none
  periodDispensed : Nat := 0
  periodReceipts : Int := 0
  lostDuring : Bool := false
  overfillStop : Bool := false
  leak : Bool := false
  openedLate : Bool := false
  deriving DecidableEq, Repr

/-- The outstanding poll (04 R81, R82, V). -/
structure Poll where
  tank : Fin 8
  address : Nat
  /-- The poll's last byte is sent, GDE is released and the reply timer runs. -/
  sent : Bool := false
  /-- The tank was reconfigured after the poll began: its outcome counts as neither good nor failed (04 R78). -/
  void : Bool := false
  /-- The tank's receipt was closed after the poll began: its reply does not settle it (04 R97). -/
  beforeClose : Bool := false
  deriving DecidableEq, Repr

/-- The gauge bus and its rounds (04 R82 to R84, V). -/
structure GaugeBus where
  poll : Option Poll := none
  queue : List (Fin 8) := []
  /-- The running round: the lowest tank number it has still to consider. -/
  round : Option Nat := none
  roundPending : Bool := false
  /-- The elapsed second at which the latest round fell due. -/
  lastDue : Nat := 0
  deriving DecidableEq, Repr

/-! ## Machine accounts (chapter 05) -/

/-- 05 R106 (R). The engaged lanes are derived from the lanes (engagedLanes). -/
structure MachineRecord where
  status : MachineStatus := .vacant
  permitted : Mask := 0
  fuelCapacity : Nat := 0
  lastReading : Option Nat := none
  readingTime : Nat := 0
  timed : Bool := false
  hoursSinceBurn : Nat := 0
  fuelSinceBurn : Nat := 0
  burnAverage : Nat := 0
  serviceInterval : Nat := 0
  hoursSinceService : Nat := 0
  overdue : Bool := false
  recordPeriod : Nat := 0
  periodHours : Nat := 0
  periodNet : Vector Nat 6 := Vector.replicate 6 0
  lastHours : Nat := 0
  lastNet : Vector Nat 6 := Vector.replicate 6 0
  lifetime : Nat := 0
  deriving DecidableEq, Repr

/-! ## The journal (chapter 06) -/

/-- 06 R134 (R). `product` and `tank` are present in every record of a configured lane. -/
structure JournalRecord where
  seq : Nat
  lane : Fin 8
  product : Option (Fin 6)
  tank : Option (Fin 8)
  machine : Fin 512
  operator : Nat
  authTime : Nat
  firstFlow : Option Nat
  endTime : Nat
  cause : EndCause
  preset : Nat
  gross : Nat
  net : Nat
  peak : Nat
  endTemp : Int
  hourReading : Option Nat
  accrued : Nat
  burn : Option Nat
  period : Nat
  flags : JournalFlags
  deriving DecidableEq, Repr

/-- 06 R129 (R): the records from the oldest (tail) to the newest (head). -/
structure Journal where
  records : List JournalRecord := []
  lastSeq : Nat := 0
  wrapped : Bool := false
  reserved : Nat := 0
  deriving DecidableEq, Repr

/-- The burst cursor (06 7.5, V). `started` when the JOURNAL-READ's reply has been sent. -/
structure Burst where
  next : Nat
  count : Nat
  auto : Bool
  started : Bool := false
  sent : Nat := 0
  last : Nat := 0
  ending : Option EndReason := none
  deriving DecidableEq, Repr

/-! ## The Shutdown Unit (chapter 07) -/

/-- 07 R155 (R). -/
structure CauseRecord where
  kind : CauseKind
  first : Nat
  last : Nat
  repeats : Nat
  detail : Mask
  deriving DecidableEq, Repr

/-- 07 R160 (R). -/
structure Lockout where
  lane : Fin 8
  reason : LockoutReason
  time : Nat
  deriving DecidableEq, Repr

/-- The Shutdown Unit. The stack is held top first. -/
structure Shutdown where
  bay : BayState := .disarmed
  stack : List CauseRecord := []
  lockout : Option Lockout := none
  causes : Nat := 0
  laneStops : Nat := 0
  lockoutFlag : Bool := false
  /-- Bit i: sump i's debounced level is ACTIVE (07 R148, V). -/
  sumps : Mask := 0
  press : PressState := .noPress
  /-- KEY_N has been seen high since the last turn or start (07 R163, V). -/
  keySeenHigh : Bool := false
  /-- The set of lanes in CLOSING, from the lanes' reports (07 R152, V). -/
  closing : Mask := 0
  deriving DecidableEq, Repr

/-! ## The Period Unit (chapter 08) -/

/-- 08 R173 (R). `reached` when the running clock has reached the due time (log 15). -/
structure NextBoundary where
  due : Nat
  kind : PeriodKind
  reached : Bool := false
  deriving DecidableEq, Repr

/-- The flags of a tank section (08 R177). -/
structure TankFlags where
  gaugeHeld : Bool := false
  lostDuring : Bool := false
  overfillStop : Bool := false
  leak : Bool := false
  openedLate : Bool := false
  receiptActive : Bool := false
  deriving DecidableEq, Repr

/-- One tank's section of the report (08 R182): O, R, D, C, V, ppm and class (none is NONE). -/
structure TankSection where
  configured : Bool
  product : Option (Fin 6)
  alarmClass : VarianceClass
  opening : Option Int
  receipts : Int
  dispensed : Nat
  closing : Option Int
  variance : Option Int
  ppm : Option Int
  cls : Option VarianceClass
  flags : TankFlags
  deriving DecidableEq, Repr

/-- One lane's section of the report (08 R182). -/
structure LaneSection where
  product : Option (Fin 6)
  totals : LaneTotals
  deriving DecidableEq, Repr

/-- The report header (08 R182). -/
structure ReportHeader where
  number : Nat
  kind : PeriodKind
  reason : CloseReason
  startTime : Nat
  endTime : Nat
  clockState : ClockState
  alarms : Nat
  deriving DecidableEq, Repr

/-- 08 R182 (R). -/
structure Report where
  header : ReportHeader
  tanks : Vector TankSection 8
  lanes : Vector LaneSection 8
  causes : Nat
  laneStops : Nat
  lockoutFlag : Bool
  deriving DecidableEq, Repr

/-- The Period Unit (08 R171, R173, R174, R182). -/
structure Period where
  clock : Nat := 0
  clockSet : Bool := false
  next : Option NextBoundary := none
  /-- A boundary the running clock has reached, not yet taken (V; log 15). -/
  boundaryDue : Option PeriodKind := none
  number : Nat := 0
  kind : PeriodKind := .manual
  startTime : Nat := 0
  adjusted : Bool := true
  report : Option Report := none
  deriving DecidableEq, Repr

/-- The bay settings (09 R197). -/
structure Settings where
  stagger : Nat := 3
  authTimeout : Nat := 120
  burnBand : Nat := 40
  boundaries : Option (Nat × Nat) := none
  maskLevel : Nat := 0
  roundPeriod : Nat := 10
  deriving DecidableEq, Repr

/-! ## The Link Interface (chapter 09) -/

/-- A notice's fields beyond its clock time, by kind (09 R193 and the rules it names). -/
inductive NoticeBody where
  | shutdown (kind : CauseKind) (detail : Mask) (repeats : Nat) (merged : Bool) (depth : Nat) (bay : BayState)
  | lockout (lane : Fin 8) (reason : LockoutReason) (depth : Nat) (top : Option CauseKind)
  | pumpFail (header : Fin 6) (reason : PumpReason)
  | gaugeLost (tank : Fin 8) (heldTime : Nat) (fails : Nat)
  | overfillStop (tank : Fin 8) (level : Nat)
  | retentionLost
  | tankLow (tank : Fin 8) (product : Option (Fin 6)) (estimate : Int)
  | variance (period : Nat) (tank : Fin 8) (product : Option (Fin 6)) (v ppm : Int) (cls : VarianceClass)
      (flags : TankFlags)
  | burnHigh (machine : Fin 512) (lane : Fin 8) (burn average : Nat)
  | deliveryEnd (lane : Fin 8) (seq : Nat) (cause : EndCause) (gross net : Nat)
  | receiptEnd (tank : Fin 8) (result : ReceiptResult)
  | reportReady (number : Nat) (kind : PeriodKind) (alarms : Nat)
  | serviceOverdue (machine : Fin 512) (lane : Fin 8) (hours interval : Nat)
  | laneStop (lengthMs : Nat) (lanes : Mask)
  | laneFlow (lane : Fin 8) (machine : Fin 512)
  | authExpired (lane : Fin 8) (machine : Fin 512)
  deriving DecidableEq, Repr

/-- A notice with the clock time at which it was queued (09 R193). -/
structure Notice where
  time : Nat
  body : NoticeBody
  deriving DecidableEq, Repr

/-- The reply flags of AUTHORISE (01 R12). -/
structure ReplyFlags where
  clamped : Bool := false
  serviceDue : Bool := false
  serviceOverdue : Bool := false
  hoursBackward : Bool := false
  hoursJump : Bool := false
  lowBand : Bool := false
  gaugeStale : Bool := false
  deriving DecidableEq, Repr

/-- LANE-QUERY's reply (01 R33): a field that is not present is none. -/
structure LaneView where
  state : LaneState
  stage : Option Stage
  nozzleOut : Bool
  valve : Valve
  grant : Grant
  machine : Option Nat
  operator : Option Nat
  preset : Option Nat
  authTime : Option Nat
  gross : Option Nat
  net : Option Nat
  peak : Option Nat
  rate : Option Nat
  firstFlow : Option Nat
  endCause : Option EndCause
  flags : Option JournalFlags
  authLeft : Option Nat
  openLeft : Option Nat
  creep : Option Nat
  record : LaneRecord
  seq : Option Nat
  deriving DecidableEq, Repr

/-- TANK-QUERY's reply (04 R105). -/
structure TankView where
  record : TankRecord
  configured : Bool
  points : Nat
  status : GaugeStatus
  fails : Nat
  held : Option HeldReading
  sincePoll : Nat
  estimate : Option Int
  band : Band
  book : Int
  bookSaturated : Bool
  dispensed : Nat
  opening : Option Int
  periodDispensed : Nat
  periodReceipts : Int
  lostDuring : Bool
  overfillStop : Bool
  leak : Bool
  highHigh : Bool
  watch : Option Nat
  receipt : Option Receipt
  inlet : Bool
  lastReceipt : Option ReceiptResult
  queued : Bool
  outstanding : Bool
  deriving DecidableEq, Repr

/-- The service state MACHINE-READ shows (05 R123). -/
inductive ServiceState where
  | noService | ok | due | overdue
  deriving DecidableEq, Repr

/-- MACHINE-READ's reply (05 R123): the record, the engaged lane of each product, the service state. -/
structure MachineView where
  record : MachineRecord
  engaged : List (Fin 6 × Fin 8)
  service : ServiceState
  deriving DecidableEq, Repr

/-- The summary part of STATUS (09 R198). -/
structure Summary where
  clock : Nat
  clockSet : Bool
  period : Nat
  bay : BayState
  depth : Nat
  retentionLost : Bool
  overflow : Bool
  displaced : Bool
  notices : Nat
  maskLevel : Nat
  bursting : Bool
  held : Nat
  reserved : Nat
  free : Nat
  tail : Nat
  head : Nat
  lastSeq : Nat
  wrapped : Bool
  deriving DecidableEq, Repr

/-- One header's part of the HEADERS section of STATUS (09 R198, 03 R75). -/
structure HeaderView where
  pump : PumpState
  position : Nat
  prove : Bool
  secondsLeft : Nat
  granted : Nat
  deriving DecidableEq, Repr

/-- The section of STATUS (09 R198). -/
inductive StatusSection where
  | summary
  | shutdown (stack : List CauseRecord) (lockout : Option Lockout) (sumps : Mask) (press : PressState) (held : Bool)
      (keyPossible alert : Bool) (causes laneStops : Nat) (lockoutFlag : Bool)
  | headers (views : List HeaderView) (slotLeft : Nat)
  | settings (settings : Settings) (baudHigh : Bool)
  deriving DecidableEq, Repr

/-- The section REPORT-READ returns (08 R183). -/
inductive ReportPart where
  | bay (causes laneStops : Nat) (lockoutFlag : Bool)
  | tank (t : TankSection)
  | lane (l : LaneSection)
  deriving DecidableEq, Repr

/-- The fields of a reply after its status (09 R190 and the rule of each request). -/
inductive Payload where
  | empty
  | slot (index : Nat)
  | settings (settings : Settings)
  | clock (replaced : Nat)
  | authorised (preset : Nat) (flags : ReplyFlags)
  | laneState (state : LaneState)
  | lane (view : LaneView)
  | tank (view : TankView)
  | polled (added : Bool)
  | receiptOpened (g0 : Int) (heldTime : Nat)
  | book (replaced : Int)
  | machine (view : MachineView)
  | masks (first second : Mask)
  | journalStart (seq : Nat) (skipped : Bool) (intended : Nat)
  | journalAcked (released held tail free : Nat)
  | bay (state : BayState)
  | armBlocked (sumps : Mask) (stopHeld : Bool)
  | shutdownTaken (state : BayState) (depth : Nat) (entered : Bool)
  | topKind (kind : Option CauseKind)
  | members (mask : Mask)
  | cleared (kind : CauseKind) (depth : Nat) (top : Option CauseKind) (state : BayState)
  | pump (state : PumpState)
  | status (summary : Summary) (part : StatusSection)
  | periods (closed opened : Nat)
  | report (header : ReportHeader) (part : ReportPart)
  deriving DecidableEq, Repr

/-- What an owner answers a request with: the status and the fields that follow. -/
structure Answer where
  status : Status
  payload : Payload := .empty
  deriving DecidableEq, Repr

/-- A reply: the KIND of the request it answers, the request's TAG and the answer (09 R190). -/
structure Reply where
  kind : Byte
  tag : Byte
  answer : Answer
  deriving DecidableEq, Repr

/-- JOURNAL-END (06 R141). -/
structure JournalEnd where
  reason : EndReason
  sent : Nat
  last : Nat
  held : Nat
  tail : Nat
  head : Nat
  reserved : Nat
  free : Nat
  deriving DecidableEq, Repr

/-- The message being sent on HTX (09 R192). -/
inductive TxMessage where
  | reply (r : Reply)
  | record (r : JournalRecord)
  | journalEnd (e : JournalEnd)
  | notice (n : Notice)
  deriving DecidableEq, Repr

/-- A received request frame waiting in the hold (09 R188). -/
structure HeldFrame where
  kind : Byte
  tag : Byte
  body : List Byte
  deriving DecidableEq, Repr

/-- The receive frame assembler (09 R187): HUNT, or ASSEMBLING with the bytes collected after the sync. -/
inductive Assembler where
  | hunt
  | assembling (bytes : List Byte)
  deriving DecidableEq, Repr

/-- The Link Interface (V). -/
structure Link where
  assembler : Assembler := .hunt
  hold : List HeldFrame := []
  reply : Option Reply := none
  line : Option TxMessage := none
  notices : List Notice := []
  overflow : Bool := false
  displaced : Bool := false
  retentionLost : Bool := false
  baudHigh : Bool := false
  deriving DecidableEq, Repr

/-! ## The part -/

/-- The whole part, and the queue of commands waiting for it. -/
structure State where
  /-- The commands waiting, first in, first out. -/
  pending : List Instr
  power : Power
  marker : Bool
  startKind : StartKind
  /-- The model's measure of elapsed time: seconds since the start (log 4). -/
  elapsed : Nat
  /-- The model's counter of free values (log 4). -/
  freeCount : Nat
  lanes : Vector Lane 8
  products : Vector Product 6
  headers : Vector Header 6
  slot : StartSlot
  tanks : Vector Tank 8
  bus : GaugeBus
  machines : Vector MachineRecord 512
  pattern : Option PatternFields
  journal : Journal
  burst : Option Burst
  shutdown : Shutdown
  period : Period
  settings : Settings
  link : Link
  deriving DecidableEq, Repr

/-! ## Field updates -/

namespace State

def setPending (s : State) (v : List Instr) : State := { s with pending := v }
def setPower (s : State) (v : Power) : State := { s with power := v }
def setMarker (s : State) (v : Bool) : State := { s with marker := v }
def setStartKind (s : State) (v : StartKind) : State := { s with startKind := v }
def setElapsed (s : State) (v : Nat) : State := { s with elapsed := v }
def setFreeCount (s : State) (v : Nat) : State := { s with freeCount := v }
def setLanes (s : State) (v : Vector Lane 8) : State := { s with lanes := v }
def setProducts (s : State) (v : Vector Product 6) : State := { s with products := v }
def setHeaders (s : State) (v : Vector Header 6) : State := { s with headers := v }
def setSlot (s : State) (v : StartSlot) : State := { s with slot := v }
def setTanks (s : State) (v : Vector Tank 8) : State := { s with tanks := v }
def setBus (s : State) (v : GaugeBus) : State := { s with bus := v }
def setMachines (s : State) (v : Vector MachineRecord 512) : State := { s with machines := v }
def setPattern (s : State) (v : Option PatternFields) : State := { s with pattern := v }
def setJournal (s : State) (v : Journal) : State := { s with journal := v }
def setBurst (s : State) (v : Option Burst) : State := { s with burst := v }
def setShutdown (s : State) (v : Shutdown) : State := { s with shutdown := v }
def setPeriod (s : State) (v : Period) : State := { s with period := v }
def setSettings (s : State) (v : Settings) : State := { s with settings := v }
def setLink (s : State) (v : Link) : State := { s with link := v }

/-- The part after a cold start (10 R203, R204) with the BAUD strap as given: every retained item at its cold-start
value, every volatile one at its after-start value. The RETENTION-LOST notice, the first queued, has been taken by the
arbiter and is being sent; the first gauge round fell due at the start and, with no tank configured, ended there. -/
def afterColdStart (baudHigh : Bool) : State where
  pending := []
  power := .running
  marker := true
  startKind := .cold
  elapsed := 0
  freeCount := 0
  lanes := Vector.replicate 8 {}
  products := Vector.replicate 6 {}
  headers := Vector.replicate 6 {}
  slot := {}
  tanks := Vector.replicate 8 {}
  bus := {}
  machines := Vector.replicate 512 {}
  pattern := none
  journal := {}
  burst := none
  shutdown := {}
  period := {}
  settings := {}
  link := { line := some (.notice ⟨0, .retentionLost⟩), retentionLost := true, baudHigh := baudHigh }

/-- The machine right after reset: the part after its cold start, BAUD strap low (log 6). -/
def reset : State := afterColdStart false

end State

/-- Why the part would stop with a fault. The spec names none: every meaning answers a next state. -/
inductive Fault where
  /-- Raised by nobody: no rule of the spec stops the part (INVENTORY.md, Faults). Safe: a fault only withholds a
  next state. -/
  | partStopped
  deriving DecidableEq, Repr

/-- Why the model would refuse a command. -/
inductive Refusal where
  /-- Raised by an arm of exec for a command that has no meaning yet. Safe: no next state is claimed. -/
  | notModelled (mnemonic : String)
  deriving DecidableEq, Repr

end Sys2Proof.Machine
end

