-- ==== Sys2Proof/Machine/Ops.lean ====
section
/-! DEFINITION. The named operations every meaning shares: reading and changing one lane, product, header, tank or
machine record, walking over them in ascending number, elapsed time and timers, the derived facts of the tanks and
lanes, and raising a notice. -/
namespace Sys2Proof.Machine

/-! ## Reading and changing one unit -/

namespace State

def lane (s : State) (i : Fin 8) : Lane := s.lanes[i]
def product (s : State) (p : Fin 6) : Product := s.products[p]
def header (s : State) (h : Fin 6) : Header := s.headers[h]
def tank (s : State) (t : Fin 8) : Tank := s.tanks[t]
def machine (s : State) (m : Fin 512) : MachineRecord := s.machines[m]

def modLane (i : Fin 8) (f : Lane → Lane) (s : State) : State := s.setLanes (s.lanes.set i (f s.lanes[i]))
def modProduct (p : Fin 6) (f : Product → Product) (s : State) : State :=
  s.setProducts (s.products.set p (f s.products[p]))
def modHeader (h : Fin 6) (f : Header → Header) (s : State) : State := s.setHeaders (s.headers.set h (f s.headers[h]))
def modTank (t : Fin 8) (f : Tank → Tank) (s : State) : State := s.setTanks (s.tanks.set t (f s.tanks[t]))
def modMachine (m : Fin 512) (f : MachineRecord → MachineRecord) (s : State) : State :=
  s.setMachines (s.machines.set m (f s.machines[m]))

def modSlot (f : StartSlot → StartSlot) (s : State) : State := s.setSlot (f s.slot)
def modBus (f : GaugeBus → GaugeBus) (s : State) : State := s.setBus (f s.bus)
def modJournal (f : Journal → Journal) (s : State) : State := s.setJournal (f s.journal)
def modShutdown (f : Shutdown → Shutdown) (s : State) : State := s.setShutdown (f s.shutdown)
def modPeriod (f : Period → Period) (s : State) : State := s.setPeriod (f s.period)
def modLink (f : Link → Link) (s : State) : State := s.setLink (f s.link)

/-- The clock every event time is read from (08 R171). -/
def now (s : State) : Nat := s.period.clock

end State

/-- L0 to L7, T0 to T7 and the like, in ascending number. -/
def eightNumbers : List (Fin 8) := [0, 1, 2, 3, 4, 5, 6, 7]

/-- H0 to H5 and P0 to P5, in ascending number. -/
def sixNumbers : List (Fin 6) := [0, 1, 2, 3, 4, 5]

/-- Apply f for each of eight units in ascending number. -/
def eachOfEight (f : Fin 8 → State → State) (s : State) : State := eightNumbers.foldl (fun t i => f i t) s

/-- Apply f for each of six units in ascending number. -/
def eachOfSix (f : Fin 6 → State → State) (s : State) : State := sixNumbers.foldl (fun t i => f i t) s

/-- The eight values f gives, as a vector. -/
def eightOf {α : Type} (f : Fin 8 → α) : Vector α 8 := #v[f 0, f 1, f 2, f 3, f 4, f 5, f 6, f 7]

/-- The set of those of the eight units that satisfy p (00_scope.md 1.3.4). -/
def maskOf (p : Fin 8 → Bool) : Mask :=
  BitVec.ofNat 8 (eightNumbers.foldl (fun n i => if p i then n + 2 ^ i.val else n) 0)

/-- The mask that holds one member. -/
def oneMember (i : Fin 8) : Mask := 1#8 <<< i.val

/-! ## Saturation -/

/-- x + n, or the limit where it would pass it (00_scope.md 1.3.2). -/
def satAdd (limit x n : Nat) : Nat := min limit (x + n)

/-- v clamped to lo and hi. -/
def clampInt (lo hi v : Int) : Int := max lo (min hi v)

/-! ## Elapsed time (log 4) -/

/-- The free value that says where within its second the k-th elapsed-time reading of this event falls. -/
def State.phase (s : State) (k : Nat) : Bool := Config.freePhase (s.freeCount + k)

/-- This event has read n elapsed times. -/
def State.usePhases (n : Nat) (s : State) : State := s.setFreeCount (s.freeCount + n)

/-- The whole seconds left on a timer, when the clock seconds counted since its start are one more or one fewer part
second away from the true elapsed time. -/
def Timer.left (t : Timer) (elapsed : Nat) (phase : Bool) : Nat := t.start + t.seconds - elapsed - phase.toNat

/-- Has an elapsed time of `counted` clock seconds, exact to a part second, reached `wanted` seconds? -/
def hasElapsed (counted wanted : Nat) (phase : Bool) : Bool :=
  wanted == 0 || wanted < counted || (counted == wanted && phase)

/-- A timer started now. -/
def State.startTimer (s : State) (seconds : Nat) : Timer := ⟨s.elapsed, seconds⟩

/-! ## What the records say of each other -/

/-- A lane in WAITING, FLOWING or TRIMMING: it makes a demand (01 R5, 03 R62). -/
def LaneState.demands : LaneState → Bool
  | .waiting | .flowing | .trimming => true
  | .idle | .authorised | .closing | .done => false

/-- A lane in AUTHORISED through CLOSING: it holds a reservation and an engagement (05 R109, 06 R131). -/
def LaneState.holdsReservation : LaneState → Bool
  | .authorised | .waiting | .flowing | .trimming | .closing => true
  | .idle | .done => false

/-- A lane in WAITING through CLOSING: its samples are metered (02 R35). -/
def LaneState.metered : LaneState → Bool
  | .waiting | .flowing | .trimming | .closing => true
  | .idle | .authorised | .done => false

/-- The product's feed tank: the tank its record names, if that tank's record names the product (03 R59). -/
def State.feedTank (s : State) (p : Fin 6) : Option (Fin 8) :=
  match (s.product p).feedTank with
  | none => none
  | some t => if (s.tank t).record.product = some p then some t else none

/-- The product whose feed tank this tank is (04 R91). -/
def State.fedProduct (s : State) (t : Fin 8) : Option (Fin 6) :=
  match (s.tank t).record.product with
  | none => none
  | some p => if (s.product p).feedTank = some t then some p else none

/-- The feed tank of the lane's product. -/
def State.laneTank (s : State) (i : Fin 8) : Option (Fin 8) :=
  match (s.lane i).record.product with
  | none => none
  | some p => s.feedTank p

/-- The lane's product is p. -/
def State.laneOn (s : State) (p : Fin 6) (i : Fin 8) : Bool := (s.lane i).record.product == some p

/-- Some lane of product p is out of IDLE. -/
def State.productBusy (s : State) (p : Fin 6) : Bool :=
  eightNumbers.any fun i => s.laneOn p i && (s.lane i).state != .idle

/-- The header has demand (03 R62). -/
def State.headerDemand (s : State) (h : Fin 6) : Bool :=
  eightNumbers.any fun i => s.laneOn h i && (s.lane i).state.demands

/-- A tank is configured (04 R77). -/
def Tank.configured (t : Tank) : Bool := t.record.product.isSome && t.record.address.isSome && t.table.isSome

/-- The tank's estimate: its held net less what was dispensed since (04 R90). -/
def Tank.estimate (t : Tank) : Option Int := t.held.map fun h => h.net - t.sincePoll

/-- The band of an estimate (04 R91). -/
def TankRecord.bandOf (r : TankRecord) : Option Int → Band
  | none => .noBand
  | some e => if e ≤ r.cutOff then .cutOff else if e ≤ r.cutOff + r.lowBand then .lowBand else .normal

/-- The tank's INLET output: driven while, and only while, its receipt is OPEN (04 R94). -/
def Tank.inlet (t : Tank) : Bool :=
  match t.receipt with
  | some r => r.state == .opened
  | none => false

/-- The engaged lanes of a machine, product by product (05 R106, R109): derived from the lanes' deliveries. -/
def State.engagedLanes (s : State) (m : Fin 512) : List (Fin 6 × Fin 8) :=
  sixNumbers.flatMap fun p =>
    (eightNumbers.filter fun i =>
      s.laneOn p i && (s.lane i).state.holdsReservation && (s.lane i).delivery.machine == m).map fun i => (p, i)

/-- The record is engaged (05 R109). -/
def State.engaged (s : State) (m : Fin 512) : Bool :=
  eightNumbers.any fun i => (s.lane i).state.holdsReservation && (s.lane i).delivery.machine == m

/-! ## Notices (09 R193 to R195) -/

/-- The level of each kind of notice (09 R193). -/
def NoticeBody.level : NoticeBody → Nat
  | .shutdown .. => 7
  | .lockout .. => 7
  | .pumpFail .. => 6
  | .gaugeLost .. => 6
  | .overfillStop .. => 6
  | .retentionLost => 6
  | .tankLow .. => 5
  | .variance .. => 5
  | .burnHigh .. => 5
  | .deliveryEnd .. => 4
  | .receiptEnd .. => 4
  | .reportReady .. => 3
  | .serviceOverdue .. => 3
  | .laneStop .. => 3
  | .laneFlow .. => 2
  | .authExpired .. => 1

def Notice.level (n : Notice) : Nat := n.body.level

/-- Admission against the mask level: level 7 always, else above the mask level (09 R194). -/
def noticeAdmitted (maskLevel level : Nat) : Bool := level == 7 || maskLevel < level

/-- The lowest level, below `level`, among the queued notices (09 R195). -/
def lowestBelow (level : Nat) : List Notice → Option Nat
  | [] => none
  | n :: rest =>
    let below := lowestBelow level rest
    if n.level < level then some (match below with | none => n.level | some l => min l n.level) else below

/-- Offer a notice to the queue of 32: it joins the tail; into a full queue it displaces the oldest notice of the
lowest level below its own, or is discarded (09 R194, R195). -/
def Link.offer (n : Notice) (k : Link) : Link :=
  if k.notices.length < 32 then { k with notices := k.notices ++ [n] }
  else
    match lowestBelow n.level k.notices with
    | some l => { k with notices := k.notices.eraseP (fun m => m.level == l) ++ [n], displaced := true }
    | none => { k with overflow := true }

/-- Raise a notice: it carries the clock at which it is queued (09 R193) and is tested for admission (R194). -/
def State.notify (b : NoticeBody) (s : State) : State :=
  if noticeAdmitted s.settings.maskLevel b.level then s.modLink (Link.offer ⟨s.now, b⟩) else s

/-- A use of a tank's reading (04 R88): the first use in a LOST episode raises GAUGE-LOST. -/
def State.useReading (t : Fin 8) (s : State) : State :=
  if (s.tank t).status = .lost ∧ (s.tank t).noticed = false then
    (s.modTank t fun k => { k with noticed := true }).notify
      (.gaugeLost t (((s.tank t).held.map HeldReading.time).getD 0) (s.tank t).fails)
  else s

end Sys2Proof.Machine
end

