-- ==== Sys2Proof/Machine/Flags.lean ====
section
/-! DEFINITION. The flag sets: their unions, their bits on the link and in the journal record, and the conditions under
which the flags that follow from figures are set. -/
namespace Sys2Proof.Machine

/-- Both sets of journal flags together: a flag once earned stays with the delivery (01 R16, R17). -/
def JournalFlags.union (a b : JournalFlags) : JournalFlags where
  short := a.short || b.short
  clamped := a.clamped || b.clamped
  hoursBackward := a.hoursBackward || b.hoursBackward
  hoursJump := a.hoursJump || b.hoursJump
  tempHeld := a.tempHeld || b.tempHeld
  tempClamped := a.tempClamped || b.tempClamped
  rateCapped := a.rateCapped || b.rateCapped
  saturated := a.saturated || b.saturated
  valveHeld := a.valveHeld || b.valveHeld
  burnHigh := a.burnHigh || b.burnHigh
  serviceReset := a.serviceReset || b.serviceReset

/-- A set of flags as a number, the first in bit 0 (09 R191). -/
def flagBits : List Bool → Nat
  | [] => 0
  | b :: rest => b.toNat + 2 * flagBits rest

/-- The 16-bit flags field of a journal record: bit numbers of 06 R135. -/
def JournalFlags.bits (f : JournalFlags) : Nat :=
  flagBits [f.short, f.clamped, f.hoursBackward, f.hoursJump, f.tempHeld, f.tempClamped, f.rateCapped, f.saturated,
    f.valveHeld, f.burnHigh, f.serviceReset]

/-- AUTHORISE's reply flags in the order of 01 R12. -/
def ReplyFlags.bits (f : ReplyFlags) : Nat :=
  flagBits [f.clamped, f.serviceDue, f.serviceOverdue, f.hoursBackward, f.hoursJump, f.lowBand, f.gaugeStale]

/-- A tank section's flags in the order of 08 R177. -/
def TankFlags.bits (f : TankFlags) : Nat :=
  flagBits [f.gaugeHeld, f.lostDuring, f.overfillStop, f.leak, f.openedLate, f.receiptActive]

/-- SHORT: the end cause is not PRESET and gross plus close-ahead is less than the effective preset (01 R24). -/
def shortFlag (cause : EndCause) (gross closeAhead preset : Nat) : Bool :=
  cause != .preset && decide (gross + closeAhead < preset)

/-- CLAMPED: the effective preset is lower than a nonzero requested preset (01 R12). -/
def clampedFlag (requested effective : Nat) : Bool := requested != 0 && decide (effective < requested)

/-- SERVICE-DUE and SERVICE-OVERDUE from the interval and the hours since service (05 R114). -/
def serviceDueFlag (interval hours : Nat) : Bool := decide (0 < interval) && decide (interval ≤ hours)
def serviceOverdueFlag (interval hours : Nat) : Bool :=
  decide (0 < interval) && decide (interval ≤ hours) && decide (interval * 11 / 10 ≤ hours)

end Sys2Proof.Machine
end

