-- ==== Sys2Proof/Machine/Operands.lean ====
section
/-! DEFINITION. The operand forms of the host requests: each field of a body read as what it names, or refused where
it lies outside the range its owner's rule gives (the RANGE checks). A reader answers none for a value out of range. -/
namespace Sys2Proof.Machine

/-- A lane or tank number 0 to 7. -/
def eightNumber (n : Nat) : Option (Fin 8) := if h : n < 8 then some ⟨n, h⟩ else none

/-- A product or header number 0 to 5. -/
def sixNumber (n : Nat) : Option (Fin 6) := if h : n < 6 then some ⟨n, h⟩ else none

/-- A machine number 0 to 511. -/
def machineNumber (n : Nat) : Option (Fin 512) := if h : n < 512 then some ⟨n, h⟩ else none

/-- A product field: P0 to P5, or NONE as 255 (09 R191). -/
def productCode (n : Nat) : Option (Option (Fin 6)) := if n = 255 then some none else (sixNumber n).map some

/-- A tank field: T0 to T7, or none as 255. -/
def tankCode (n : Nat) : Option (Option (Fin 8)) := if n = 255 then some none else (eightNumber n).map some

/-- A flag byte: 0 clear, 1 set (09 R191; log 19). -/
def flagCode : Nat → Option Bool
  | 0 => some false
  | 1 => some true
  | _ => none

/-- A curve source: 1 to 6 for C1 to C6, 255 for LANE. -/
def curveCode (n : Nat) : Option CurveSource :=
  if n = 255 then some .lane
  else if 1 ≤ n then (sixNumber (n - 1)).map .template
  else none

/-- A product kind: FUEL 0, LUBE 1. -/
def kindCode : Nat → Option ProductKind
  | 0 => some .fuel
  | 1 => some .lube
  | _ => none

/-- A variance alarm class V1 to V5, by its number (04 R77). -/
def alarmCode : Nat → Option VarianceClass
  | 1 => some .v1
  | 2 => some .v2
  | 3 => some .v3
  | 4 => some .v4
  | 5 => some .v5
  | _ => none

/-- A machine status: VACANT 0, ACTIVE 1, BARRED 2. -/
def machineStatusCode : Nat → Option MachineStatus
  | 0 => some .vacant
  | 1 => some .active
  | 2 => some .barred
  | _ => none

/-- A cause kind, 0 to 6 in the order of 07 8.2. -/
def causeCode : Nat → Option CauseKind
  | 0 => some .sump
  | 1 => some .hose
  | 2 => some .runaway
  | 3 => some .estop
  | 4 => some .overfill
  | 5 => some .tankleak
  | 6 => some .command
  | _ => none

/-- The lane record of a LANE-SET, every field in the range of 01 R1, or none. -/
def readLaneRecord (f : LaneFields) : Option LaneRecord :=
  match productCode f.product, curveCode f.curveSource with
  | some p, some c =>
    if 10 ≤ f.kFactor ∧ f.kFactor ≤ 2000 ∧ -20000 ≤ f.spanTrim ∧ f.spanTrim ≤ 20000
        ∧ (f.window = 4 ∨ f.window = 8 ∨ f.window = 16) then
      some { product := p, kFactor := f.kFactor, curve := c, spanTrim := f.spanTrim, window := f.window }
    else none
  | _, _ => none

/-- The ranges of 03 R58 that are plain bounds, and the relations of R60. -/
def productRanges (f : ProductFields) : Bool :=
  decide (f.alpha ≤ 2000)
    && decide (1 ≤ f.fullRate) && decide (f.fullRate ≤ 15000)
    && decide (1 ≤ f.slowRate) && decide (f.slowRate ≤ f.fullRate)
    && decide (f.primeVolume ≤ 2000000)
    && decide (f.trimVolume ≤ 2000000) && decide (f.closeAhead ≤ f.trimVolume)
    && decide (100 ≤ f.maxFill) && decide (f.maxFill ≤ 2000000)
    && decide (1 ≤ f.maxOpen) && decide (f.maxOpen ≤ 60)
    && decide (5 ≤ f.noFlow) && decide (f.noFlow ≤ 60)
    && decide (50 ≤ f.creepVolume) && decide (f.creepVolume ≤ 1000)
    && decide (f.slowRate ≤ f.pumpCapacity) && decide (f.pumpCapacity ≤ 30000)
    && decide (f.runOn ≤ 120)

/-- The product record of a PRODUCT-SET, every field in range, or none (03 R60 check 1, but the feed tank's record). -/
def readProduct (f : ProductFields) : Option Product :=
  match kindCode f.kind, flagCode f.serviceFlag, tankCode f.feedTank with
  | some k, some sv, some t =>
    if productRanges f then
      some { kind := k, alpha := f.alpha, fullRate := f.fullRate, slowRate := f.slowRate, primeVolume := f.primeVolume,
             trimVolume := f.trimVolume, closeAhead := f.closeAhead, maxFill := f.maxFill, maxOpen := f.maxOpen,
             noFlow := f.noFlow, creepVolume := f.creepVolume, service := sv, feedTank := t,
             pumpCapacity := f.pumpCapacity, runOn := f.runOn }
    else none
  | _, _, _ => none

/-- A gauge address: 1 to 31, or NONE as 255. -/
def addressCode (n : Nat) : Option (Option Nat) :=
  if n = 255 then some none else if 1 ≤ n ∧ n ≤ 31 then some (some n) else none

/-- The tank record of a TANK-SET, every field in the range of 04 R77, or none (check 1 but the address's owner). -/
def readTankRecord (f : TankFields) : Option TankRecord :=
  match productCode f.product, addressCode f.gaugeAddress, alarmCode f.alarmClass with
  | some p, some a, some c =>
    if f.cutOff ≤ 1000000000 ∧ f.lowBand ≤ 1000000000 ∧ f.highHigh ≤ 40000 ∧ f.leakThreshold ≤ 1000000000 then
      some { product := p, address := a, cutOff := f.cutOff, lowBand := f.lowBand, highHigh := f.highHigh,
             leakThreshold := f.leakThreshold, alarmClass := c }
    else none
  | _, _, _ => none

/-- The shift boundaries: both none (65,535), or two minutes with B1 less than B2 (09 R197). -/
def boundaryPair (b1 b2 : Nat) : Option (Option (Nat × Nat)) :=
  if b1 = 65535 ∧ b2 = 65535 then some none
  else if b1 ≤ 1439 ∧ b2 ≤ 1439 ∧ b1 < b2 then some (some (b1, b2))
  else none

/-- The settings of a BAY-SET, every field in the range of 09 R197, or none. -/
def readSettings (f : BayFields) : Option Settings :=
  match boundaryPair f.boundary1 f.boundary2 with
  | some b =>
    if f.stagger ≤ 30 ∧ 10 ≤ f.authTimeout ∧ f.authTimeout ≤ 600 ∧ 10 ≤ f.burnBand ∧ f.burnBand ≤ 200
        ∧ f.maskLevel ≤ 6 ∧ 5 ≤ f.roundPeriod ∧ f.roundPeriod ≤ 60 then
      some { stagger := f.stagger, authTimeout := f.authTimeout, burnBand := f.burnBand, boundaries := b,
             maskLevel := f.maskLevel, roundPeriod := f.roundPeriod }
    else none
  | none => none

/-- What an AUTHORISE names, in the ranges of 01 R8. -/
structure AuthoriseOperands where
  lane : Fin 8
  machine : Fin 512
  service : Bool
  deriving DecidableEq, Repr

/-- The range checks of 01 R8 (and the service flag's byte, log 19). -/
def readAuthorise (f : AuthoriseFields) : Option AuthoriseOperands :=
  match eightNumber f.lane, machineNumber f.machine, flagCode f.serviceFlag with
  | some i, some m, some sv =>
    if f.hourReading.all (· ≤ 9999999) then some ⟨i, m, sv⟩ else none
  | _, _, _ => none

/-- The mask of a MACHINE-WRITE names writable field n (0 to 6) of 05 R124. -/
def masked (mask n : Nat) : Bool := mask.testBit n

/-- The mask names at least one writable field (05 R124). -/
def namesWritable (mask : Nat) : Bool := mask % 128 != 0

/-- Each masked value lies in its range (05 R124); values not masked are not checked. -/
def maskedInRange (mask : Nat) (v : MachineValues) : Bool :=
  (!masked mask 0 || (machineStatusCode v.status).isSome)
    && (!masked mask 1 || decide (v.permitted < 64))
    && (!masked mask 2 || decide (v.fuelCapacity ≤ 2000000))
    && (!masked mask 3 || decide (v.serviceInterval ≤ 999999))
    && (!masked mask 4 || decide (v.hoursSinceService ≤ 9999999))
    && (!masked mask 5 || v.hourBaseline.all (· ≤ 9999999))
    && (!masked mask 6 || decide (v.burnAverage ≤ 65535))

/-- The limit of a tank's book stock (04 R92). -/
def bookLimit : Int := 140737488355327

end Sys2Proof.Machine
end

