-- ==== Sys2Proof/Machine/Wire.lean ====
section
/-! DEFINITION. The byte layouts: the frame and its CRC (09 R185, R186), the bodies of requests, replies, notices and
burst messages (09 R191, 06 R135), and the gauge frames (04 R81). Multi-byte values are sent high byte first. -/
namespace Sys2Proof.Machine

/-! ## Numbers in bytes -/

/-- n in w bytes, high byte first. -/
def putNum : Nat → Nat → List Byte
  | 0, _ => []
  | w + 1, n => BitVec.ofNat 8 (n / 256 ^ w) :: putNum w n

/-- v in w bytes, two's complement, high byte first. -/
def putInt (w : Nat) (v : Int) : List Byte := putNum w (v % (256 ^ w : Int)).toNat

/-- A yes/no indicator, flag or mark: one byte, 0 or 1. -/
def putFlag (b : Bool) : List Byte := putNum 1 b.toNat

/-- A field that may be absent: a presence byte, then the field in its full width. -/
def putOption (w : Nat) : Option Nat → List Byte
  | none => 0 :: putNum w 0
  | some n => 1 :: putNum w n

/-- A signed field that may be absent. -/
def putOptionInt (w : Nat) : Option Int → List Byte
  | none => 0 :: putInt w 0
  | some v => 1 :: putInt w v

/-- A lane, tank, product or header field that takes the value none: 255. -/
def putIndex {n : Nat} : Option (Fin n) → List Byte
  | none => [255]
  | some i => putNum 1 i.val

/-- The number in some bytes, high byte first. -/
def getNum (bytes : List Byte) : Nat := bytes.foldl (fun n b => 256 * n + b.toNat) 0

/-- The w bytes of a body from offset `at'`, as a number. -/
def numAt (body : List Byte) (at' w : Nat) : Nat := getNum ((body.drop at').take w)

/-- The same in two's complement. -/
def intAt (body : List Byte) (at' w : Nat) : Int :=
  if numAt body at' w < 2 ^ (8 * w - 1) then (numAt body at' w : Int) else (numAt body at' w : Int) - 256 ^ w

/-- An optional field at an offset: its presence byte, then w bytes. -/
def optionAt (body : List Byte) (at' w : Nat) : Option Nat :=
  if numAt body at' 1 = 0 then none else some (numAt body (at' + 1) w)

/-! ## Request bodies (09 R191, R196) -/

end Sys2Proof.Machine

namespace Sys2Proof
open Machine (putNum putInt putOption)

/-- The KIND of each request (09 R196). -/
def Request.kind : Request → Byte
  | .productSet _ => 0x01
  | .laneSet _ => 0x02
  | .tankSet _ => 0x03
  | .tablePoint _ => 0x04
  | .tableCommit _ => 0x05
  | .curvePoint _ => 0x06
  | .curveCommit _ => 0x07
  | .baySet _ => 0x08
  | .timeSet _ => 0x09
  | .authorise _ => 0x10
  | .cancel _ => 0x11
  | .laneQuery _ => 0x12
  | .tankQuery _ => 0x18
  | .gaugeNow _ => 0x19
  | .receiptOpen _ => 0x1A
  | .receiptClose _ => 0x1B
  | .bookSet _ => 0x1C
  | .machineRead _ => 0x20
  | .machineWrite _ => 0x21
  | .patternLoad _ => 0x22
  | .groupApply _ => 0x23
  | .journalRead _ => 0x28
  | .journalStop => 0x29
  | .journalAck _ => 0x2A
  | .bayArm => 0x30
  | .bayDisarm => 0x31
  | .bayShutdown => 0x32
  | .bayClear _ => 0x33
  | .pumpReset _ => 0x34
  | .status _ => 0x35
  | .reportNow => 0x36
  | .reportRead _ => 0x37

/-- The seven writable fields of a MACHINE-WRITE or a pattern, in the order of 05 R124. -/
def MachineValues.body (v : MachineValues) : List Byte :=
  putNum 1 v.status ++ putNum 1 v.permitted ++ putNum 4 v.fuelCapacity ++ putNum 4 v.serviceInterval
    ++ putNum 4 v.hoursSinceService ++ putOption 4 v.hourBaseline ++ putNum 2 v.burnAverage

/-- The body of each request, its fields in the order its rule lists them. -/
def Request.body : Request → List Byte
  | .productSet f =>
    putNum 1 f.product ++ putNum 1 f.kind ++ putNum 2 f.alpha ++ putNum 2 f.fullRate ++ putNum 2 f.slowRate
      ++ putNum 4 f.primeVolume ++ putNum 4 f.trimVolume ++ putNum 4 f.closeAhead ++ putNum 4 f.maxFill
      ++ putNum 1 f.maxOpen ++ putNum 1 f.noFlow ++ putNum 2 f.creepVolume ++ putNum 1 f.serviceFlag
      ++ putNum 1 f.feedTank ++ putNum 2 f.pumpCapacity ++ putNum 1 f.runOn
  | .laneSet f =>
    putNum 1 f.lane ++ putNum 1 f.product ++ putNum 2 f.kFactor ++ putNum 1 f.curveSource ++ putInt 2 f.spanTrim
      ++ putNum 1 f.window
  | .tankSet f =>
    putNum 1 f.tank ++ putNum 1 f.product ++ putNum 1 f.gaugeAddress ++ putNum 4 f.cutOff ++ putNum 4 f.lowBand
      ++ putNum 2 f.highHigh ++ putNum 4 f.leakThreshold ++ putNum 1 f.alarmClass
  | .tablePoint f => putNum 1 f.tank ++ putNum 1 f.index ++ putNum 2 f.level ++ putNum 4 f.volume
  | .tableCommit f => putNum 1 f.owner ++ putNum 1 f.count
  | .curvePoint f => putNum 1 f.lane ++ putNum 1 f.index ++ putNum 2 f.rate ++ putInt 4 f.correction
  | .curveCommit f => putNum 1 f.owner ++ putNum 1 f.count
  | .baySet f =>
    putNum 1 f.stagger ++ putNum 2 f.authTimeout ++ putNum 1 f.burnBand ++ putNum 2 f.boundary1
      ++ putNum 2 f.boundary2 ++ putNum 1 f.maskLevel ++ putNum 1 f.roundPeriod
  | .timeSet n => putNum 4 n
  | .authorise f =>
    putNum 1 f.lane ++ putNum 2 f.machine ++ putNum 4 f.preset ++ putOption 4 f.hourReading
      ++ putNum 1 f.serviceFlag ++ putNum 2 f.operator
  | .cancel n => putNum 1 n
  | .laneQuery n => putNum 1 n
  | .tankQuery n => putNum 1 n
  | .gaugeNow n => putNum 1 n
  | .receiptOpen f => putNum 1 f.tank ++ putOption 4 f.docket
  | .receiptClose n => putNum 1 n
  | .bookSet f => putNum 1 f.tank ++ putInt 6 f.book
  | .machineRead n => putNum 2 n
  | .machineWrite f => putNum 2 f.machine ++ putNum 1 f.mask ++ f.values.body
  | .patternLoad f => putNum 1 f.mask ++ f.values.body
  | .groupApply f => putNum 2 f.base ++ putNum 1 f.members
  | .journalRead f => putNum 4 f.start ++ putNum 1 f.count ++ putNum 1 f.autoAck
  | .journalStop => []
  | .journalAck n => putNum 4 n
  | .bayArm => []
  | .bayDisarm => []
  | .bayShutdown => []
  | .bayClear n => putNum 1 n
  | .pumpReset n => putNum 1 n
  | .status n => putNum 1 n
  | .reportNow => []
  | .reportRead f => putNum 1 f.part ++ putNum 1 f.number

/-- The frame that carries a request with a tag. -/
def Request.frame (tag : Byte) (r : Request) : Machine.HeldFrame := ⟨r.kind, tag, r.body⟩

end Sys2Proof

namespace Sys2Proof.Machine

/-- The seven values at an offset of a body. -/
def valuesAt (b : List Byte) (at' : Nat) : MachineValues where
  status := numAt b at' 1
  permitted := numAt b (at' + 1) 1
  fuelCapacity := numAt b (at' + 2) 4
  serviceInterval := numAt b (at' + 6) 4
  hoursSinceService := numAt b (at' + 10) 4
  hourBaseline := optionAt b (at' + 14) 4
  burnAverage := numAt b (at' + 19) 2

/-- What a taken request frame is dispatched as (09 R189). -/
inductive Incoming where
  | request (r : Request)
  | unknownKind
  | malformed
  deriving DecidableEq, Repr

/-- A request body of the length its kind requires, with presence bytes 0 or 1 at the offsets given; MALFORMED
otherwise (09 R189). -/
def bodyOf (b : List Byte) (length : Nat) (presence : List Nat) (r : Request) : Incoming :=
  if b.length = length ∧ presence.all (fun p => numAt b p 1 ≤ 1) then .request r else .malformed

/-- Dispatch a taken frame by its KIND (09 R189, R196). -/
def HeldFrame.parse (f : HeldFrame) : Incoming :=
  let b := f.body
  match f.kind.toNat with
  | 0x01 => bodyOf b 33 [] (.productSet {
      product := numAt b 0 1, kind := numAt b 1 1, alpha := numAt b 2 2, fullRate := numAt b 4 2,
      slowRate := numAt b 6 2, primeVolume := numAt b 8 4, trimVolume := numAt b 12 4, closeAhead := numAt b 16 4,
      maxFill := numAt b 20 4, maxOpen := numAt b 24 1, noFlow := numAt b 25 1, creepVolume := numAt b 26 2,
      serviceFlag := numAt b 28 1, feedTank := numAt b 29 1, pumpCapacity := numAt b 30 2, runOn := numAt b 32 1 })
  | 0x02 => bodyOf b 8 [] (.laneSet {
      lane := numAt b 0 1, product := numAt b 1 1, kFactor := numAt b 2 2, curveSource := numAt b 4 1,
      spanTrim := intAt b 5 2, window := numAt b 7 1 })
  | 0x03 => bodyOf b 18 [] (.tankSet {
      tank := numAt b 0 1, product := numAt b 1 1, gaugeAddress := numAt b 2 1, cutOff := numAt b 3 4,
      lowBand := numAt b 7 4, highHigh := numAt b 11 2, leakThreshold := numAt b 13 4, alarmClass := numAt b 17 1 })
  | 0x04 => bodyOf b 8 [] (.tablePoint {
      tank := numAt b 0 1, index := numAt b 1 1, level := numAt b 2 2, volume := numAt b 4 4 })
  | 0x05 => bodyOf b 2 [] (.tableCommit { owner := numAt b 0 1, count := numAt b 1 1 })
  | 0x06 => bodyOf b 8 [] (.curvePoint {
      lane := numAt b 0 1, index := numAt b 1 1, rate := numAt b 2 2, correction := intAt b 4 4 })
  | 0x07 => bodyOf b 2 [] (.curveCommit { owner := numAt b 0 1, count := numAt b 1 1 })
  | 0x08 => bodyOf b 10 [] (.baySet {
      stagger := numAt b 0 1, authTimeout := numAt b 1 2, burnBand := numAt b 3 1, boundary1 := numAt b 4 2,
      boundary2 := numAt b 6 2, maskLevel := numAt b 8 1, roundPeriod := numAt b 9 1 })
  | 0x09 => bodyOf b 4 [] (.timeSet (numAt b 0 4))
  | 0x10 => bodyOf b 15 [7] (.authorise {
      lane := numAt b 0 1, machine := numAt b 1 2, preset := numAt b 3 4, hourReading := optionAt b 7 4,
      serviceFlag := numAt b 12 1, operator := numAt b 13 2 })
  | 0x11 => bodyOf b 1 [] (.cancel (numAt b 0 1))
  | 0x12 => bodyOf b 1 [] (.laneQuery (numAt b 0 1))
  | 0x18 => bodyOf b 1 [] (.tankQuery (numAt b 0 1))
  | 0x19 => bodyOf b 1 [] (.gaugeNow (numAt b 0 1))
  | 0x1A => bodyOf b 6 [1] (.receiptOpen { tank := numAt b 0 1, docket := optionAt b 1 4 })
  | 0x1B => bodyOf b 1 [] (.receiptClose (numAt b 0 1))
  | 0x1C => bodyOf b 7 [] (.bookSet { tank := numAt b 0 1, book := intAt b 1 6 })
  | 0x20 => bodyOf b 2 [] (.machineRead (numAt b 0 2))
  | 0x21 => bodyOf b 24 [17] (.machineWrite { machine := numAt b 0 2, mask := numAt b 2 1, values := valuesAt b 3 })
  | 0x22 => bodyOf b 22 [15] (.patternLoad { mask := numAt b 0 1, values := valuesAt b 1 })
  | 0x23 => bodyOf b 3 [] (.groupApply { base := numAt b 0 2, members := numAt b 2 1 })
  | 0x28 => bodyOf b 6 [] (.journalRead { start := numAt b 0 4, count := numAt b 4 1, autoAck := numAt b 5 1 })
  | 0x29 => bodyOf b 0 [] .journalStop
  | 0x2A => bodyOf b 4 [] (.journalAck (numAt b 0 4))
  | 0x30 => bodyOf b 0 [] .bayArm
  | 0x31 => bodyOf b 0 [] .bayDisarm
  | 0x32 => bodyOf b 0 [] .bayShutdown
  | 0x33 => bodyOf b 1 [] (.bayClear (numAt b 0 1))
  | 0x34 => bodyOf b 1 [] (.pumpReset (numAt b 0 1))
  | 0x35 => bodyOf b 1 [] (.status (numAt b 0 1))
  | 0x36 => bodyOf b 0 [] .reportNow
  | 0x37 => bodyOf b 2 [] (.reportRead { part := numAt b 0 1, number := numAt b 1 1 })
  | _ => .unknownKind

/-! ## Codes of the enumerated values (09 R191): numbered from 0 in the order of the list that defines them, but for
the statuses (09 R190) and the end causes (06 R135), which have codes of their own. -/

def LaneState.code : LaneState → Nat
  | .idle => 0 | .authorised => 1 | .waiting => 2 | .flowing => 3 | .trimming => 4 | .closing => 5 | .done => 6

def Stage.code : Stage → Nat
  | .prime => 0 | .main => 1 | .trim => 2

def Valve.code : Valve → Nat
  | .closed => 0 | .slow => 1 | .full => 2

def Grant.code : Grant → Nat
  | .full => 0 | .slow => 1 | .hold => 2

def EndCause.code : EndCause → Nat
  | .preset => 1 | .hangup => 2 | .cancel => 3 | .time => 4 | .laneStop => 5 | .shutdown => 6 | .noflow => 7
  | .tankLow => 8 | .pump => 9 | .power => 10

def CurveSource.code : CurveSource → Nat
  | .template n => n.val + 1
  | .lane => 255

def PumpState.code : PumpState → Nat
  | .stopped => 0 | .queued => 1 | .starting => 2 | .running => 3 | .runon => 4 | .failed => 5

def PumpReason.code : PumpReason → Nat
  | .proveTimeout => 0 | .proveLost => 1

def GaugeStatus.code : GaugeStatus → Nat
  | .unpolled => 0 | .good => 1 | .stale => 2 | .lost => 3

def Band.code : Band → Nat
  | .noBand => 0 | .normal => 1 | .lowBand => 2 | .cutOff => 3

def VarianceClass.code : VarianceClass → Nat
  | .v0 => 0 | .v1 => 1 | .v2 => 2 | .v3 => 3 | .v4 => 4 | .v5 => 5

/-- The receipt slot's state: NONE, OPEN or SETTLING. -/
def receiptCode : Option Receipt → Nat
  | none => 0
  | some r => match r.state with | .opened => 1 | .settling => 2

def SettleCause.code : SettleCause → Nat
  | .close => 0 | .shutdown => 1 | .overfillStop => 2 | .power => 3

def MachineStatus.code : MachineStatus → Nat
  | .vacant => 0 | .active => 1 | .barred => 2

def ServiceState.code : ServiceState → Nat
  | .noService => 0 | .ok => 1 | .due => 2 | .overdue => 3

def BayState.code : BayState → Nat
  | .disarmed => 0 | .armed => 1 | .shutting => 2 | .shut => 3 | .lockout => 4

def CauseKind.code : CauseKind → Nat
  | .sump => 0 | .hose => 1 | .runaway => 2 | .estop => 3 | .overfill => 4 | .tankleak => 5 | .command => 6

def LockoutReason.code : LockoutReason → Nat
  | .valveHeld => 0 | .creep => 1

def PressState.code : PressState → Nat
  | .noPress => 0 | .pressed => 1 | .long => 2

def PeriodKind.code : PeriodKind → Nat
  | .day => 0 | .night => 1 | .manual => 2

def CloseReason.code : CloseReason → Nat
  | .boundary => 0 | .request => 1 | .late => 2

def ClockState.code : ClockState → Nat
  | .unset => 0 | .adjusted => 1 | .set => 2

def EndReason.code : EndReason → Nat
  | .countDone => 0 | .noMore => 1 | .stopped => 2 | .interrupted => 3

/-- The status codes (09 R190). -/
def Status.code : Status → Nat
  | .accepted => 0x00 | .malformed => 0x01 | .unknownKind => 0x02 | .range => 0x03 | .bayState => 0x04
  | .laneBusy => 0x05 | .notConfigured => 0x06 | .headerBusy => 0x07 | .headerFailed => 0x08 | .tankBusy => 0x09
  | .machineVacant => 0x0A | .machineBarred => 0x0B | .notPermitted => 0x0C | .engaged => 0x0D
  | .journalFull => 0x0E | .gaugeLost => 0x0F | .gaugeUnpolled => 0x10 | .tankLow => 0x11 | .tableInvalid => 0x12
  | .receiptOpen => 0x13 | .noReceipt => 0x14 | .wrongRecord => 0x15 | .conditionPresent => 0x16 | .busy => 0x17
  | .noneHeld => 0x18 | .noPattern => 0x19

/-! ## Reply bodies -/

/-- A cause kind that may be none: 255 (log 17). -/
def putKind : Option CauseKind → List Byte
  | none => [255]
  | some k => putNum 1 k.code

def LaneRecord.body (r : LaneRecord) : List Byte :=
  putIndex r.product ++ putNum 2 r.kFactor ++ putNum 1 r.curve.code ++ putInt 2 r.spanTrim ++ putNum 1 r.window

def LaneView.body (v : LaneView) : List Byte :=
  putNum 1 v.state.code ++ putOption 1 (v.stage.map Stage.code) ++ putFlag (!v.nozzleOut) ++ putNum 1 v.valve.code
    ++ putNum 1 v.grant.code ++ putOption 2 v.machine ++ putOption 2 v.operator ++ putOption 4 v.preset
    ++ putOption 4 v.authTime ++ putOption 6 v.gross ++ putOption 6 v.net ++ putOption 4 v.peak ++ putOption 4 v.rate
    ++ putOption 4 v.firstFlow ++ putOption 1 (v.endCause.map EndCause.code)
    ++ putOption 2 (v.flags.map JournalFlags.bits) ++ putOption 2 v.authLeft ++ putOption 2 v.openLeft
    ++ putOption 2 v.creep ++ v.record.body ++ putOption 4 v.seq

def TankRecord.body (r : TankRecord) : List Byte :=
  putIndex r.product ++ putNum 1 (r.address.getD 255) ++ putNum 4 r.cutOff ++ putNum 4 r.lowBand
    ++ putNum 2 r.highHigh ++ putNum 4 r.leakThreshold ++ putNum 1 r.alarmClass.code

/-- The held reading of TANK-QUERY, or its absence. One presence byte before all its fields, and the 8 bytes of the
gauged net, are the model's, log 29. -/
def putHeld : Option HeldReading → List Byte
  | none => 0 :: (putNum 2 0 ++ putInt 2 0 ++ putNum 2 0 ++ putNum 4 0 ++ putInt 8 0)
  | some h => 1 :: (putNum 2 h.level ++ putInt 2 h.temperature ++ putNum 2 h.water ++ putNum 4 h.time ++ putInt 8 h.net)

/-- The receipt slot: its state, then every field of 04 R94, absent in NONE. A presence byte for each field, and the 8
bytes of G0, are the model's, log 29. -/
def putReceipt (r : Option Receipt) : List Byte :=
  putNum 1 (receiptCode r) ++ putOption 4 (r.bind Receipt.docket) ++ putOptionInt 8 (r.map Receipt.g0)
    ++ putOption 8 (r.map Receipt.d0) ++ putOption 4 (r.map Receipt.openTime) ++ putOption 4 (r.bind Receipt.closeTime)
    ++ putOption 1 ((r.bind Receipt.cause).map SettleCause.code) ++ putOption 1 (r.map Receipt.rounds)

/-- A receipt's result (04 R98). The 8 bytes of the rise, the credited volume and the variance are the model's, log
29. -/
def ReceiptResult.body (r : ReceiptResult) : List Byte :=
  putNum 1 ((r.cause.map SettleCause.code).getD 255) ++ putNum 4 r.openTime ++ putNum 4 (r.closeTime.getD 0)
    ++ putOption 4 r.docket ++ putInt 8 r.rise ++ putInt 8 r.credited ++ putOptionInt 8 r.variance ++ putFlag r.held

/-- The last receipt result, or its absence in full width. One presence byte before all its fields is the model's, log
29. -/
def putResult : Option ReceiptResult → List Byte
  | none => 0 :: (⟨some .close, 0, none, none, 0, 0, none, false⟩ : ReceiptResult).body
  | some r => 1 :: r.body

/-- TANK-QUERY's reply (04 R105). The 8 bytes of the since-poll dispensed, the estimate and the opening value, the watch
as a presence byte and its stop level, and the inlet as 1 while driven, are the model's, log 29. -/
def TankView.body (v : TankView) : List Byte :=
  v.record.body ++ putFlag v.configured ++ putNum 1 v.points ++ putNum 1 v.status.code ++ putNum 1 v.fails
    ++ putHeld v.held ++ putNum 8 v.sincePoll ++ putOptionInt 8 v.estimate ++ putNum 1 v.band.code ++ putInt 6 v.book
    ++ putFlag v.bookSaturated ++ putNum 8 v.dispensed ++ putOptionInt 8 v.opening ++ putNum 8 v.periodDispensed
    ++ putInt 8 v.periodReceipts ++ putFlag v.lostDuring ++ putFlag v.overfillStop ++ putFlag v.leak
    ++ putFlag v.highHigh ++ putOption 2 v.watch ++ putReceipt v.receipt ++ putFlag v.inlet ++ putResult v.lastReceipt
    ++ putFlag v.queued ++ putFlag v.outstanding

def MachineRecord.body (r : MachineRecord) : List Byte :=
  putNum 1 r.status.code ++ putNum 1 r.permitted.toNat ++ putNum 4 r.fuelCapacity ++ putOption 4 r.lastReading
    ++ putNum 4 r.readingTime ++ putFlag r.timed ++ putNum 4 r.hoursSinceBurn ++ putNum 4 r.fuelSinceBurn
    ++ putNum 2 r.burnAverage ++ putNum 4 r.serviceInterval ++ putNum 4 r.hoursSinceService ++ putFlag r.overdue
    ++ putNum 4 r.recordPeriod ++ putNum 4 r.periodHours ++ sixNumbers.flatMap (fun p => putNum 4 r.periodNet[p])
    ++ putNum 4 r.lastHours ++ sixNumbers.flatMap (fun p => putNum 4 r.lastNet[p]) ++ putNum 6 r.lifetime

/-- MACHINE-READ's reply (05 R123). That an engaged entry is the product and then the lane, in ascending product, is the
model's, log 29. -/
def MachineView.body (v : MachineView) : List Byte :=
  v.record.body ++ putNum 1 v.engaged.length ++ v.engaged.flatMap (fun e => putNum 1 e.1.val ++ putNum 1 e.2.val)
    ++ putNum 1 v.service.code

/-- The seven settings in the order of 09 R197; a boundary of none is 65,535. -/
def Settings.body (s : Settings) : List Byte :=
  putNum 1 s.stagger ++ putNum 2 s.authTimeout ++ putNum 1 s.burnBand
    ++ putNum 2 ((s.boundaries.map Prod.fst).getD 65535) ++ putNum 2 ((s.boundaries.map Prod.snd).getD 65535)
    ++ putNum 1 s.maskLevel ++ putNum 1 s.roundPeriod

/-- The summary part of STATUS (09 R198). The 2 bytes of the reservation count are the model's, log 29. -/
def Summary.body (v : Summary) : List Byte :=
  putNum 4 v.clock ++ putFlag v.clockSet ++ putNum 4 v.period ++ putNum 1 v.bay.code ++ putNum 1 v.depth
    ++ putFlag v.retentionLost ++ putFlag v.overflow ++ putFlag v.displaced ++ putNum 1 v.notices
    ++ putNum 1 v.maskLevel ++ putFlag v.bursting ++ putNum 2 v.held ++ putNum 2 v.reserved ++ putNum 2 v.free
    ++ putNum 4 v.tail ++ putNum 4 v.head ++ putNum 4 v.lastSeq ++ putFlag v.wrapped

def CauseRecord.body (r : CauseRecord) : List Byte :=
  putNum 1 r.kind.code ++ putNum 4 r.first ++ putNum 4 r.last ++ putNum 1 r.repeats ++ putNum 1 r.detail.toNat

/-- The lockout record, or its absence. One presence byte before all its fields is the model's, log 29. -/
def putLockout : Option Lockout → List Byte
  | none => 0 :: (putNum 1 0 ++ putNum 1 0 ++ putNum 4 0)
  | some l => 1 :: (putNum 1 l.lane.val ++ putNum 1 l.reason.code ++ putNum 4 l.time)

/-- One header of the HEADERS section (09 R198). The PROVE level as one byte, 1 for active, is the model's, log 29. -/
def HeaderView.body (v : HeaderView) : List Byte :=
  putNum 1 v.pump.code ++ putNum 1 v.position ++ putFlag v.prove ++ putNum 1 v.secondsLeft ++ putNum 2 v.granted

/-- The sections of STATUS (09 R198). The sumps' levels as one mask byte, a bit set for ACTIVE, and ALERT as 1 while
driven, are the model's, log 29. -/
def StatusSection.body : StatusSection → List Byte
  | .summary => []
  | .shutdown stack lockout sumps press held keyPossible alert causes laneStops lockoutFlag =>
    putNum 1 stack.length ++ stack.flatMap CauseRecord.body ++ putLockout lockout ++ putNum 1 sumps.toNat
      ++ putNum 1 press.code ++ putFlag held ++ putFlag keyPossible ++ putFlag alert ++ putNum 2 causes
      ++ putNum 2 laneStops ++ putFlag lockoutFlag
  | .headers views slotLeft => views.flatMap HeaderView.body ++ putNum 1 slotLeft
  | .settings st baudHigh => st.body ++ putNum 4 (if baudHigh then 115200 else 57600)

def ReportHeader.body (h : ReportHeader) : List Byte :=
  putNum 4 h.number ++ putNum 1 h.kind.code ++ putNum 1 h.reason.code ++ putNum 4 h.startTime ++ putNum 4 h.endTime
    ++ putNum 1 h.clockState.code ++ putNum 1 h.alarms

def TankSection.body (t : TankSection) : List Byte :=
  putFlag t.configured ++ putIndex t.product ++ putNum 1 t.alarmClass.code ++ putOptionInt 8 t.opening
    ++ putInt 8 t.receipts ++ putNum 8 t.dispensed ++ putOptionInt 8 t.closing ++ putOptionInt 8 t.variance
    ++ putOptionInt 4 t.ppm ++ putNum 1 ((t.cls.map VarianceClass.code).getD 6) ++ putNum 1 t.flags.bits

def LaneTotals.body (t : LaneTotals) : List Byte :=
  putNum 6 t.gross ++ putNum 6 t.net ++ putNum 4 t.peak ++ putNum 2 t.deliveries ++ putNum 2 t.preset
    ++ putNum 2 t.hangup ++ putNum 2 t.other

def ReportPart.body : ReportPart → List Byte
  | .bay causes laneStops lockoutFlag => putNum 2 causes ++ putNum 2 laneStops ++ putFlag lockoutFlag
  | .tank t => t.body
  | .lane l => putIndex l.product ++ l.totals.body

/-- The fields of a reply after its status. That GAUGE-NOW answers 1 for added and 0 for already queued, and that the no
members of ESTOP in CONDITION-PRESENT are a mask byte of 0, are the model's, log 29. -/
def Payload.body : Payload → List Byte
  | .empty => []
  | .slot index => putNum 1 index
  | .settings st => st.body
  | .clock replaced => putNum 4 replaced
  | .authorised preset flags => putNum 4 preset ++ putNum 1 flags.bits
  | .laneState state => putNum 1 state.code
  | .lane view => view.body
  | .tank view => view.body
  | .polled added => putFlag added
  | .receiptOpened g0 heldTime => putInt 8 g0 ++ putNum 4 heldTime
  | .book replaced => putInt 6 replaced
  | .machine view => view.body
  | .masks first second => putNum 1 first.toNat ++ putNum 1 second.toNat
  | .journalStart seq skipped intended => putNum 4 seq ++ putFlag skipped ++ putNum 2 intended
  | .journalAcked released held tail free => putNum 2 released ++ putNum 2 held ++ putNum 4 tail ++ putNum 2 free
  | .bay state => putNum 1 state.code
  | .armBlocked sumps stopHeld => putNum 1 sumps.toNat ++ putFlag stopHeld
  | .shutdownTaken state depth entered => putNum 1 state.code ++ putNum 1 depth ++ putFlag entered
  | .topKind kind => putKind kind
  | .members mask => putNum 1 mask.toNat
  | .cleared kind depth top state =>
    putNum 1 kind.code ++ putNum 1 depth ++ putOption 1 (top.map CauseKind.code) ++ putNum 1 state.code
  | .pump state => putNum 1 state.code
  | .status summary part => summary.body ++ part.body
  | .periods closed opened => putNum 4 closed ++ putNum 4 opened
  | .report header part => header.body ++ part.body

/-! ## Notices, burst messages and frames -/

/-- A notice's fields after its clock time, in the order its rule lists them (09 R193). -/
def NoticeBody.body : NoticeBody → List Byte
  | .shutdown kind detail repeats merged depth bay =>
    putNum 1 kind.code ++ putNum 1 detail.toNat ++ putNum 1 repeats ++ putFlag merged ++ putNum 1 depth
      ++ putNum 1 bay.code
  | .lockout lane reason depth top => putNum 1 lane.val ++ putNum 1 reason.code ++ putNum 1 depth ++ putKind top
  | .pumpFail header reason => putNum 1 header.val ++ putNum 1 reason.code
  | .gaugeLost tank heldTime fails => putNum 1 tank.val ++ putNum 4 heldTime ++ putNum 1 fails
  | .overfillStop tank level => putNum 1 tank.val ++ putNum 2 level
  | .retentionLost => []
  | .tankLow tank product estimate => putNum 1 tank.val ++ putIndex product ++ putInt 8 estimate
  | .variance period tank product v ppm cls flags =>
    putNum 4 period ++ putNum 1 tank.val ++ putIndex product ++ putInt 8 v ++ putInt 4 ppm ++ putNum 1 cls.code
      ++ putNum 1 flags.bits
  | .burnHigh machine lane burn average => putNum 2 machine.val ++ putNum 1 lane.val ++ putNum 2 burn ++ putNum 2 average
  | .deliveryEnd lane seq cause gross net =>
    putNum 1 lane.val ++ putNum 4 seq ++ putNum 1 cause.code ++ putNum 6 gross ++ putNum 6 net
  | .receiptEnd tank result => putNum 1 tank.val ++ result.body
  | .reportReady number kind alarms => putNum 4 number ++ putNum 1 kind.code ++ putNum 1 alarms
  | .serviceOverdue machine lane hours interval =>
    putNum 2 machine.val ++ putNum 1 lane.val ++ putNum 4 hours ++ putNum 4 interval
  | .laneStop lengthMs lanes => putNum 2 lengthMs ++ putNum 1 lanes.toNat
  | .laneFlow lane machine => putNum 1 lane.val ++ putNum 2 machine.val
  | .authExpired lane machine => putNum 1 lane.val ++ putNum 2 machine.val

/-- The KIND of each notice (09 R193). -/
def NoticeBody.kind : NoticeBody → Byte
  | .shutdown .. => 0x90
  | .lockout .. => 0x91
  | .pumpFail .. => 0x92
  | .gaugeLost .. => 0x93
  | .overfillStop .. => 0x94
  | .retentionLost => 0x95
  | .tankLow .. => 0x96
  | .variance .. => 0x97
  | .burnHigh .. => 0x98
  | .deliveryEnd .. => 0x99
  | .receiptEnd .. => 0x9A
  | .reportReady .. => 0x9B
  | .serviceOverdue .. => 0x9C
  | .laneStop .. => 0x9D
  | .laneFlow .. => 0x9E
  | .authExpired .. => 0x9F

/-- A journal record's 63 bytes (06 R135): an absent field is sent as 0 with its presence bit clear. -/
def JournalRecord.body (r : JournalRecord) : List Byte :=
  putNum 4 r.seq ++ putNum 1 r.lane.val ++ putIndex r.product ++ putIndex r.tank ++ putNum 1 r.cause.code
    ++ putNum 2 r.machine.val ++ putNum 2 r.operator ++ putNum 4 r.authTime ++ putNum 4 (r.firstFlow.getD 0)
    ++ putNum 4 r.endTime ++ putNum 4 r.preset ++ putNum 6 r.gross ++ putNum 6 r.net ++ putNum 4 r.peak
    ++ putInt 2 r.endTemp ++ putNum 4 (r.hourReading.getD 0) ++ putNum 4 r.accrued ++ putNum 2 (r.burn.getD 0)
    ++ putNum 4 r.period ++ putNum 2 r.flags.bits
    ++ putNum 1 (flagBits [r.firstFlow.isSome, r.hourReading.isSome, r.burn.isSome])

/-- JOURNAL-END (06 R141). The 2 bytes of the reservation count are the model's, log 29. -/
def JournalEnd.body (e : JournalEnd) : List Byte :=
  putNum 1 e.reason.code ++ putNum 4 e.sent ++ putNum 4 e.last ++ putNum 2 e.held ++ putNum 4 e.tail
    ++ putNum 4 e.head ++ putNum 2 e.reserved ++ putNum 2 e.free

/-- One bit step of the CRC register: the polynomial is x^16 + x^12 + x^5 + 1 (09 R186). -/
def crcBit (r : BitVec 16) : BitVec 16 := if r.msb then (r <<< 1) ^^^ 0x1021#16 else r <<< 1

/-- One byte, most significant bit first. -/
def crcByte (r : BitVec 16) (b : Byte) : BitVec 16 :=
  crcBit (crcBit (crcBit (crcBit (crcBit (crcBit (crcBit (crcBit (r ^^^ (b.setWidth 16 <<< 8)))))))))

/-- The CRC of some bytes: the register starts at 0xFFFF and is not inverted (09 R186). -/
def crc16 (bytes : List Byte) : BitVec 16 := bytes.foldl crcByte 0xFFFF#16

/-- The bytes of a frame after its sync: LEN, KIND, TAG, BODY, CRC (09 R185). -/
def frameBytes (kind tag : Byte) (body : List Byte) : List Byte :=
  let covered := BitVec.ofNat 8 (body.length + 2) :: kind :: tag :: body
  covered ++ putNum 2 (crc16 covered).toNat

/-- KIND, TAG and BODY of a message the part sends (09 R190, R193). -/
def TxMessage.parts : TxMessage → Byte × Byte × List Byte
  | .reply r => (r.kind + 0x40, r.tag, putNum 1 r.answer.status.code ++ r.answer.payload.body)
  | .record r => (0x80, 0, r.body)
  | .journalEnd e => (0x81, 0, e.body)
  | .notice n => (n.body.kind, 0, putNum 4 n.time ++ n.body.body)

/-- The bytes HTX sends for a message: sync, then the frame (09 R185). -/
def TxMessage.bytes (m : TxMessage) : List Byte := 0xA5 :: frameBytes m.parts.1 m.parts.2.1 m.parts.2.2

/-- The checks of a received frame's bytes after its sync: LEN from 2 to 250 and true, CRC equal (09 R187). -/
def checkFrame (bytes : List Byte) : Option HeldFrame :=
  match bytes with
  | len :: kind :: tag :: rest =>
    if 2 ≤ len.toNat ∧ len.toNat ≤ 250 ∧ rest.length = len.toNat
        ∧ numAt rest (len.toNat - 2) 2 = (crc16 (bytes.take (len.toNat + 1))).toNat then
      some ⟨kind, tag, rest.take (len.toNat - 2)⟩
    else none
  | _ => none

/-! ## The gauge bus (04 R81) -/

/-- The check byte: the low 8 bits of the sum of the bytes before it. -/
def checkByte (bytes : List Byte) : Byte := bytes.foldl (· + ·) 0

/-- The poll frame of a gauge. -/
def pollFrame (address : Nat) : List Byte :=
  [0x5A, BitVec.ofNat 8 address, 0x01, checkByte [0x5A, BitVec.ofNat 8 address, 0x01]]

/-- The fields of a reply frame. -/
structure GaugeReading where
  level : Nat
  temperature : Int
  water : Nat
  deriving DecidableEq, Repr

/-- What a poll's received bytes come to (04 R81, R82). -/
inductive GaugeOutcome where
  | incomplete
  | failed
  | good (r : GaugeReading)
  deriving DecidableEq, Repr

/-- Assemble the reply from the first 0x5A byte, complete at its tenth byte, and judge it (04 R81, R82). -/
def readReply (address : Nat) (bytes : List Byte) : GaugeOutcome :=
  let frame := (bytes.dropWhile (· != 0x5A)).take 10
  if frame.length < 10 then .incomplete
  else if numAt frame 1 1 = address ∧ numAt frame 9 1 = (checkByte (frame.take 9)).toNat ∧ numAt frame 2 1 = 0
      ∧ numAt frame 3 2 ≤ 40000 then
    .good ⟨numAt frame 3 2, intAt frame 5 2, numAt frame 7 2⟩
  else .failed

end Sys2Proof.Machine
end

