-- ==== Sys2Proof/Machine/Journal.lean ====
section
/-! DEFINITION. The Delivery Journal's ring: numbering, the counts, the classing of a number a request names, commit,
release, and the messages of a burst (06). -/
namespace Sys2Proof.Machine

/-- The last sequence number before the numbers wrap (06 R130). -/
def lastNumber : Nat := 4294967295

/-- The number that follows n in the order of assignment: 1 follows the last (06 R130). -/
def nextSeq (n : Nat) : Nat := if n = lastNumber then 1 else n + 1

/-- The held count (06 R129). -/
def Journal.held (j : Journal) : Nat := j.records.length

/-- The free count: 2,048 less the held count less the reservation count (06 R131). -/
def Journal.free (j : Journal) : Nat := 2048 - j.held - j.reserved

/-- The tail's sequence number, 0 when the list is empty. -/
def Journal.tail (j : Journal) : Nat := (j.records.head?.map JournalRecord.seq).getD 0

/-- The head's sequence number, 0 when the list is empty. -/
def Journal.head (j : Journal) : Nat := (j.records.getLast?.map JournalRecord.seq).getD 0

/-- The number has been issued: 1 to L, or with the wrapped mark set one of the 2,147,483,647 numbers that end at L,
counted back in the order of assignment (06 R130). -/
def Journal.issued (j : Journal) (n : Nat) : Bool :=
  if j.wrapped then
    decide (1 ≤ n) && decide (n ≤ lastNumber) && decide ((j.lastSeq + lastNumber - n) % lastNumber < 2147483647)
  else decide (1 ≤ n) && decide (n ≤ j.lastSeq)

/-- The number is that of a held record (06 R130). -/
def Journal.holds (j : Journal) (n : Nat) : Bool := j.records.any fun r => r.seq == n

/-- The records behind the one numbered n. -/
def recordsAfter (n : Nat) : List JournalRecord → List JournalRecord
  | [] => []
  | r :: rest => if r.seq = n then rest else recordsAfter n rest

/-- Every held record from the tail up to and including n is released; a number not held releases nothing
(06 R142). -/
def Journal.release (n : Nat) (j : Journal) : Journal :=
  if j.holds n then { j with records := recordsAfter n j.records } else j

/-- A reservation is made (06 R131). -/
def Journal.reserve (j : Journal) : Journal := { j with reserved := j.reserved + 1 }

/-- A reservation is withdrawn (06 R131). -/
def Journal.withdraw (j : Journal) : Journal := { j with reserved := j.reserved - 1 }

/-- Commit: the record takes the next number and the current period, joins at the head, and its reservation goes
(06 R133). -/
def Journal.commit (r : JournalRecord) (period : Nat) (j : Journal) : Journal where
  records := j.records ++ [{ r with seq := nextSeq j.lastSeq, period := period }]
  lastSeq := nextSeq j.lastSeq
  wrapped := j.wrapped || j.lastSeq == lastNumber
  reserved := j.reserved - 1

/-- Where a JOURNAL-READ starts, and whether records were skipped (06 R136). -/
def Journal.readStart (j : Journal) (n : Nat) : Nat × Bool :=
  if n = 0 then (if j.records.isEmpty then nextSeq j.lastSeq else j.tail, false)
  else if j.holds n then (n, false)
  else if j.issued n then (if j.records.isEmpty then nextSeq j.lastSeq else j.tail, true)
  else (n, false)

/-- The held records from the start to the head, at most the count requested when that is not 0 (06 R136). -/
def Journal.intended (j : Journal) (start count : Nat) : Nat :=
  let there := (j.records.dropWhile fun r => r.seq != start).length
  if count = 0 then there else min count there

/-- JOURNAL-END (06 R141). -/
def Journal.endMessage (j : Journal) (b : Burst) (reason : EndReason) : TxMessage :=
  .journalEnd ⟨reason, b.sent, b.last, j.held, j.tail, j.head, j.reserved, j.free⟩

/-- The next message of a running burst, which falls due as the arbiter is ready for it: a record, or JOURNAL-END
(06 R137, R139). -/
def burstMessage (j : Journal) (b : Burst) : TxMessage × Burst :=
  match b.ending with
  | some reason => (j.endMessage b reason, b)
  | none =>
    if b.count ≠ 0 ∧ b.sent = b.count then (j.endMessage b .countDone, { b with ending := some .countDone })
    else
      match j.records.find? fun r => r.seq == b.next with
      | some r => (.record r, { b with next := nextSeq b.next })
      | none => (j.endMessage b .noMore, { b with ending := some .noMore })

/-- The frame is a JOURNAL-STOP: its KIND is 0x29 and, as the request carries no fields, its body is empty; any other
body makes it a request answered MALFORMED (06 R139, R140; 09 R189). -/
def HeldFrame.stopsBurst (f : HeldFrame) : Bool := f.kind == 0x29 && f.body.isEmpty

/-- A request received while the burst runs ends it, the first one deciding the reason: STOPPED for a JOURNAL-STOP,
INTERRUPTED for every other request, one answered MALFORMED among them (06 R139). -/
def Burst.interrupt (f : HeldFrame) (b : Burst) : Burst :=
  if b.started ∧ b.ending = none then
    { b with ending := some (if f.stopsBurst then .stopped else .interrupted) }
  else b

end Sys2Proof.Machine
end

