-- ==== Sys2Proof/Machine/Transmit.lean ====
section
/-! DEFINITION. What every event shares: the transmit arbiter's choice (09 R192), the receive hold's arrival rule
(09 R188) and the taking of a request with its one reply (09 R190). -/
namespace Sys2Proof.Machine

/-- An accepted answer. -/
def accept (p : Payload := .empty) : Answer := ⟨.accepted, p⟩

/-- A refusal that carries its status alone. -/
def refuse (status : Status) : Answer := ⟨status, .empty⟩

/-- Put a message on HTX. -/
def State.sendOn (m : TxMessage) (s : State) : State := s.modLink fun k => { k with line := some m }

/-- The burst, once its JOURNAL-READ's reply has been sent (06 R136). -/
def State.runningBurst (s : State) : Option Burst :=
  match s.burst with
  | some b => if b.started then some b else none
  | none => none

/-- The transmit arbiter chooses, if the line is free: the pending reply, the next message of a running burst, the
head of the notice queue (09 R192). -/
def State.kick (s : State) : State :=
  match s.power, s.link.line with
  | .running, none =>
    match s.link.reply with
    | some r => s.sendOn (.reply r)
    | none =>
      match s.runningBurst with
      | some b => (s.setBurst (some (burstMessage s.journal b).2)).sendOn (burstMessage s.journal b).1
      | none =>
        match s.link.notices with
        | [] => s
        | n :: rest => (s.modLink fun k => { k with notices := rest }).sendOn (.notice n)
  | _, _ => s

/-- One whole event of a running part: its effect, and then the arbiter's choice (log 10). A part that has lost VDD
or is held in reset takes no event (10 R200). -/
def event (f : State → State) (s : State) : Host.Outcome State Fault Refusal :=
  .next (if s.power = .running then (f s).kick else s)

/-- A request received while a burst runs ends the burst (06 R139). -/
def State.interruptBurst (f : HeldFrame) (s : State) : State := s.setBurst (s.burst.map (Burst.interrupt f))

/-- A request frame arrives at the hold: it joins the tail, or is discarded when two are held (09 R188). -/
def State.holdFrame (f : HeldFrame) (s : State) : State :=
  if s.link.hold.length < 2 then
    (s.modLink fun k => { k with hold := k.hold ++ [f] }).interruptBurst f
  else s

/-- The reply is built: it takes the one pending reply slot (09 R190). -/
def State.putReply (kind tag : Byte) (a : Answer) (s : State) : State :=
  s.modLink fun k => { k with reply := some ⟨kind, tag, a⟩ }

/-- A host request waits in the hold while a reply is pending, a burst runs or waits to begin, or a frame is held;
otherwise its owner takes it at once and its reply is built (09 R188 to R190; 06 R139; log 2). -/
def State.request (f : HeldFrame) (owner : State → Answer × State) (s : State) : State :=
  if s.burst.isSome || !s.link.hold.isEmpty || s.link.reply.isSome then s.holdFrame f
  else (owner s).2.putReply f.kind f.tag (owner s).1

end Sys2Proof.Machine
end

