-- ==== Sys2Proof/Machine/Meter.lean ====
section
/-! DEFINITION. The Meter Engine: the rate window, the Table Interpolator, the curves, temperature and VCF, and the
gross and net accumulators (02). -/
namespace Sys2Proof.Machine

/-! ## Rate (02 3.2) -/

/-- The count joins the window at its newest end; a window of W entries loses its oldest (02 R37). -/
def pushCount (window : Nat) (n : Nat) (rates : List Nat) : List Nat :=
  if window ≤ rates.length then rates.drop (rates.length + 1 - window) ++ [n] else rates ++ [n]

/-- The smoothed rate over the entries of the window, dL/min (02 R38). -/
def smoothedRate (kFactor : Nat) (rates : List Nat) : Nat := rates.sum * 3000 / (kFactor * rates.length)

/-! ## The Table Interpolator (02 R39) -/

/-- The value at x of a table of points with ascending x: linear in a segment, truncated toward zero, and the end
values outside (02 R39). -/
def interpolate : List (Nat × Int) → Nat → Int
  | [], _ => 0
  | [p], _ => p.2
  | p :: q :: rest, x =>
    if x ≤ p.1 then p.2
    else if x < q.1 then p.2 + ((q.2 - p.2) * ((x : Int) - p.1)).tdiv ((q.1 : Int) - p.1)
    else interpolate (q :: rest) x

/-! ## Curves (02 3.4) -/

/-- The ROM templates C1 to C6 (02 R42). -/
def romCurve (n : Fin 6) : List CurvePoint :=
  #v[[⟨1, 0⟩, ⟨30000, 0⟩],
     [⟨500, 3000⟩, ⟨2000, 900⟩, ⟨5000, 200⟩, ⟨9000, -150⟩, ⟨12000, -400⟩],
     [⟨1000, -4500⟩, ⟨3000, -1200⟩, ⟨6000, 0⟩, ⟨10000, 350⟩, ⟨14000, 600⟩],
     [⟨20, 6000⟩, ⟨80, 2000⟩, ⟨200, 500⟩, ⟨400, 0⟩, ⟨700, -300⟩],
     [⟨20, 2500⟩, ⟨80, 800⟩, ⟨200, 0⟩, ⟨400, -600⟩, ⟨700, -1200⟩],
     [⟨30, 1500⟩, ⟨120, 300⟩, ⟨300, 0⟩, ⟨600, -200⟩, ⟨900, -500⟩]][n]

/-- The curve the lane's curve source selects (02 R40). -/
def Lane.curvePoints (l : Lane) : List CurvePoint :=
  match l.record.curve with
  | .template n => romCurve n
  | .lane => l.curve.getD []

/-- The effective curve: the span trim is added to every correction and the sum clamped (02 R41). -/
def effectiveCurve (spanTrim : Int) (points : List CurvePoint) : List (Nat × Int) :=
  points.map fun p => (p.rate, clampInt (-50000) 50000 (p.correction + spanTrim))

/-- The correction at a rate, ppm (02 R44). -/
def Lane.correction (l : Lane) (rate : Nat) : Int := interpolate (effectiveCurve l.record.spanTrim l.curvePoints) rate

/-! ## Temperature and VCF (02 3.6) -/

/-- The temperature a gauge gives and whether it is a held one (02 R49). -/
def Tank.temperature (t : Tank) : Int × Bool :=
  ((t.held.map HeldReading.temperature).getD 150, t.status != .good)

/-- The clamp of 02 R50. -/
def clampTemperature (t : Int) : Int := clampInt (-400) 600 t

/-- The selected temperature of the lane's feed tank, before the clamp. -/
def State.laneTemperature (s : State) (i : Fin 8) : Int × Bool :=
  match s.laneTank i with
  | some t => (s.tank t).temperature
  | none => (150, false)

/-- The volume correction factor, ppm (02 R51). -/
def vcf (alpha : Nat) (t10 : Int) : Int := 1000000 - ((alpha : Int) * (t10 - 150)).tdiv 10

/-- The thermal coefficient of the lane's product. -/
def State.laneAlpha (s : State) (i : Fin 8) : Nat :=
  match (s.lane i).record.product with
  | some p => (s.product p).alpha
  | none => 0

/-! ## The accumulators (02 3.7) -/

/-- G: the exact gross of a sample over D_g (02 R52). -/
def grossNumerator (n : Nat) (c : Int) : Nat := n * 100 * (1000000 + c).toNat

/-- D_g and D_n (02 R52, R53). -/
def grossDivisor (kFactor : Nat) : Nat := kFactor * 1000000
def netDivisor (kFactor : Nat) : Nat := kFactor * 1000000000000

/-- The whole centilitres of residue + amount, and the new residue. -/
def accumulate (divisor residue amount : Nat) : Nat × Nat := ((residue + amount) / divisor, (residue + amount) % divisor)

/-- What the Meter Engine returns for a sample (02 R36 stage 4). -/
structure Metered where
  rates : List Nat
  rate : Nat
  gross : Nat
  grossResidue : Nat
  net : Nat
  netResidue : Nat
  t10 : Option Int
  flags : JournalFlags
  deriving DecidableEq, Repr

/-- A sample's metering (02 R36). -/
def State.metering (s : State) (i : Fin 8) (n : Nat) : Metered :=
  let l := s.lane i
  let rates := pushCount l.record.window n l.rates
  let rate := smoothedRate l.record.kFactor rates
  if n = 0 then
    { rates := rates, rate := rate, gross := 0, grossResidue := l.grossResidue, net := 0, netResidue := l.netResidue,
      t10 := none, flags := {} }
  else
    let t := s.laneTemperature i
    let t10 := clampTemperature t.1
    let g := grossNumerator n (l.correction rate)
    let gross := accumulate (grossDivisor l.record.kFactor) l.grossResidue g
    let net := accumulate (netDivisor l.record.kFactor) l.netResidue (g * (vcf (s.laneAlpha i) t10).toNat)
    { rates := rates, rate := rate, gross := gross.1, grossResidue := gross.2, net := net.1, netResidue := net.2,
      t10 := some t10,
      flags := { saturated := n == 65535, tempHeld := t.2, tempClamped := t10 != t.1 } }

/-- The end temperature of a delivery: its last T10, or the value the gauge gives at commit, which is no use of the
reading (02 R50). -/
def State.endTemperature (s : State) (i : Fin 8) : Int :=
  (s.lane i).delivery.lastT10.getD (clampTemperature (s.laneTemperature i).1)

/-! ## The pulse counter (02 R34) -/

/-- A pulse adds one; the counter saturates at 65,535. -/
def countPulse (l : Lane) : Lane := { l with pulses := satAdd 65535 l.pulses 1 }

/-- PULSE (02 R34). -/
def execPulse (i : Fin 8) (s : State) : Host.Outcome State Fault Refusal := event (State.modLane i countPulse) s

/-! ## Loading a lane curve (02 3.5) -/

/-- CURVE-POINT (02 R46). -/
def curvePoint (f : CurvePointFields) (s : State) : Answer × State :=
  match eightNumber f.lane with
  | none => (refuse .range, s)
  | some i =>
    if h : f.index < 16 then
      (accept, s.modLane i fun l => { l with staging := l.staging.set f.index (some ⟨f.rate, f.correction⟩) })
    else (refuse .range, s)

/-- Slot `slot` holds a point the commit accepts after the points already read (02 R47 check 3). -/
def curvePointOk (before : List CurvePoint) : Option CurvePoint → Bool
  | none => false
  | some p =>
    decide (1 ≤ p.rate) && decide (p.rate ≤ 30000) && decide (-50000 ≤ p.correction) && decide (p.correction ≤ 50000)
      && (match before.getLast? with | none => true | some q => decide (q.rate < p.rate))

/-- Read slots in ascending order: the points, or the index of the lowest slot at fault. `before` holds the points
of the slots read so far. -/
def readCurve : List (Option CurvePoint) → List CurvePoint → List CurvePoint ⊕ Nat
  | [], before => .inl before
  | slot :: rest, before =>
    match slot with
    | some p => if curvePointOk before (some p) then readCurve rest (before ++ [p]) else .inr before.length
    | none => .inr before.length

/-- CURVE-COMMIT (02 R47). -/
def curveCommit (f : CommitFields) (s : State) : Answer × State :=
  match eightNumber f.owner with
  | none => (refuse .range, s)
  | some i =>
    if f.count < 2 ∨ 16 < f.count then (refuse .range, s)
    else if (s.lane i).state ≠ .idle then (refuse .laneBusy, s)
    else
      match readCurve ((s.lane i).staging.toList.take f.count) [] with
      | .inr slot => (⟨.tableInvalid, .slot slot⟩, s)
      | .inl points =>
        (accept, s.modLane i fun l => { l with curve := some points, staging := Vector.replicate 16 none })

/-- CURVE_POINT (02 R46). -/
def execCurvePoint (tag : Byte) (f : CurvePointFields) (s : State) : Host.Outcome State Fault Refusal :=
  event (State.request ((Request.curvePoint f).frame tag) (curvePoint f)) s

/-- CURVE_COMMIT (02 R47). -/
def execCurveCommit (tag : Byte) (f : CommitFields) (s : State) : Host.Outcome State Fault Refusal :=
  event (State.request ((Request.curveCommit f).frame tag) (curveCommit f)) s

end Sys2Proof.Machine
end

