-- ==== Sys2Proof/Machine/Header.lean ====
section
/-! DEFINITION. The Header Arbiter: the product record, the grant pass, the pumps with their start queue and slot, and
the taking of a grant by a lane (03; 01 R5, R15, R16). -/
namespace Sys2Proof.Machine

/-! ## Valve output and demand (01 R5) -/

/-- The stage demand: what the lane's stage would open the valve to. -/
def Lane.stageDemand (l : Lane) : Valve :=
  match l.state with
  | .flowing => if l.stage = some .main then .full else .slow
  | .trimming => .slow
  | .idle | .authorised | .waiting | .closing | .done => .closed

/-- The valve output: the lower of stage demand and taken grant (01 R5). -/
def Lane.valve (l : Lane) : Valve :=
  match l.stageDemand, l.grant with
  | .closed, _ => .closed
  | _, .hold => .closed
  | .full, .full => .full
  | _, _ => .slow

/-- The lane's demand is FULL: it demands, and its stage is MAIN (01 R5). -/
def Lane.demandsFull (l : Lane) : Bool := l.state.demands && l.stage == some .main

/-! ## The grant pass (03 4.3) -/

/-- The product's feed tank is in its low band (03 R73). -/
def State.lowBand (s : State) (h : Fin 6) : Bool :=
  match s.feedTank h with
  | some t => (s.tank t).band == .lowBand
  | none => false

/-- The grant of one demand from what remains, and what then remains (03 R71). -/
def grantOf (p : Product) (full : Bool) (remaining : Nat) : Grant × Nat :=
  if full && decide (p.fullRate ≤ remaining) then (.full, remaining - p.fullRate)
  else if p.slowRate ≤ remaining then (.slow, remaining - p.slowRate)
  else (.hold, remaining)

/-- The lane as a pass leaves it: its grant, and RATE-CAPPED where the cap gave SLOW to a FULL demand (03 R73). -/
def Lane.given (g : Grant) (capped : Bool) (l : Lane) : Lane :=
  { l with arbiterGrant := g
           delivery := { l.delivery with
             flags := { l.delivery.flags with
               rateCapped := l.delivery.flags.rateCapped || (capped && l.demandsFull && g == .slow) } } }

/-- The pass visits one lane. -/
def passLane (h : Fin 6) (acc : Nat × State) (i : Fin 8) : Nat × State :=
  if acc.2.laneOn h i then
    if (acc.2.lane i).state.demands ∧ (acc.2.header h).pump = .running then
      let capped := acc.2.lowBand h
      let g := grantOf (acc.2.product h) ((acc.2.lane i).demandsFull && !capped) acc.1
      (g.2, acc.2.modLane i (Lane.given g.1 capped))
    else (acc.1, acc.2.modLane i (Lane.given .hold false))
  else acc

/-- A grant pass of a header (03 R70, R71): over a RUNNING header the demanding lanes share the capacity in ascending
lane number; every other lane of the product is given HOLD. -/
def State.grantPass (h : Fin 6) (s : State) : State :=
  (eightNumbers.foldl (passLane h) ((s.product h).pumpCapacity, s)).2

/-- The rate of a grant. -/
def Product.rateOf (p : Product) : Grant → Nat
  | .full => p.fullRate
  | .slow => p.slowRate
  | .hold => 0

/-- The sum of the rates granted on a header (03 R71, R75). -/
def State.grantedRate (s : State) (h : Fin 6) : Nat :=
  (eightNumbers.map fun i => if s.laneOn h i then (s.product h).rateOf (s.lane i).arbiterGrant else 0).sum

/-! ## Pumps (03 4.2) -/

/-- Put a header into a pump state with its timers as given, and make the pass of the change (03 R72). -/
def State.setPump (h : Fin 6) (state : PumpState) (proving runOn : Option Timer) (s : State) : State :=
  (s.modHeader h fun k => { k with pump := state, proving := proving, runOn := runOn }).grantPass h

/-- PUMPn is driven in STARTING, RUNNING and RUNON, while the part runs (03 4.2, 10 R200). -/
def State.pumpOutput (s : State) (h : Fin 6) : Bool :=
  s.power == .running
    && (match (s.header h).pump with | .starting | .running | .runon => true | .stopped | .queued | .failed => false)

/-- A proved header without demand: RUNON, or STOPPED when the run-on is 0 (03 R65, R66). -/
def State.enterRunOn (h : Fin 6) (s : State) : State :=
  if (s.product h).runOn = 0 then s.setPump h .stopped none none
  else s.setPump h .runon none (some (s.startTimer (s.product h).runOn))

/-- A STARTING header is proved (03 R65). -/
def State.proved (h : Fin 6) (s : State) : State :=
  if s.headerDemand h then s.setPump h .running none none else s.enterRunOn h

/-- The head of the queue starts: it leaves the queue, occupies the slot and enters STARTING; with PROVE already
active it is proved at that entry (03 R64, R65). -/
def State.startPump (h : Fin 6) (s : State) : State :=
  let t := (s.modSlot fun k =>
      { queue := k.queue.erase h, free := s.settings.stagger == 0, lastStart := s.elapsed }).setPump h .starting
    (some (s.startTimer 10)) none
  if (t.header h).prove then t.proved h else t

/-- While the slot is free the heads of the queue start in turn (03 R64). The list is the queue as it stands. -/
def serveHeads : List (Fin 6) → State → State
  | [], s => s
  | h :: rest, s => if s.slot.free then serveHeads rest (s.startPump h) else s

/-- The slot is tested (03 R64). -/
def State.testSlot (s : State) : State := serveHeads s.slot.queue s

/-- A header joins the tail of the queue; joining an empty queue tests the slot (03 R63, R64). -/
def State.joinQueue (h : Fin 6) (s : State) : State :=
  let t := (s.modSlot fun k => { k with queue := k.queue ++ [h] }).setPump h .queued none none
  if s.slot.queue.isEmpty then t.testSlot else t

/-- A lane of the header has entered WAITING; `had` says whether the header had demand before (03 R62, R72). That a header
reset from FAILED while a lane of it has not yet taken its PUMP ending still has that lane's demand, so that a further
lift only makes a pass and does not queue it, is the model's, log 40. -/
def State.demandAppeared (h : Fin 6) (had : Bool) (s : State) : State :=
  if had then s.grantPass h
  else
    match (s.header h).pump with
    | .stopped => s.joinQueue h
    | .runon => s.setPump h .running none none
    | .queued | .starting | .running | .failed => s.grantPass h

/-- A lane of the header has withdrawn its demand (03 R62, R63, R66, R72). -/
def State.demandLeft (h : Fin 6) (s : State) : State :=
  if s.headerDemand h then s.grantPass h
  else
    match (s.header h).pump with
    | .queued => (s.modSlot fun k => { k with queue := k.queue.erase h }).setPump h .stopped none none
    | .running => s.enterRunOn h
    | .stopped | .starting | .runon | .failed => s.grantPass h

/-- The lanes of a product in WAITING, FLOWING and TRIMMING are sent an ending, each a separate arrival (03 R67, 04
R91; log 1). -/
def State.sendEnding (p : Fin 6) (mark : Lane → Lane) (s : State) : State :=
  eachOfEight (fun i t => if t.laneOn p i ∧ (t.lane i).state.demands then t.modLane i mark else t) s

/-- Entry to FAILED (03 R67). -/
def State.failPump (h : Fin 6) (reason : PumpReason) (s : State) : State :=
  (((s.modHeader h fun k => { k with pump := .failed, proving := none, runOn := none }).sendEnding h
    fun l => { l with pumpEnding := true }).grantPass h).notify (.pumpFail h reason)

/-- The bay leaves ARMED: a header is stopped (03 R69). -/
def State.stopHeader (h : Fin 6) (s : State) : State :=
  match (s.header h).pump with
  | .queued | .starting | .running | .runon =>
    (s.modSlot fun k => { k with queue := k.queue.erase h }).setPump h .stopped none none
  | .stopped | .failed => s.grantPass h

/-- Every header is stopped (03 R69). -/
def State.stopHeaders (s : State) : State := eachOfSix State.stopHeader s

/-! ## Meanings of the header events -/

/-- The debounced PROVE level changes (03 R61, R65, R66). -/
def proveChange (h : Fin 6) (active : Bool) (s : State) : State :=
  if (s.header h).prove = active then s
  else
    let t := s.modHeader h fun k => { k with prove := active }
    match (s.header h).pump with
    | .starting => if active then t.proved h else t
    | .running | .runon => if active then t else t.failPump h .proveLost
    | .stopped | .queued | .failed => t

/-- PROVE_CHANGE (03 R61). -/
def execProveChange (h : Fin 6) (active : Bool) (s : State) : Host.Outcome State Fault Refusal :=
  event (proveChange h active) s

/-- The proving timer expires in STARTING (03 R65). -/
def provingTimerExpiry (h : Fin 6) (s : State) : State :=
  if (s.header h).pump = .starting ∧ (s.header h).proving ≠ none then s.failPump h .proveTimeout else s

/-- PROVING_TIMER_EXPIRY (03 R65). -/
def execProvingTimerExpiry (h : Fin 6) (s : State) : Host.Outcome State Fault Refusal := event (provingTimerExpiry h) s

/-- The run-on timer expires in RUNON (03 R66). -/
def runonExpiry (h : Fin 6) (s : State) : State :=
  if (s.header h).pump = .runon ∧ (s.header h).runOn ≠ none then s.setPump h .stopped none none else s

/-- RUNON_EXPIRY (03 R66). -/
def execRunonExpiry (h : Fin 6) (s : State) : Host.Outcome State Fault Refusal := event (runonExpiry h) s

/-- The stagger interval has elapsed since the last pump start: the slot is free and is tested (03 R64). -/
def staggerElapsed (s : State) : State := (s.modSlot fun k => { k with free := true }).testSlot

/-- STAGGER_ELAPSED (03 R64). -/
def execStaggerElapsed (s : State) : Host.Outcome State Fault Refusal := event staggerElapsed s

/-! ## Meanings of the requests -/

/-- The feed tank a PRODUCT-SET names must be a tank whose record names this product (03 R60 check 1). -/
def State.feedNamed (s : State) (p : Fin 6) : Option (Fin 8) → Bool
  | none => true
  | some t => (s.tank t).record.product == some p

/-- PRODUCT-SET (03 R60). -/
def productSet (f : ProductFields) (s : State) : Answer × State :=
  match sixNumber f.product, readProduct f with
  | some p, some r =>
    if !s.feedNamed p r.feedTank then (refuse .range, s)
    else if s.productBusy p || !((s.header p).pump == .stopped || (s.header p).pump == .failed) then
      (refuse .headerBusy, s)
    else (accept, s.modProduct p fun _ => r)
  | _, _ => (refuse .range, s)

/-- PRODUCT_SET (03 R60). -/
def execProductSet (tag : Byte) (f : ProductFields) (s : State) : Host.Outcome State Fault Refusal :=
  event (State.request ((Request.productSet f).frame tag) (productSet f)) s

/-- PUMP-RESET (03 R68). A lane whose PUMP ending is not yet taken keeps its demand at the reset header, the model's
choice, log 40. -/
def pumpReset (header : Nat) (s : State) : Answer × State :=
  match sixNumber header with
  | none => (refuse .range, s)
  | some h =>
    if (s.header h).pump = .failed then (accept (.pump .stopped), s.setPump h .stopped none none)
    else (accept (.pump (s.header h).pump), s)

/-- PUMP_RESET (03 R68). -/
def execPumpReset (tag : Byte) (header : Nat) (s : State) : Host.Outcome State Fault Refusal :=
  event (State.request ((Request.pumpReset header).frame tag) (pumpReset header)) s

/-! ## The lane takes its grant (03 R70; 01 R15, R16) -/

/-- A WAITING lane leaves WAITING on SLOW or FULL (01 R15). -/
def Lane.enterFlow (g : Grant) (l : Lane) : Lane :=
  { l with state := if l.stage = some .trim then .trimming else .flowing, rates := [], noFlowRun := 0, hoseCount := 0
           grant := g, delivery := { l.delivery with flowNotified := true } }

/-- A lane in FLOWING or TRIMMING is held: it waits, its current stage the resume stage and the last stage run (01 R16,
R33). -/
def Lane.holdFlow (l : Lane) : Lane :=
  { l with state := .waiting, grant := .hold, delivery := { l.delivery with lastRun := l.stage } }

/-- A lane takes the grant its header's latest pass gave it. -/
def grantTaken (i : Fin 8) (s : State) : State :=
  let l := s.lane i
  let g := l.arbiterGrant
  match l.state with
  | .waiting =>
    if g = .hold then s.modLane i fun l => { l with grant := .hold }
    else
      let t := s.modLane i (Lane.enterFlow g)
      if l.delivery.flowNotified then t else t.notify (.laneFlow i l.delivery.machine)
  | .flowing | .trimming =>
    if g = .hold then s.modLane i Lane.holdFlow
    else s.modLane i fun l => { l with grant := g }
  | .idle | .authorised | .closing | .done => s.modLane i fun l => { l with grant := g }

/-- GRANT_TAKEN (03 R70). -/
def execGrantTaken (i : Fin 8) (s : State) : Host.Outcome State Fault Refusal := event (grantTaken i) s

end Sys2Proof.Machine
end

