-- ==== Sys2Proof/Machine/Accounts.lean ====
section
/-! DEFINITION. The Machine Table: the lazy roll, hour processing, the service test, the credit at commit with burn and
service reset, and the host's reads and writes of records (05). -/
namespace Sys2Proof.Machine

/-! ## The lazy period roll (05 6.5) -/

/-- A touched record moves or discards its period figures against the current period number; the period before 0 is
4,294,967,295 (05 R121, 08 R174). -/
def MachineRecord.roll (period : Nat) (r : MachineRecord) : MachineRecord :=
  if r.recordPeriod = period then r
  else if (r.recordPeriod + 1) % 4294967296 = period then
    { r with recordPeriod := period, lastHours := r.periodHours, lastNet := r.periodNet, periodHours := 0
             periodNet := Vector.replicate 6 0 }
  else
    { r with recordPeriod := period, lastHours := 0, lastNet := Vector.replicate 6 0, periodHours := 0
             periodNet := Vector.replicate 6 0 }

/-! ## Hour readings (05 6.3) -/

/-- The most an hour field holds, 0.1 h. -/
def hourLimit : Nat := 9999999

/-- The most hours the time since the last reading could explain (05 R112); a reading time later than now counts as
no time. -/
def hourAllowance (now readingTime : Nat) : Nat := (now - readingTime) / 360 + 10

/-- What the reading step yields (05 R111). -/
structure ReadingResult where
  accrued : Nat
  backward : Bool
  jump : Bool
  record : MachineRecord
  deriving DecidableEq, Repr

/-- The reading step (05 R111, R112). -/
def readingStep (now : Nat) (clockSet : Bool) (reading : Nat) (r : MachineRecord) : ReadingResult :=
  let taken := { r with lastReading := some reading, readingTime := now, timed := clockSet }
  match r.lastReading with
  | none => ⟨0, false, false, taken⟩
  | some last =>
    if reading < last then ⟨0, true, false, r⟩
    else if reading = last then ⟨0, false, false, r⟩
    else if clockSet ∧ r.timed ∧ hourAllowance now r.readingTime < reading - last then
      ⟨hourAllowance now r.readingTime, false, true, taken⟩
    else ⟨reading - last, false, false, taken⟩

/-- The accrued hours are added to the three counts (05 R113). -/
def MachineRecord.addHours (n : Nat) (r : MachineRecord) : MachineRecord :=
  { r with hoursSinceBurn := satAdd hourLimit r.hoursSinceBurn n
           hoursSinceService := satAdd hourLimit r.hoursSinceService n
           periodHours := satAdd hourLimit r.periodHours n }

/-- What hour processing yields to the lane (05 R110). -/
structure HourResult where
  accrued : Nat
  backward : Bool
  jump : Bool
  due : Bool
  overdue : Bool
  deriving DecidableEq, Repr

/-- Steps 1 to 3 of hour processing (05 R110). -/
def hourSteps (now : Nat) (clockSet : Bool) (period : Nat) (reading : Option Nat) (r : MachineRecord) : ReadingResult :=
  match reading with
  | none => ⟨0, false, false, r.roll period⟩
  | some h =>
    let t := readingStep now clockSet h (r.roll period)
    { t with record := t.record.addHours t.accrued }

/-- Hour processing of a machine at the acceptance of an authorisation on a lane (05 R110, R114, R115). -/
def State.hourProcessing (m : Fin 512) (i : Fin 8) (reading : Option Nat) (s : State) : HourResult × State :=
  let t := hourSteps s.now s.period.clockSet s.period.number reading (s.machine m)
  let r := t.record
  let overdue := serviceOverdueFlag r.serviceInterval r.hoursSinceService
  let result := ⟨t.accrued, t.backward, t.jump, serviceDueFlag r.serviceInterval r.hoursSinceService, overdue⟩
  if overdue && !r.overdue then
    (result, (s.modMachine m fun _ => { r with overdue := true }).notify
      (.serviceOverdue m i r.hoursSinceService r.serviceInterval))
  else (result, s.modMachine m fun _ => r)

/-! ## The credit at commit (05 6.4) -/

/-- What a credit hands back to the commit (05 R116): `highFrom` is the average a BURN-HIGH was found against. -/
structure Credit where
  record : MachineRecord
  burn : Option Nat
  highFrom : Option Nat
  serviceReset : Bool
  deriving DecidableEq, Repr

/-- The new burn: fuel over hours, at most 65,535 dL/h (05 R118 step 1). -/
def newBurn (fuel hours : Nat) : Nat := min 65535 (fuel / hours)

/-- The new burn is beyond the band above the average (05 R118 step 3). -/
def burnHigh (burn average band : Nat) : Bool := decide (average * (100 + band) < burn * 100)

/-- The average moves a quarter of the way toward the new burn, truncated (05 R118 steps 2 and 4). -/
def newAverage (burn average : Nat) : Nat :=
  if average = 0 then burn else ((average : Int) + ((burn : Int) - average).tdiv 4).toNat

/-- Steps 1 to 3 of the credit (05 R116). -/
def MachineRecord.addNet (period : Nat) (p : Fin 6) (kind : ProductKind) (net : Nat) (r : MachineRecord) :
    MachineRecord :=
  let r := r.roll period
  let r := { r with periodNet := r.periodNet.set p (satAdd 4294967295 r.periodNet[p] net) }
  if kind = .fuel then
    { r with lifetime := satAdd 281474976710655 r.lifetime net, fuelSinceBurn := satAdd 4294967295 r.fuelSinceBurn net }
  else r

/-- The burn computation (05 R118). -/
def burnStep (kind : ProductKind) (net band : Nat) (r : MachineRecord) : Credit :=
  if kind = .fuel ∧ 0 < net ∧ 10 ≤ r.hoursSinceBurn then
    let burn := newBurn r.fuelSinceBurn r.hoursSinceBurn
    { record := { r with burnAverage := newAverage burn r.burnAverage, fuelSinceBurn := 0, hoursSinceBurn := 0 }
      burn := some burn
      highFrom := if r.burnAverage ≠ 0 ∧ burnHigh burn r.burnAverage band = true then some r.burnAverage else none
      serviceReset := false }
  else ⟨r, none, none, false⟩

/-- The service reset (05 R120). -/
def serviceStep (service : Bool) (net : Nat) (c : Credit) : Credit :=
  if service ∧ 0 < net then
    { c with record := { c.record with hoursSinceService := 0, overdue := false }, serviceReset := true }
  else c

/-- The credit of a delivery's net (05 R116). `service` says that both the authorisation and the product carry the
service flag. -/
def MachineRecord.credit (period : Nat) (p : Fin 6) (kind : ProductKind) (net band : Nat) (service : Bool)
    (r : MachineRecord) : Credit :=
  serviceStep service net (burnStep kind net band (r.addNet period p kind net))

/-! ## Reading and writing records (05 6.6) -/

/-- The service state of MACHINE-READ (05 R123). -/
def MachineRecord.serviceState (r : MachineRecord) : ServiceState :=
  if r.serviceInterval = 0 then .noService
  else if serviceOverdueFlag r.serviceInterval r.hoursSinceService then .overdue
  else if serviceDueFlag r.serviceInterval r.hoursSinceService then .due
  else .ok

/-- The record is rolled against the current period (05 R121). -/
def State.rollMachine (m : Fin 512) (s : State) : State := s.modMachine m (MachineRecord.roll s.period.number)

/-- MACHINE-READ (05 R123). That a VACANT record whose fields have been written shows them is the model's, log 31. -/
def machineRead (machine : Nat) (s : State) : Answer × State :=
  match machineNumber machine with
  | none => (refuse .range, s)
  | some m =>
    let t := s.rollMachine m
    (accept (.machine ⟨t.machine m, t.engagedLanes m, (t.machine m).serviceState⟩), t)

/-- The hour baseline: the rebase (05 R125). -/
def MachineRecord.rebase (now : Nat) (clockSet : Bool) (baseline : Option Nat) (r : MachineRecord) : MachineRecord :=
  match baseline with
  | some h => { r with lastReading := some h, readingTime := now, timed := clockSet }
  | none => { r with lastReading := none }

/-- The masked fields of a record are written (05 R125, R126). -/
def MachineRecord.write (now : Nat) (clockSet : Bool) (period mask : Nat) (v : MachineValues) (r : MachineRecord) :
    MachineRecord :=
  if masked mask 0 ∧ machineStatusCode v.status = some .vacant then { recordPeriod := period }
  else
    let r := if masked mask 0 then { r with status := (machineStatusCode v.status).getD r.status } else r
    let r := if masked mask 1 then { r with permitted := BitVec.ofNat 8 v.permitted } else r
    let r := if masked mask 2 then { r with fuelCapacity := v.fuelCapacity } else r
    let r := if masked mask 3 then { r with serviceInterval := v.serviceInterval, overdue := false } else r
    let r := if masked mask 4 then { r with hoursSinceService := v.hoursSinceService, overdue := false } else r
    let r := if masked mask 5 then r.rebase now clockSet v.hourBaseline else r
    if masked mask 6 then { r with burnAverage := v.burnAverage } else r

/-- A record is rolled and written (05 R124, R128). -/
def State.writeMachine (mask : Nat) (v : MachineValues) (m : Fin 512) (s : State) : State :=
  (s.rollMachine m).modMachine m (MachineRecord.write s.now s.period.clockSet s.period.number mask v)

/-- MACHINE-WRITE (05 R124). -/
def machineWrite (f : MachineWriteFields) (s : State) : Answer × State :=
  match machineNumber f.machine with
  | none => (refuse .range, s)
  | some m =>
    if !(namesWritable f.mask && maskedInRange f.mask f.values) then (refuse .range, s)
    else if s.engaged m then (refuse .engaged, s)
    else (accept, s.writeMachine f.mask f.values m)

/-- PATTERN-LOAD (05 R127). -/
def patternLoad (f : PatternFields) (s : State) : Answer × State :=
  if namesWritable f.mask && maskedInRange f.mask f.values then (accept, s.setPattern (some f)) else (refuse .range, s)

/-- Member i of the group at a base that is at most 504. -/
def groupMember (base : Nat) (i : Fin 8) : Fin 512 := ⟨(base + i.val) % 512, Nat.mod_lt _ (by decide)⟩

/-- The pattern is applied to the members of the mask that are not engaged (05 R128). -/
def State.applyPattern (p : PatternFields) (base members : Nat) (s : State) : State :=
  eachOfEight (fun i t =>
    if members.testBit i.val ∧ t.engaged (groupMember base i) = false then
      t.writeMachine p.mask p.values (groupMember base i)
    else t) s

/-- GROUP-APPLY (05 R128). -/
def groupApply (f : GroupFields) (s : State) : Answer × State :=
  if f.base % 8 ≠ 0 ∨ 504 < f.base then (refuse .range, s)
  else
    match s.pattern with
    | none => (refuse .noPattern, s)
    | some p =>
      (accept (.masks (maskOf fun i => f.members.testBit i.val && !s.engaged (groupMember f.base i))
        (maskOf fun i => f.members.testBit i.val && s.engaged (groupMember f.base i))),
        s.applyPattern p f.base f.members)

/-- MACHINE_READ (05 R123). -/
def execMachineRead (tag : Byte) (machine : Nat) (s : State) : Host.Outcome State Fault Refusal :=
  event (State.request ((Request.machineRead machine).frame tag) (machineRead machine)) s

/-- MACHINE_WRITE (05 R124). -/
def execMachineWrite (tag : Byte) (f : MachineWriteFields) (s : State) : Host.Outcome State Fault Refusal :=
  event (State.request ((Request.machineWrite f).frame tag) (machineWrite f)) s

/-- PATTERN_LOAD (05 R127). -/
def execPatternLoad (tag : Byte) (f : PatternFields) (s : State) : Host.Outcome State Fault Refusal :=
  event (State.request ((Request.patternLoad f).frame tag) (patternLoad f)) s

/-- GROUP_APPLY (05 R128). -/
def execGroupApply (tag : Byte) (f : GroupFields) (s : State) : Host.Outcome State Fault Refusal :=
  event (State.request ((Request.groupApply f).frame tag) (groupApply f)) s

end Sys2Proof.Machine
end

