-- ==== Sys2Proof/Machine/Stock.lean ====
section
/-! DEFINITION. The Tank Unit's stock and its gauge bus: the stock band, debits and the book, receipts, polls and
rounds, gauge status after a failed poll, reconfiguration (04). -/
namespace Sys2Proof.Machine

/-! ## Stock (04 5.5) -/

/-- Evaluate the estimate into its band, with the cut-off crossing and the low-band report (04 R91). That TANK-LOW
carries the tank record's product, also for a tank that is no product's feed tank, is the model's, log 39. -/
def State.evaluateBand (t : Fin 8) (s : State) : State :=
  let k := s.tank t
  let band := k.record.bandOf k.estimate
  let s1 := s.modTank t fun k => { k with band := band }
  let s2 :=
    if band = .cutOff ∧ k.band ≠ .cutOff then
      (match s.fedProduct t with
        | some p => s1.sendEnding p fun l => { l with tankLowEnding := true }
        | none => s1).notify (.tankLow t k.record.product (k.estimate.getD 0))
    else s1
  if (band == .lowBand) = (k.band == .lowBand) then s2
  else
    match s.fedProduct t with
    | some p => s2.grantPass p
    | none => s2

/-- The book moves by an amount, stopping at its limits (04 R92). -/
def Tank.moveBook (amount : Int) (k : Tank) : Tank :=
  { k with book := clampInt (-bookLimit) bookLimit (k.book + amount)
           bookSaturated := k.bookSaturated || decide (k.book + amount < -bookLimit)
             || decide (bookLimit < k.book + amount) }

/-- A sample's net increment is debited: book, dispensed counter, since-poll and period dispensed (02 R56; 04 R90,
R92, R104). -/
def Tank.debit (net : Nat) (k : Tank) : Tank :=
  { k.moveBook (-net) with
    dispensed := k.dispensed + net, sincePoll := k.sincePoll + net, periodDispensed := k.periodDispensed + net }

/-- A debit to a tank, which re-evaluates its estimate (02 R56). -/
def State.debitTank (t : Fin 8) (net : Nat) (s : State) : State := (s.modTank t (Tank.debit net)).evaluateBand t

/-- The gauged net of a level, a water level and a temperature (04 R89). -/
def gaugedNet (table : List TablePoint) (alpha : Nat) (level water : Nat) (temperature : Int) : Int :=
  let points := table.map fun p => (p.level, (p.volume : Int))
  let gross := if water < level then interpolate points level - interpolate points water else 0
  gross * vcf alpha (clampTemperature temperature) / 1000000

/-- The thermal coefficient of the tank's product. -/
def State.tankAlpha (s : State) (t : Fin 8) : Nat :=
  match (s.tank t).record.product with
  | some p => (s.product p).alpha
  | none => 0

/-! ## Receipts (04 5.6) -/

/-- The result of a receipt with closing reading G1 and counter D1 (04 R98). -/
def Receipt.result (r : Receipt) (g1 : Int) (d1 : Nat) (held : Bool) : ReceiptResult :=
  let rise := g1 - r.g0 + ((d1 : Int) - r.d0)
  { cause := r.cause, openTime := r.openTime, closeTime := r.closeTime, docket := r.docket, rise := rise
    credited := match r.docket with | some v => (v : Int) | none => rise
    variance := r.docket.map fun v => rise - v
    held := held }

/-- A completed receipt is booked, kept as the last receipt, and reported (04 R98). -/
def State.completeReceipt (t : Fin 8) (r : Receipt) (g1 : Int) (d1 : Nat) (held : Bool) (s : State) : State :=
  let result := r.result g1 d1 held
  (s.modTank t fun k =>
    { k.moveBook result.credited with
      periodReceipts := k.periodReceipts + result.credited, receipt := none, lastReceipt := some result }).notify
    (.receiptEnd t result)

/-- At the end of a round: a SETTLING receipt closed before that round started counts it, and at the second it
completes on the held reading, which is a use of the reading (04 R97). That GAUGE-LOST is queued before RECEIPT-END is
the model's, log 30. -/
def State.settleRound (t : Fin 8) (s : State) : State :=
  match (s.tank t).receipt with
  | none => s
  | some r =>
    match r.state with
    | .opened => s
    | .settling =>
      if r.midRound then s.modTank t fun k => { k with receipt := some { r with midRound := false } }
      else if r.rounds = 0 then s.modTank t fun k => { k with receipt := some { r with rounds := 1 } }
      else
        match (s.tank t).held with
        | some h => (s.useReading t).completeReceipt t r h.net h.counter true
        | none => s

/-! ## The gauge bus (04 5.3) -/

/-- A poll of a tank begins: GDE is driven until its last byte is sent (04 R81). -/
def State.sendPoll (t : Fin 8) (s : State) : State :=
  s.modBus fun b => { b with poll := some { tank := t, address := (s.tank t).record.address.getD 0 } }

/-- The round finds no configured tank left: it ends (04 R83, R97). That its settling receipts complete in ascending
tank number is the model's, log 30. -/
def State.endRound (s : State) : State := eachOfEight State.settleRound (s.modBus fun b => { b with round := none })

/-- The round takes the lowest configured tank from number n on, or ends (04 R83). -/
def State.visitRound (n : Nat) (s : State) : State :=
  match eightNumbers.find? fun t => decide (n ≤ t.val) && (s.tank t).configured with
  | some t => (s.modBus fun b => { b with round := some (t.val + 1) }).sendPoll t
  | none => s.endRound

/-- A round starts: with no configured tank it ends at its start, whatever the bus does (04 R83). -/
def State.startRound (s : State) : State :=
  if eightNumbers.any fun t => (s.tank t).configured then s.modBus fun b => { b with round := some 0 } else s.endRound

/-- The running round goes on; where it ends, a pending round starts (04 R83). -/
def State.continueRound (s : State) : State :=
  match s.bus.round with
  | none => s
  | some n =>
    let t := s.visitRound n
    if t.bus.poll = none ∧ t.bus.roundPending = true then
      (t.modBus fun b => { b with round := some 0, roundPending := false }).visitRound 0
    else t

/-- With no poll outstanding the next one is sent: the out-of-round queue first, entries of tanks that are not
configured being dropped, and otherwise the running round (04 R84). That an entry is dropped here, when it is next to be sent, is
the model's, log 34; so is that a round with no tank left to poll ends here, once the queue is empty, log 38. -/
def State.serveBus (s : State) : State :=
  match s.bus.poll with
  | some _ => s
  | none =>
    match s.bus.queue.dropWhile fun t => !(s.tank t).configured with
    | t :: rest => (s.modBus fun b => { b with queue := rest }).sendPoll t
    | [] => (s.modBus fun b => { b with queue := [] }).continueRound

/-- Add a tank to the out-of-round queue, where it stands at most once (04 R84). -/
def GaugeBus.add (t : Fin 8) (b : GaugeBus) : GaugeBus :=
  if b.queue.contains t then b else { b with queue := b.queue ++ [t] }

/-- An out-of-round poll of a tank is asked for; an idle bus sends it at once (04 R84). -/
def State.askPoll (t : Fin 8) (s : State) : State := (s.modBus (GaugeBus.add t)).serveBus

/-- The outstanding poll ends and the next is sent (04 R82, R84). -/
def State.endPoll (s : State) : State := (s.modBus fun b => { b with poll := none }).serveBus

/-- A round falls due: it waits for the running round, else starts (04 R83). -/
def State.roundFallsDue (s : State) : State :=
  let t := s.modBus fun b => { b with lastDue := s.elapsed }
  (match s.bus.round with
    | some _ => t.modBus fun b => { b with roundPending := true }
    | none => t.startRound).serveBus

/-- Mark the outstanding poll of a tank. -/
def GaugeBus.markPoll (t : Fin 8) (f : Poll → Poll) (b : GaugeBus) : GaugeBus :=
  { b with poll := b.poll.map fun p => if p.tank = t then f p else p }

/-- An OPEN receipt enters SETTLING: its inlet is released and an out-of-round poll is asked for (04 R96, R99, R100).
That a poll of the tank still being sent counts as sent before the close is the model's, log 33. -/
def State.closeReceipt (t : Fin 8) (cause : SettleCause) (s : State) : State :=
  match (s.tank t).receipt with
  | none => s
  | some r =>
    match r.state with
    | .settling => s
    | .opened =>
      ((s.modTank t fun k =>
        { k with receipt := some { r with state := .settling, closeTime := some s.now, cause := some cause, rounds := 0
                                          midRound := s.bus.round.isSome } }).modBus
        (GaugeBus.markPoll t fun p => { p with beforeClose := true })).askPoll t

/-- Shutdown entry closes every inlet, in ascending tank number (04 R99). -/
def State.closeInlets (s : State) : State := eachOfEight (fun t s => s.closeReceipt t .shutdown) s

/-- The gauge status after a failed poll (04 R86). -/
def Tank.pollFailed (k : Tank) : Tank :=
  match k.status with
  | .unpolled => { k with fails := satAdd 255 k.fails 1 }
  | .good => { k with status := .stale, fails := 1 }
  | .stale =>
    if k.fails + 1 < 3 then { k with fails := k.fails + 1 }
    else { k with status := .lost, fails := k.fails + 1, noticed := false, lostDuring := true }
  | .lost => { k with fails := satAdd 255 k.fails 1 }

/-- A poll fails; one sent before its tank's reconfiguration counts for nothing (04 R78, R82, R86). -/
def State.failPoll (p : Poll) (s : State) : State :=
  (if p.void then s else s.modTank p.tank Tank.pollFailed).endPoll

/-- What a reconfiguration does to the tank (04 R78). -/
def Tank.reconfigured (k : Tank) : Tank :=
  { k with status := .unpolled, fails := 0, noticed := false, held := none, sincePoll := 0, band := .noBand
           watch := none, highHigh := false, opening := none }

/-- A tank is reconfigured; the outcome of a poll of it that is outstanding will not count (04 R78). That a poll still
being sent is one sent before is the model's, log 33. -/
def State.reconfigure (t : Fin 8) (s : State) : State :=
  (s.modTank t Tank.reconfigured).modBus (GaugeBus.markPoll t fun p => { p with void := true })

/-! ## Meanings of the gauge events that raise no cause -/

/-- ROUND_DUE (04 R83). -/
def execRoundDue (s : State) : Host.Outcome State Fault Refusal := event State.roundFallsDue s

/-- The last byte of the poll is sent: GDE is released and the reply timer starts (04 R81, R82). -/
def gaugePollSent (s : State) : State :=
  s.modBus fun b => { b with poll := b.poll.map fun p => { p with sent := true } }

/-- GAUGE_POLL_SENT (04 R82). -/
def execGaugePollSent (s : State) : Host.Outcome State Fault Refusal := event gaugePollSent s

/-- The reply timer expires: the poll has failed (04 R82). -/
def replyTimerExpiry (s : State) : State :=
  match s.bus.poll with
  | some p => if p.sent then s.failPoll p else s
  | none => s

/-- REPLY_TIMER_EXPIRY (04 R82). -/
def execReplyTimerExpiry (s : State) : Host.Outcome State Fault Refusal := event replyTimerExpiry s

end Sys2Proof.Machine
end

