-- ==== Sys2Proof/Machine/Close.lean ====
section
/-! DEFINITION. How a lane leaves its delivery: withdrawal of an authorisation, entry to CLOSING, and the commit of a
delivery's record (01 2.6, 2.7; 05 R116; 06 R133; 08 R180). -/
namespace Sys2Proof.Machine

/-- A lane in IDLE: its delivery fields are cleared (01 R4). -/
def Lane.toIdle (l : Lane) : Lane := { l with state := .idle, stage := none, delivery := {}, authTimer := none }

/-- An AUTHORISED lane returns to IDLE: the reservation is released, and the engagement, which follows the lane's
state, with it (01 R13, R14, R30, R31, R32). -/
def State.withdrawLane (i : Fin 8) (s : State) : State := (s.modLane i Lane.toIdle).modJournal Journal.withdraw

/-- The last stage run of a lane that enters CLOSING (01 R33): the stage being run, or in WAITING the one run before the
lane was held. That a delivery that ran no stage keeps its resume stage as it stands at the entry is the model's, log 37. -/
def Lane.lastStage (l : Lane) : Option Stage :=
  match l.state, l.delivery.lastRun with
  | .waiting, some stage => some stage
  | _, _ => l.stage

/-- What entry to CLOSING does to the lane (01 R23, R33). -/
def Lane.enterClosing (cause : EndCause) (limit : Timer) (l : Lane) : Lane :=
  { l with state := .closing, stage := l.lastStage, maxOpen := none, quietRun := 0, closeLimit := some limit
           leaveReport := false, delivery := { l.delivery with endCause := some cause } }

/-- Entry to CLOSING but for the header's part: the lane reports its entry to the Shutdown Unit (01 R23; 07 R152). -/
def State.closeCore (i : Fin 8) (cause : EndCause) (s : State) : State :=
  (s.modLane i (Lane.enterClosing cause (s.startTimer 5))).modShutdown fun u =>
    { u with closing := u.closing ||| oneMember i }

/-- A lane has withdrawn its demand: its header hears of it (01 R23; 03 R62). -/
def State.laneDemandLeft (i : Fin 8) (s : State) : State :=
  match (s.lane i).record.product with
  | some h => s.demandLeft h
  | none => s

/-- A lane in WAITING, FLOWING or TRIMMING ends its delivery; in any other state an ending changes nothing
(01 R22, R23). -/
def State.closeLane (i : Fin 8) (cause : EndCause) (s : State) : State :=
  if (s.lane i).state.demands then (s.closeCore i cause).laneDemandLeft i else s

/-! ## Commit -/

/-- The product record of a lane, if it has a product. -/
def State.laneProduct (s : State) (i : Fin 8) : Option Product := (s.lane i).record.product.map s.product

/-- The close-ahead volume of the lane's product. -/
def State.closeAhead (s : State) (i : Fin 8) : Nat := ((s.laneProduct i).map Product.closeAhead).getD 0

/-- The credit of the lane's delivery to its machine (05 R116). -/
def State.laneCredit (s : State) (i : Fin 8) : Credit :=
  let d := (s.lane i).delivery
  let r := s.machine d.machine
  match (s.lane i).record.product with
  | some p =>
    r.credit s.period.number p (s.product p).kind d.net s.settings.burnBand (d.service && (s.product p).service)
  | none => ⟨r, none, none, false⟩

/-- The end cause of a lane's delivery. -/
def Lane.cause (l : Lane) : EndCause := l.delivery.endCause.getD .power

/-- The flags of the record: those collected, SHORT by its test, VALVE-HELD at a close limit, and the credit's
(01 R24, R25; 05 R116). -/
def recordFlags (d : Delivery) (cause : EndCause) (closeAhead : Nat) (valveHeld : Bool) (c : Credit) : JournalFlags :=
  d.flags.union { short := shortFlag cause d.gross closeAhead d.preset, valveHeld := valveHeld,
                  burnHigh := c.highFrom.isSome, serviceReset := c.serviceReset }

/-- The record the lane builds; the journal gives it its number and period (01 R24; 06 R134). -/
def State.buildRecord (s : State) (i : Fin 8) (valveHeld : Bool) : JournalRecord :=
  let l := s.lane i
  let d := l.delivery
  { seq := 0, lane := i, product := l.record.product, tank := s.laneTank i, machine := d.machine
    operator := d.operator, authTime := d.authTime, firstFlow := d.firstFlow, endTime := s.now, cause := l.cause
    preset := d.preset, gross := d.gross, net := d.net, peak := d.peak, endTemp := s.endTemperature i
    hourReading := d.hourReading, accrued := d.accrued, burn := (s.laneCredit i).burn, period := 0
    flags := recordFlags d l.cause (s.closeAhead i) valveHeld (s.laneCredit i) }

/-- The Period Unit counts a commit of the lane by its end cause (08 R180). -/
def LaneTotals.count (cause : EndCause) (t : LaneTotals) : LaneTotals :=
  { t with deliveries := satAdd 65535 t.deliveries 1
           preset := if cause = .preset then satAdd 65535 t.preset 1 else t.preset
           hangup := if cause = .hangup then satAdd 65535 t.hangup 1 else t.hangup
           other := if cause = .preset ∨ cause = .hangup then t.other else satAdd 65535 t.other 1 }

/-- The lane after the commit: the delivery holds the record's flags and number, the residues and the endings sent for
this delivery are gone (01 R24; 02 R54; log 1). -/
def Lane.committed (r : JournalRecord) (seq : Nat) (l : Lane) : Lane :=
  { l with closeLimit := none, grossResidue := 0, netResidue := 0, pumpEnding := false, tankLowEnding := false
           totals := l.totals.count r.cause
           delivery := { l.delivery with flags := r.flags, seq := some seq } }

/-- The machine's credit, and the BURN-HIGH notice it may send (05 R116, R118). -/
def State.creditMachine (i : Fin 8) (s : State) : State :=
  let m := (s.lane i).delivery.machine
  let c := s.laneCredit i
  let t := s.modMachine m fun _ => c.record
  match c.highFrom with
  | some average => t.notify (.burnHigh m i (c.burn.getD 0) average)
  | none => t

/-- The delivery is committed: the credit, the journal's record, the lane's count and DELIVERY-END (01 R24 steps 2 to
4; 06 R133). -/
def State.commitDelivery (i : Fin 8) (valveHeld : Bool) (s : State) : State :=
  let r := s.buildRecord i valveHeld
  let seq := nextSeq s.journal.lastSeq
  ((((s.creditMachine i).modJournal (Journal.commit r s.period.number)).modLane i (Lane.committed r seq)).notify
    (.deliveryEnd i seq r.cause r.gross r.net))

/-- The lane's state once its delivery is committed: DONE with the nozzle out, IDLE with it in (01 R24 step 5). -/
def Lane.afterCommit (nozzleOut : Bool) (l : Lane) : Lane :=
  if nozzleOut then { l with state := .done, stage := none } else l.toIdle

/-- A close completes, by its quiet run or its limit; the lane reports that it has left CLOSING (01 R24, R25). -/
def State.finishClose (i : Fin 8) (valveHeld : Bool) (s : State) : State :=
  (s.commitDelivery i valveHeld).modLane i fun l => { l.afterCommit l.nozzleOut with leaveReport := true }

end Sys2Proof.Machine
end

