-- ==== Sys2Proof/Machine/Shutdown.lean ====
section
/-! DEFINITION. The Shutdown Unit: raising a cause, shutdown entry, lockout, the emergency stop, the sumps, the key,
clearing, arming and disarming (07). -/
namespace Sys2Proof.Machine

/-! ## Outputs and held conditions -/

/-- ALERT is driven in SHUTTING, SHUT and LOCKOUT, while the part runs (07 R146; 10 R200). -/
def State.alert (s : State) : Bool :=
  s.power == .running
    && (match s.shutdown.bay with | .shutting | .shut | .lockout => true | .disarmed | .armed => false)

/-- The emergency stop is held (07 R149). -/
def PressState.held : PressState → Bool
  | .pressed | .long => true
  | .noPress => false

/-! ## Raising a cause (07 R156) and shutdown entry (07 R157) -/

/-- The kind is on the stack. -/
def onStack (kind : CauseKind) (stack : List CauseRecord) : Bool := stack.any fun r => r.kind == kind

/-- A cause merges into the record of its kind, or pushes a new one on top (07 R156 steps 1 and 2). -/
def pushOrMerge (kind : CauseKind) (detail : Mask) (now : Nat) (stack : List CauseRecord) : List CauseRecord :=
  if onStack kind stack then
    stack.map fun r =>
      if r.kind = kind then { r with repeats := satAdd 255 r.repeats 1, last := now, detail := r.detail ||| detail }
      else r
  else ⟨kind, now, now, 1, detail⟩ :: stack

/-- The repeat count of a kind's record. -/
def repeatsOf (kind : CauseKind) (stack : List CauseRecord) : Nat :=
  ((stack.find? fun r => r.kind == kind).map CauseRecord.repeats).getD 0

/-- Shutdown entry commands one lane; the header hears of it in the stop that follows (01 R31; 07 R157 part 2). -/
def State.shutLane (i : Fin 8) (s : State) : State :=
  if (s.lane i).state = .authorised then s.withdrawLane i
  else if (s.lane i).state.demands then s.closeCore i .shutdown
  else s

/-- Shutdown entry (07 R157): SHUTTING, the lanes, the headers, the inlets, and SHUT at once where no lane is
closing. -/
def State.shutdownEntry (s : State) : State :=
  let t := ((eachOfEight State.shutLane (s.modShutdown fun u => { u with bay := .shutting })).stopHeaders).closeInlets
  if t.shutdown.closing = 0 then t.modShutdown fun u => { u with bay := .shut } else t

/-- The cause is recorded and counted (07 R156 steps 1 to 3). -/
def State.recordCause (kind : CauseKind) (detail : Mask) (s : State) : State :=
  s.modShutdown fun u =>
    { u with stack := pushOrMerge kind detail s.now u.stack, causes := satAdd 65535 u.causes 1 }

/-- A cause makes shutdown entry from ARMED and DISARMED (07 R156 step 4, R158). -/
def State.entryIfOpen (s : State) : State :=
  match s.shutdown.bay with
  | .armed | .disarmed => s.shutdownEntry
  | .shutting | .shut | .lockout => s

/-- A cause is raised (07 R156). -/
def State.raise (kind : CauseKind) (detail : Mask) (s : State) : State :=
  let merged := onStack kind s.shutdown.stack
  let t := (s.recordCause kind detail).entryIfOpen
  t.notify (.shutdown kind detail (repeatsOf kind t.shutdown.stack) merged t.shutdown.stack.length t.shutdown.bay)

/-- A lane's valve failure or creep report is taken: LOCKOUT from SHUTTING and SHUT, RUNAWAY otherwise (07 R152,
R161). -/
def State.laneReport (i : Fin 8) (reason : LockoutReason) (s : State) : State :=
  match s.shutdown.bay with
  | .shutting | .shut =>
    (s.modShutdown fun u => { u with bay := .lockout, lockout := some ⟨i, reason, s.now⟩, lockoutFlag := true }).notify
      (.lockout i reason s.shutdown.stack.length (s.shutdown.stack.head?.map CauseRecord.kind))
  | .disarmed | .armed | .lockout => s.raise .runaway (oneMember i)

/-! ## Meanings of the shutdown events -/

/-- A sump's debounced level changes; a change to ACTIVE raises a SUMP cause (07 R148). -/
def sumpActive (n : Fin 4) (active : Bool) (s : State) : State :=
  if s.shutdown.sumps.getLsbD n.val = active then s
  else
    let bit : Mask := 1#8 <<< n.val
    if active then (s.modShutdown fun u => { u with sumps := u.sumps ||| bit }).raise .sump bit
    else s.modShutdown fun u => { u with sumps := u.sumps &&& ~~~bit }

/-- SUMP_ACTIVE (07 R148). -/
def execSumpActive (n : Fin 4) (active : Bool) (s : State) : Host.Outcome State Fault Refusal :=
  event (sumpActive n active) s

/-- A press begins (07 R149). -/
def pressBegin (s : State) : State :=
  if s.shutdown.press = .noPress then s.modShutdown fun u => { u with press := .pressed } else s

/-- PRESS_BEGIN (07 R149). -/
def execPressBegin (s : State) : Host.Outcome State Fault Refusal := event pressBegin s

/-- The lanes a lane stop reaches: those in AUTHORISED and those with an open delivery (01 R30; 07 R150). -/
def State.stoppable (s : State) (i : Fin 8) : Bool :=
  (s.lane i).state == .authorised || (s.lane i).state.demands

/-- The lane stop at one lane; the headers hear of it when every lane has taken it (01 R30). -/
def State.stopLane (i : Fin 8) (s : State) : State :=
  if (s.lane i).state = .authorised then s.withdrawLane i
  else if (s.lane i).state.demands then s.closeCore i .laneStop
  else s

/-- The lane stop: every lane acts, then every header that had demand sees it leave (01 R30; 03 R62). -/
def State.laneStop (s : State) : State :=
  eachOfSix (fun h t => if s.headerDemand h then t.demandLeft h else t) (eachOfEight State.stopLane s)

/-- A short press: in ARMED the lane stop, its notice and its count (07 R150, R169). -/
def State.shortPress (lengthMs : Nat) (s : State) : State :=
  match s.shutdown.bay with
  | .armed =>
    (s.laneStop.modShutdown fun u => { u with laneStops := satAdd 65535 u.laneStops 1 }).notify
      (.laneStop lengthMs (maskOf s.stoppable))
  | .disarmed | .shutting | .shut | .lockout => s

/-- The release of a press is confirmed: a press still PRESSED is a short press (07 R149, R150). -/
def pressRelease (lengthMs : Nat) (s : State) : State :=
  match s.shutdown.press with
  | .noPress => s
  | .pressed => (s.modShutdown fun u => { u with press := .noPress }).shortPress lengthMs
  | .long => s.modShutdown fun u => { u with press := .noPress }

/-- PRESS_RELEASE (07 R149, R150). -/
def execPressRelease (lengthMs : Nat) (s : State) : Host.Outcome State Fault Refusal := event (pressRelease lengthMs) s

/-- A press becomes LONG and raises ESTOP (07 R149, R151). -/
def longPress (s : State) : State :=
  if s.shutdown.press = .pressed then (s.modShutdown fun u => { u with press := .long }).raise .estop 0 else s

/-- LONG_PRESS (07 R151). -/
def execLongPress (s : State) : Host.Outcome State Fault Refusal := event longPress s

/-- The Shutdown Unit takes a valve failure report of a lane (07 R152). -/
def valveFailureReport (i : Fin 8) (s : State) : State :=
  if (s.lane i).valveReports = 0 then s
  else (s.modLane i fun l => { l with valveReports := l.valveReports - 1 }).laneReport i .valveHeld

/-- VALVE_FAILURE_REPORT (07 R152). -/
def execValveFailureReport (i : Fin 8) (s : State) : Host.Outcome State Fault Refusal := event (valveFailureReport i) s

/-- The Shutdown Unit takes a creep report of a lane (07 R152). -/
def creepReport (i : Fin 8) (s : State) : State :=
  if (s.lane i).creepReports = 0 then s
  else (s.modLane i fun l => { l with creepReports := l.creepReports - 1 }).laneReport i .creep

/-- CREEP_REPORT (07 R152). -/
def execCreepReport (i : Fin 8) (s : State) : Host.Outcome State Fault Refusal := event (creepReport i) s

/-- The Shutdown Unit takes a lane's report of leaving CLOSING; the set emptied in SHUTTING makes the bay SHUT
(07 R152, R159). -/
def closingReport (i : Fin 8) (s : State) : State :=
  if (s.lane i).leaveReport then
    (s.modLane i fun l => { l with leaveReport := false }).modShutdown fun u =>
      let closing := u.closing &&& ~~~(oneMember i)
      { u with closing := closing, bay := if u.bay = .shutting ∧ closing = 0 then .shut else u.bay }
  else s

/-- CLOSING_REPORT (07 R159). -/
def execClosingReport (i : Fin 8) (s : State) : Host.Outcome State Fault Refusal := event (closingReport i) s

/-- A qualified key turn ends a LOCKOUT (07 R163). -/
def keyTurn (s : State) : State :=
  if s.shutdown.keySeenHigh then
    s.modShutdown fun u =>
      if u.bay = .lockout then { u with keySeenHigh := false, stack := [], lockout := none, bay := .disarmed }
      else { u with keySeenHigh := false }
  else s

/-- KEY_TURN (07 R163). -/
def execKeyTurn (s : State) : Host.Outcome State Fault Refusal := event keyTurn s

/-- KEY_SEEN_HIGH (07 R163, R170). -/
def execKeySeenHigh (s : State) : Host.Outcome State Fault Refusal :=
  event (State.modShutdown fun u => { u with keySeenHigh := true }) s

/-! ## Meanings of the requests -/

/-- BAY-SHUTDOWN (07 R154). -/
def bayShutdown (s : State) : Answer × State :=
  let t := s.raise .command 0
  (accept (.shutdownTaken t.shutdown.bay t.shutdown.stack.length
    (s.shutdown.bay == .armed || s.shutdown.bay == .disarmed)), t)

/-- BAY_SHUTDOWN (07 R154). -/
def execBayShutdown (tag : Byte) (s : State) : Host.Outcome State Fault Refusal :=
  event (State.request (Request.bayShutdown.frame tag) bayShutdown) s

/-- The tank's held reading is at or above its high-high level (07 R165). -/
def Tank.overHigh (k : Tank) : Bool :=
  match k.held with
  | some h => decide (k.record.highHigh ≤ h.level)
  | none => false

/-- The members of a record's detail for which its condition holds (07 R165). -/
def State.conditionMembers (s : State) (r : CauseRecord) : Mask :=
  match r.kind with
  | .sump => r.detail &&& s.shutdown.sumps
  | .overfill => r.detail &&& maskOf fun t => (s.tank t).overHigh
  | .runaway => r.detail &&& maskOf fun i => decide ((s.lane i).quietRun < 5)
  | .hose | .estop | .tankleak | .command => 0

/-- The record's condition is present (07 R165). -/
def State.conditionPresent (s : State) (r : CauseRecord) : Bool :=
  s.conditionMembers r != 0 || (r.kind == .estop && s.shutdown.press.held)

/-- BAY-CLEAR (07 R164 to R166). That CONDITION-PRESENT of ESTOP carries its no members as a mask byte of 0 is the
model's, log 29. -/
def bayClear (kind : Nat) (s : State) : Answer × State :=
  match causeCode kind with
  | none => (refuse .range, s)
  | some k =>
    if s.shutdown.bay ≠ .shut then (refuse .bayState, s)
    else
      match s.shutdown.stack with
      | [] => (⟨.wrongRecord, .topKind none⟩, s)
      | r :: rest =>
        if r.kind ≠ k then (⟨.wrongRecord, .topKind (some r.kind)⟩, s)
        else if s.conditionPresent r then (⟨.conditionPresent, .members (s.conditionMembers r)⟩, s)
        else
          let bay := if rest.isEmpty then BayState.disarmed else .shut
          (accept (.cleared k rest.length (rest.head?.map CauseRecord.kind) bay),
            s.modShutdown fun u => { u with stack := rest, bay := bay })

/-- BAY_CLEAR (07 R164). -/
def execBayClear (tag : Byte) (kind : Nat) (s : State) : Host.Outcome State Fault Refusal :=
  event (State.request ((Request.bayClear kind).frame tag) (bayClear kind)) s

/-- BAY-ARM (07 R167). -/
def bayArm (s : State) : Answer × State :=
  if s.shutdown.bay ≠ .disarmed then (refuse .bayState, s)
  else if s.shutdown.sumps ≠ 0 ∨ s.shutdown.press.held = true then
    (⟨.conditionPresent, .armBlocked s.shutdown.sumps s.shutdown.press.held⟩, s)
  else (accept (.bay .armed), s.modShutdown fun u => { u with bay := .armed })

/-- BAY_ARM (07 R167). -/
def execBayArm (tag : Byte) (s : State) : Host.Outcome State Fault Refusal :=
  event (State.request (Request.bayArm.frame tag) bayArm) s

/-- The lane is at rest: IDLE or DONE (07 R168). -/
def LaneState.atRest : LaneState → Bool
  | .idle | .done => true
  | .authorised | .waiting | .flowing | .trimming | .closing => false

/-- BAY-DISARM (07 R168). -/
def bayDisarm (s : State) : Answer × State :=
  let lanes := maskOf fun i => !(s.lane i).state.atRest
  let tanks := maskOf fun t => (s.tank t).inlet
  if s.shutdown.bay ≠ .armed then (refuse .bayState, s)
  else if lanes ≠ 0 ∨ tanks ≠ 0 then (⟨.busy, .masks lanes tanks⟩, s)
  else (accept (.bay .disarmed), (s.modShutdown fun u => { u with bay := .disarmed }).stopHeaders)

/-- BAY_DISARM (07 R168). -/
def execBayDisarm (tag : Byte) (s : State) : Host.Outcome State Fault Refusal :=
  event (State.request (Request.bayDisarm.frame tag) bayDisarm) s

end Sys2Proof.Machine
end

