-- ==== Sys2Proof/Machine/Tank.lean ====
section
/-! DEFINITION. The Tank Unit's requests and the taking of a gauge reply with its leak, overfill, stock, receipt and
opening steps (04). -/
namespace Sys2Proof.Machine

/-! ## Records and tables -/

/-- Another tank holds this gauge address (04 R78 check 1). -/
def State.addressTaken (s : State) (t : Fin 8) : Option Nat → Bool
  | none => false
  | some a => eightNumbers.any fun u => u != t && (s.tank u).record.address == some a

/-- The tank is busy: the feed tank of a product with a lane out of IDLE, or a receipt in progress (04 R78 check 2). -/
def State.tankBusy (s : State) (t : Fin 8) : Bool :=
  (match s.fedProduct t with | some p => s.productBusy p | none => false) || (s.tank t).receipt.isSome

/-- TANK-SET (04 R78). -/
def tankSet (f : TankFields) (s : State) : Answer × State :=
  match eightNumber f.tank, readTankRecord f with
  | some t, some r =>
    if s.addressTaken t r.address then (refuse .range, s)
    else if s.tankBusy t then (refuse .tankBusy, s)
    else
      let old := (s.tank t).record
      let u := s.modTank t fun k => { k with record := r }
      (accept, if old.product = r.product ∧ old.address = r.address then u.evaluateBand t else u.reconfigure t)
  | _, _ => (refuse .range, s)

/-- TANK_SET (04 R78). -/
def execTankSet (tag : Byte) (f : TankFields) (s : State) : Host.Outcome State Fault Refusal :=
  event (State.request ((Request.tankSet f).frame tag) (tankSet f)) s

/-- TABLE-POINT (04 R79). -/
def tablePoint (f : TablePointFields) (s : State) : Answer × State :=
  match eightNumber f.tank with
  | none => (refuse .range, s)
  | some t =>
    if h : f.index < 32 then
      (accept, s.modTank t fun k => { k with staging := k.staging.set f.index (some ⟨f.level, f.volume⟩) })
    else (refuse .range, s)

/-- TABLE_POINT (04 R79). -/
def execTablePoint (tag : Byte) (f : TablePointFields) (s : State) : Host.Outcome State Fault Refusal :=
  event (State.request ((Request.tablePoint f).frame tag) (tablePoint f)) s

/-- A point is one the commit accepts after the points already read (04 R80 check 3). -/
def tablePointOk (before : List TablePoint) (p : TablePoint) : Bool :=
  decide (p.level ≤ 40000) && decide (p.volume ≤ 1000000000)
    && (match before.getLast? with
        | none => true
        | some q => decide (q.level < p.level) && decide (q.volume ≤ p.volume))

/-- Read slots in ascending order: the points, or the index of the lowest slot at fault (04 R80). -/
def readTable : List (Option TablePoint) → List TablePoint → List TablePoint ⊕ Nat
  | [], before => .inl before
  | none :: _, before => .inr before.length
  | some p :: rest, before => if tablePointOk before p then readTable rest (before ++ [p]) else .inr before.length

/-- TABLE-COMMIT (04 R80). -/
def tableCommit (f : CommitFields) (s : State) : Answer × State :=
  match eightNumber f.owner with
  | none => (refuse .range, s)
  | some t =>
    if f.count < 2 ∨ 32 < f.count then (refuse .range, s)
    else if s.tankBusy t then (refuse .tankBusy, s)
    else
      match readTable ((s.tank t).staging.toList.take f.count) [] with
      | .inr slot => (⟨.tableInvalid, .slot slot⟩, s)
      | .inl points =>
        (accept, (s.modTank t fun k =>
          { k with table := some points, staging := Vector.replicate 32 none }).reconfigure t)

/-- TABLE_COMMIT (04 R80). -/
def execTableCommit (tag : Byte) (f : CommitFields) (s : State) : Host.Outcome State Fault Refusal :=
  event (State.request ((Request.tableCommit f).frame tag) (tableCommit f)) s

/-! ## Polls asked for, the book, receipts -/

/-- GAUGE-NOW (04 R85). The answer `polled` says that the tank was added; its byte, 1 for added, is the model's, log 29. -/
def gaugeNow (tank : Nat) (s : State) : Answer × State :=
  match eightNumber tank with
  | none => (refuse .range, s)
  | some t =>
    if (s.tank t).configured then (accept (.polled (!s.bus.queue.contains t)), s.askPoll t)
    else (refuse .notConfigured, s)

/-- GAUGE_NOW (04 R85). -/
def execGaugeNow (tag : Byte) (tank : Nat) (s : State) : Host.Outcome State Fault Refusal :=
  event (State.request ((Request.gaugeNow tank).frame tag) (gaugeNow tank)) s

/-- BOOK-SET (04 R93). -/
def bookSet (f : BookFields) (s : State) : Answer × State :=
  match eightNumber f.tank with
  | none => (refuse .range, s)
  | some t =>
    if f.book < -bookLimit ∨ bookLimit < f.book then (refuse .range, s)
    else (accept (.book (s.tank t).book), s.modTank t fun k => { k with book := f.book, bookSaturated := false })

/-- BOOK_SET (04 R93). -/
def execBookSet (tag : Byte) (f : BookFields) (s : State) : Host.Outcome State Fault Refusal :=
  event (State.request ((Request.bookSet f).frame tag) (bookSet f)) s

/-- RECEIPT-OPEN, with its number and docket in range (04 R95 orders 2 to 5). -/
def openReceipt (t : Fin 8) (docket : Option Nat) (s : State) : Answer × State :=
  let k := s.tank t
  if s.shutdown.bay ≠ .armed then (refuse .bayState, s)
  else if !k.configured then (refuse .notConfigured, s)
  else if k.receipt.isSome then (refuse .receiptOpen, s)
  else
    match k.status, k.held with
    | .lost, _ => (refuse .gaugeLost, s.useReading t)
    | .unpolled, _ => (refuse .gaugeUnpolled, s)
    | _, none => (refuse .gaugeUnpolled, s)
    | _, some h =>
      (accept (.receiptOpened h.net h.time), s.modTank t fun k =>
        { k with receipt := some (Receipt.mk .opened docket h.net h.counter s.now none none 0 false) })

/-- RECEIPT-OPEN (04 R95). -/
def receiptOpen (f : ReceiptOpenFields) (s : State) : Answer × State :=
  match eightNumber f.tank with
  | none => (refuse .range, s)
  | some t => if f.docket.all (· ≤ 1000000000) then openReceipt t f.docket s else (refuse .range, s)

/-- RECEIPT_OPEN (04 R95). -/
def execReceiptOpen (tag : Byte) (f : ReceiptOpenFields) (s : State) : Host.Outcome State Fault Refusal :=
  event (State.request ((Request.receiptOpen f).frame tag) (receiptOpen f)) s

/-- RECEIPT-CLOSE (04 R96). -/
def receiptClose (tank : Nat) (s : State) : Answer × State :=
  match eightNumber tank with
  | none => (refuse .range, s)
  | some t => if (s.tank t).inlet then (accept, s.closeReceipt t .close) else (refuse .noReceipt, s)

/-- RECEIPT_CLOSE (04 R96). -/
def execReceiptClose (tag : Byte) (tank : Nat) (s : State) : Host.Outcome State Fault Refusal :=
  event (State.request ((Request.receiptClose tank).frame tag) (receiptClose tank)) s

/-- What TANK-QUERY shows of a tank (04 R105). -/
def State.tankView (s : State) (t : Fin 8) : TankView :=
  let k := s.tank t
  { record := k.record, configured := k.configured, points := (k.table.getD []).length, status := k.status
    fails := k.fails, held := k.held, sincePoll := k.sincePoll, estimate := k.estimate, band := k.band, book := k.book
    bookSaturated := k.bookSaturated, dispensed := k.dispensed, opening := k.opening
    periodDispensed := k.periodDispensed, periodReceipts := k.periodReceipts, lostDuring := k.lostDuring
    overfillStop := k.overfillStop, leak := k.leak, highHigh := k.highHigh, watch := k.watch, receipt := k.receipt
    inlet := k.inlet, lastReceipt := k.lastReceipt, queued := s.bus.queue.contains t
    outstanding := s.bus.poll.any fun p => p.tank == t }

/-- TANK-QUERY (04 R105). -/
def tankQuery (tank : Nat) (s : State) : Answer × State :=
  match eightNumber tank with
  | none => (refuse .range, s)
  | some t => (accept (.tank (s.tankView t)), s)

/-- TANK_QUERY (04 R105). -/
def execTankQuery (tag : Byte) (tank : Nat) (s : State) : Host.Outcome State Fault Refusal :=
  event (State.request ((Request.tankQuery tank).frame tag) (tankQuery tank)) s

/-! ## A good reply (04 R103) -/

/-- The drop the leak check looks at: the fall of the gauged net that dispensing does not explain (04 R102). -/
def Tank.drop (k : Tank) (net : Int) : Int := (k.held.map fun h => h.net - net - k.sincePoll).getD 0

/-- The leak check raises (04 R102). -/
def Tank.leaks (k : Tank) (net : Int) : Bool :=
  k.held.isSome && decide (k.record.leakThreshold ≠ 0) && k.receipt.isNone
    && decide ((k.record.leakThreshold : Int) < k.drop net)

/-- Step 2: the leak check (04 R102). -/
def State.leakCheck (t : Fin 8) (net : Int) (s : State) : State :=
  if (s.tank t).leaks net then (s.modTank t fun k => { k with leak := true }).raise .tankleak (oneMember t) else s

/-- An overfill stop is marked and reported (04 R100). -/
def State.overfillNotice (t : Fin 8) (level : Nat) (s : State) : State :=
  (s.modTank t fun k => { k with highHigh := true, overfillStop := true }).notify (.overfillStop t level)

/-- Step 3, first part: the high-high comparison (04 R100). -/
def State.highHighCheck (t : Fin 8) (level : Nat) (s : State) : State :=
  if level < (s.tank t).record.highHigh then s.modTank t fun k => { k with highHigh := false, watch := none }
  else if (s.tank t).inlet then
    ((s.closeReceipt t .overfillStop).modTank t fun k => { k with watch := some level }).overfillNotice t level
  else if (s.tank t).highHigh then s
  else s.overfillNotice t level

/-- Step 3, second part: the overfill watch (04 R101). -/
def State.watchCheck (t : Fin 8) (level : Nat) (s : State) : State :=
  match (s.tank t).watch with
  | none => s
  | some stop =>
    if (s.tank t).inlet = false ∧ stop + 5 < level then
      (s.modTank t fun k => { k with watch := some level }).raise .overfill (oneMember t)
    else s

/-- Step 4: the held reading is replaced, and the gauge is GOOD (04 R86, R87, R90). -/
def Tank.holdReading (r : GaugeReading) (now : Nat) (net : Int) (k : Tank) : Tank :=
  { k with held := some ⟨r.level, r.temperature, r.water, now, net, k.dispensed⟩, sincePoll := 0, status := .good
           fails := 0, noticed := false }

/-- Step 6: a SETTLING receipt completes on a reading polled after its close (04 R97). -/
def State.settleOnReply (t : Fin 8) (p : Poll) (net : Int) (s : State) : State :=
  match (s.tank t).receipt with
  | none => s
  | some r =>
    if r.state = .settling ∧ p.beforeClose = false then s.completeReceipt t r net (s.tank t).dispensed false else s

/-- Step 7: a tank without an opening value takes this reading as its opening value, and is OPENED-LATE (04 R103, 08
R177). -/
def Tank.openWith (net : Int) (k : Tank) : Tank :=
  match k.opening with
  | none => { k with opening := some net, openedLate := true }
  | some _ => k

/-- The outstanding poll's mark that it began before the tank's receipt closed, as it stands now. -/
def State.pollNow (s : State) (p : Poll) : Poll := s.bus.poll.getD p

/-- The seven steps on a good reply (04 R103). -/
def State.goodReply (p : Poll) (r : GaugeReading) (s : State) : State :=
  let t := p.tank
  let net := gaugedNet ((s.tank t).table.getD []) (s.tankAlpha t) r.level r.water r.temperature
  let s3 := ((s.leakCheck t net).highHighCheck t r.level).watchCheck t r.level
  let s5 := (s3.modTank t (Tank.holdReading r s.now net)).evaluateBand t
  (s5.settleOnReply t (s5.pollNow p) net).modTank t (Tank.openWith net)

/-- Bytes arrive for the outstanding poll: a complete reply ends it (04 R81, R82, R78). -/
def gaugeReply (bytes : List Byte) (s : State) : State :=
  match s.bus.poll with
  | none => s
  | some p =>
    if p.sent then
      match readReply p.address bytes with
      | .incomplete => s
      | .failed => s.failPoll p
      | .good r => (if p.void then s else s.goodReply p r).endPoll
    else s

/-- GAUGE_REPLY (04 R103). -/
def execGaugeReply (bytes : List Byte) (s : State) : Host.Outcome State Fault Refusal := event (gaugeReply bytes) s

end Sys2Proof.Machine
end

