-- ==== Sys2Proof/Machine/Lane.lean ====
section
/-! DEFINITION. The Lane Controller: LANE-SET, authorisation and its checks, nozzle, timers, endings, and the sample with
its tests (01). -/
namespace Sys2Proof.Machine

/-! ## Records and queries -/

/-- A lane with a product has a creep window that starts now, with a count of 0 (01 R28). -/
def Lane.restartCreep (start : Timer) (l : Lane) : Lane :=
  { l with creepCount := 0, creepTimer := if l.record.product.isSome then some start else none }

/-- LANE-SET (01 R2). -/
def laneSet (f : LaneFields) (s : State) : Answer × State :=
  match eightNumber f.lane, readLaneRecord f with
  | some i, some r =>
    if (s.lane i).state ≠ .idle then (refuse .laneBusy, s)
    else (accept, s.modLane i fun l => ({ l with record := r } : Lane).restartCreep (s.startTimer 60))
  | _, _ => (refuse .range, s)

/-- LANE_SET (01 R2). -/
def execLaneSet (tag : Byte) (f : LaneFields) (s : State) : Host.Outcome State Fault Refusal :=
  event (State.request ((Request.laneSet f).frame tag) (laneSet f)) s

/-- A field LANE-QUERY shows in some states only. -/
def showIf {α : Type} (b : Bool) (a : α) : Option α := if b then some a else none

/-- A timer's remaining whole seconds (01 R33; log 4). -/
def State.timerLeft (s : State) (t : Option Timer) : Option Nat := t.map fun t => t.left s.elapsed (s.phase 0)

/-- What LANE-QUERY shows of a lane (01 R33). The stage of a lane in CLOSING is the last stage run, as entry to CLOSING set
it; where the delivery ran none it is the resume stage, the model's choice, log 37. -/
def State.laneView (s : State) (i : Fin 8) : LaneView :=
  let l := s.lane i
  let d := l.delivery
  let named := l.state.holdsReservation || l.state == .done
  let metered := l.state.metered || l.state == .done
  { state := l.state, stage := if l.state.metered then l.stage else none, nozzleOut := l.nozzleOut, valve := l.valve
    grant := l.grant, machine := showIf named d.machine.val, operator := showIf named d.operator
    preset := showIf named d.preset, authTime := showIf named d.authTime, gross := showIf metered d.gross
    net := showIf metered d.net, peak := showIf metered d.peak, rate := showIf metered d.rate
    firstFlow := if named then d.firstFlow else none
    endCause := if l.state == .closing || l.state == .done then d.endCause else none, flags := showIf named d.flags
    authLeft := if l.state == .authorised then s.timerLeft l.authTimer else none
    openLeft := if l.state.demands then s.timerLeft l.maxOpen else none
    creep := showIf l.record.product.isSome l.creepCount, record := l.record
    seq := if l.state == .done then d.seq else none }

/-- LANE-QUERY (01 R33); it reads one elapsed time (log 4). -/
def laneQuery (lane : Nat) (s : State) : Answer × State :=
  match eightNumber lane with
  | none => (refuse .range, s)
  | some i => (accept (.lane (s.laneView i)), s.usePhases 1)

/-- LANE_QUERY (01 R33). -/
def execLaneQuery (tag : Byte) (lane : Nat) (s : State) : Host.Outcome State Fault Refusal :=
  event (State.request ((Request.laneQuery lane).frame tag) (laneQuery lane)) s

/-! ## Authorisation (01 2.4) -/

/-- The lane's product and feed tank, if the lane is configured for authorisation (01 R3). -/
def State.configuredLane (s : State) (i : Fin 8) : Option (Fin 6 × Fin 8) :=
  match (s.lane i).record.product with
  | none => none
  | some p =>
    match s.feedTank p with
    | none => none
    | some t =>
      match (s.lane i).record.curve, (s.lane i).curve with
      | .lane, none => none
      | _, _ => some (p, t)

/-- The machine checks of order 5 (05 R108). -/
def State.machineCheck (s : State) (m : Fin 512) (p : Fin 6) : Option Status :=
  match (s.machine m).status with
  | .vacant => some .machineVacant
  | .barred => some .machineBarred
  | .active =>
    if !(s.machine m).permitted.getLsbD p.val then some .notPermitted
    else if (s.engagedLanes m).any fun e => e.1 == p then some .engaged
    else none

/-- The stock checks of orders 8 and 9 (01 R9; 04 R88). -/
def Tank.stockCheck (k : Tank) : Option Status :=
  match k.status with
  | .lost => some .gaugeLost
  | .unpolled => some .gaugeUnpolled
  | .good | .stale =>
    match k.estimate with
    | none => some .tankLow
    | some e => if e ≤ k.record.cutOff then some .tankLow else none

/-- The effective preset (01 R11). -/
def effectivePreset (requested : Nat) (kind : ProductKind) (capacity maxFill : Nat) : Nat :=
  if requested = 0 then (if kind = .fuel ∧ capacity ≠ 0 then capacity else maxFill)
  else if kind = .fuel ∧ capacity ≠ 0 then min requested (min capacity maxFill)
  else min requested maxFill

/-- The delivery in hand that an acceptance sets (01 R10). -/
def newDelivery (f : AuthoriseFields) (o : AuthoriseOperands) (preset now : Nat) (h : HourResult) : Delivery :=
  { machine := o.machine, operator := f.operator, preset := preset, authTime := now, hourReading := f.hourReading
    accrued := h.accrued, service := o.service
    flags := { clamped := clampedFlag f.preset preset, hoursBackward := h.backward, hoursJump := h.jump } }

/-- An AUTHORISE that has passed every check is accepted (01 R10 to R12). -/
def acceptAuthorise (f : AuthoriseFields) (o : AuthoriseOperands) (p : Fin 6) (t : Fin 8) (s : State) :
    Answer × State :=
  let preset := effectivePreset f.preset (s.product p).kind (s.machine o.machine).fuelCapacity (s.product p).maxFill
  let h := s.hourProcessing o.machine o.lane f.hourReading
  let k := s.tank t
  (accept (.authorised preset
    { clamped := clampedFlag f.preset preset, serviceDue := h.1.due, serviceOverdue := h.1.overdue
      hoursBackward := h.1.backward, hoursJump := h.1.jump, lowBand := k.record.bandOf k.estimate == .lowBand
      gaugeStale := k.status == .stale }),
    (h.2.modJournal Journal.reserve).modLane o.lane fun l =>
      { l with state := .authorised, stage := none, delivery := newDelivery f o preset s.now h.1
               authTimer := some (s.startTimer s.settings.authTimeout) })

/-- The ordered checks of an AUTHORISE whose operands are in range (01 R9). -/
def checkAuthorise (f : AuthoriseFields) (o : AuthoriseOperands) (s : State) : Answer × State :=
  if s.shutdown.bay ≠ .armed then (refuse .bayState, s)
  else if (s.lane o.lane).state ≠ .idle then (refuse .laneBusy, s)
  else
    match s.configuredLane o.lane with
    | none => (refuse .notConfigured, s)
    | some (p, t) =>
      if (s.header p).pump = .failed then (refuse .headerFailed, s)
      else
        match s.machineCheck o.machine p with
        | some st => (refuse st, s)
        | none =>
          if f.preset ≠ 0 ∧ f.preset < 100 then (refuse .range, s)
          else if s.journal.free = 0 then (refuse .journalFull, s)
          else
            match (s.tank t).stockCheck with
            | some st => (refuse st, s.useReading t)
            | none => acceptAuthorise f o p t s

/-- AUTHORISE (01 R8, R9). -/
def authorise (f : AuthoriseFields) (s : State) : Answer × State :=
  match readAuthorise f with
  | none => (refuse .range, s)
  | some o => checkAuthorise f o s

/-- AUTHORISE (01 R9). -/
def execAuthorise (tag : Byte) (f : AuthoriseFields) (s : State) : Host.Outcome State Fault Refusal :=
  event (State.request ((Request.authorise f).frame tag) (authorise f)) s

/-- CANCEL's effect on a lane (01 R14). -/
def State.cancelLane (i : Fin 8) (s : State) : State :=
  if (s.lane i).state = .authorised then s.withdrawLane i else s.closeLane i .cancel

/-- CANCEL (01 R14). -/
def cancel (lane : Nat) (s : State) : Answer × State :=
  match eightNumber lane with
  | none => (refuse .range, s)
  | some i => (accept (.laneState ((s.cancelLane i).lane i).state), s.cancelLane i)

/-- CANCEL (01 R14). -/
def execCancel (tag : Byte) (lane : Nat) (s : State) : Host.Outcome State Fault Refusal :=
  event (State.request ((Request.cancel lane).frame tag) (cancel lane)) s

/-! ## Nozzle (01 R7, R13, R26) -/

/-- The lane at a lift that begins its delivery (01 R13). -/
def Lane.lifted (maxOpen creep : Timer) (l : Lane) : Lane :=
  ({ l with state := .waiting, stage := some .prime, authTimer := none, maxOpen := some maxOpen, rates := []
            grossResidue := 0, netResidue := 0, noFlowRun := 0, quietRun := 0, hoseCount := 0 } : Lane).restartCreep
    creep

/-- The tank's estimate is at or below its cut-off. -/
def Tank.atCutOff (k : Tank) : Bool :=
  match k.estimate with
  | some e => decide (e ≤ k.record.cutOff)
  | none => false

/-- The two exceptions to waiting, once the lane's demand has appeared (01 R13). -/
def State.liftExceptions (i : Fin 8) (p : Fin 6) (s : State) : State :=
  if (s.header p).pump = .failed then s.closeLane i .pump
  else
    match s.feedTank p with
    | some t => if (s.tank t).atCutOff then s.closeLane i .tankLow else s
    | none => s

/-- An AUTHORISED lane's nozzle is lifted: the delivery begins in WAITING (01 R13). -/
def State.startDelivery (i : Fin 8) (s : State) : State :=
  match (s.lane i).record.product with
  | none => s
  | some p =>
    let lifted := s.modLane i (Lane.lifted (s.startTimer ((s.product p).maxOpen * 60)) (s.startTimer 60))
    (lifted.demandAppeared p (s.headerDemand p)).liftExceptions i p

/-- The debounced nozzle state changes to OUT (01 R7). -/
def nozzleLift (i : Fin 8) (s : State) : State :=
  if (s.lane i).nozzleOut then s
  else
    let t := s.modLane i fun l => { l with nozzleOut := true }
    if (s.lane i).state = .authorised then t.startDelivery i else t

/-- NOZZLE_LIFT (01 R13). -/
def execNozzleLift (i : Fin 8) (s : State) : Host.Outcome State Fault Refusal := event (nozzleLift i) s

/-- The debounced nozzle state changes to IN (01 R7, R26). -/
def nozzleHangup (i : Fin 8) (s : State) : State :=
  if (s.lane i).nozzleOut then
    let t := s.modLane i fun l => { l with nozzleOut := false }
    if (s.lane i).state = .done then t.modLane i Lane.toIdle else t.closeLane i .hangup
  else s

/-- NOZZLE_HANGUP (01 R7). -/
def execNozzleHangup (i : Fin 8) (s : State) : Host.Outcome State Fault Refusal := event (nozzleHangup i) s

/-! ## Timers and endings -/

/-- The authorisation timer expires (01 R13). -/
def authorisationExpiry (i : Fin 8) (s : State) : State :=
  if (s.lane i).state = .authorised ∧ (s.lane i).authTimer ≠ none then
    (s.withdrawLane i).notify (.authExpired i (s.lane i).delivery.machine)
  else s

/-- AUTHORISATION_EXPIRY (01 R13). -/
def execAuthorisationExpiry (i : Fin 8) (s : State) : Host.Outcome State Fault Refusal :=
  event (authorisationExpiry i) s

/-- The max-open timer expires (01 R21). -/
def maxOpenExpiry (i : Fin 8) (s : State) : State := if (s.lane i).maxOpen ≠ none then s.closeLane i .time else s

/-- MAX_OPEN_EXPIRY (01 R21). -/
def execMaxOpenExpiry (i : Fin 8) (s : State) : Host.Outcome State Fault Refusal := event (maxOpenExpiry i) s

/-- The close limit expires in CLOSING: the commit with VALVE-HELD, and the valve failure report (01 R25). -/
def closeLimitExpiry (i : Fin 8) (s : State) : State :=
  if (s.lane i).state = .closing ∧ (s.lane i).closeLimit ≠ none then
    (s.finishClose i true).modLane i fun l => { l with valveReports := l.valveReports + 1 }
  else s

/-- CLOSE_LIMIT_EXPIRY (01 R25). -/
def execCloseLimitExpiry (i : Fin 8) (s : State) : Host.Outcome State Fault Refusal := event (closeLimitExpiry i) s

/-- The creep window's 60 s expire: the count returns to 0 and a new window starts (01 R28). -/
def creepWindowExpiry (i : Fin 8) (s : State) : State :=
  if (s.lane i).creepTimer ≠ none then s.modLane i (Lane.restartCreep (s.startTimer 60)) else s

/-- CREEP_WINDOW_EXPIRY (01 R28). -/
def execCreepWindowExpiry (i : Fin 8) (s : State) : Host.Outcome State Fault Refusal := event (creepWindowExpiry i) s

/-- The lane takes a PUMP ending its header sent (01 R22). -/
def pumpEnding (i : Fin 8) (s : State) : State :=
  if (s.lane i).pumpEnding then (s.modLane i fun l => { l with pumpEnding := false }).closeLane i .pump else s

/-- PUMP_ENDING (01 R22). -/
def execPumpEnding (i : Fin 8) (s : State) : Host.Outcome State Fault Refusal := event (pumpEnding i) s

/-- The lane takes a TANK-LOW ending the Tank Unit sent (01 R22). -/
def tankLowEnding (i : Fin 8) (s : State) : State :=
  if (s.lane i).tankLowEnding then (s.modLane i fun l => { l with tankLowEnding := false }).closeLane i .tankLow else s

/-- TANK_LOW_ENDING (01 R22). -/
def execTankLowEnding (i : Fin 8) (s : State) : Host.Outcome State Fault Refusal := event (tankLowEnding i) s

/-! ## The sample (01 R17; 02 R35, R36) -/

/-- The lane is in FLOWING or TRIMMING. -/
def LaneState.flows : LaneState → Bool
  | .flowing | .trimming => true
  | .idle | .authorised | .waiting | .closing | .done => false

/-- The no-flow run takes in a sample of count n: a nonzero sample, in whatever state, sets it to 0, and a zero sample
taken in FLOWING or TRIMMING raises it by one (01 R20). -/
def Lane.noFlowStep (n : Nat) (l : Lane) : Lane :=
  { l with noFlowRun := if n ≠ 0 then 0 else if l.state.flows then l.noFlowRun + 1 else l.noFlowRun }

/-- The sample reads and clears the pulse counter and feeds the no-flow and quiet runs (01 R20, R27; 02 R34). -/
def Lane.readCount (l : Lane) : Lane :=
  { l.noFlowStep l.pulses with pulses := 0, quietRun := if l.pulses = 0 then satAdd 5 l.quietRun 1 else 0 }

/-- The delivery takes in a metered sample (01 R17). -/
def Delivery.addSample (n : Nat) (m : Metered) (now : Nat) (d : Delivery) : Delivery :=
  { d with gross := d.gross + m.gross, net := d.net + m.net, peak := max d.peak m.rate
           firstFlow := if n ≠ 0 ∧ d.firstFlow = none then some now else d.firstFlow
           flags := d.flags.union m.flags, rate := m.rate
           lastT10 := match m.t10 with | some t => some t | none => d.lastT10 }

/-- The limit of the lane totals' volumes: 2^48 - 1 (08 R180). -/
def totalLimit : Nat := 281474976710655

/-- The lane's period totals take in a sample (02 R56; 08 R180). -/
def LaneTotals.addSample (m : Metered) (t : LaneTotals) : LaneTotals :=
  { t with gross := satAdd totalLimit t.gross m.gross, net := satAdd totalLimit t.net m.net
           peak := max t.peak m.rate }

/-- The lane takes in a metered sample: window, residues, delivery and totals (01 R17; 02 R37, R52 to R54, R56). -/
def Lane.addSample (n : Nat) (m : Metered) (now : Nat) (l : Lane) : Lane :=
  { l with rates := m.rates, grossResidue := m.grossResidue, netResidue := m.netResidue
           delivery := l.delivery.addSample n m now, totals := l.totals.addSample m }

/-- The prime test (01 R18). -/
def Lane.primeTest (p : Product) (l : Lane) : Lane :=
  if l.stage = some .prime ∧ p.primeVolume ≤ l.delivery.gross then { l with stage := some .main } else l

/-- What remains of the effective preset (01 R19). -/
def Delivery.remaining (d : Delivery) : Nat := d.preset - d.gross

/-- The preset test's move to TRIM (01 R19). -/
def Lane.trimTest (p : Product) (l : Lane) : Lane :=
  if l.delivery.remaining ≤ p.trimVolume ∧ l.stage ≠ some .trim then
    { l with stage := some .trim, state := if l.state = .flowing then .trimming else l.state }
  else l

/-- The lane after the prime and preset tests of a sample that does not reach close-ahead. -/
def Lane.stageTests (p : Product) (l : Lane) : Lane := (l.primeTest p).trimTest p

/-- The tests of a lane in WAITING, FLOWING or TRIMMING: the lane after them, and the ending they give (01 R17 to
R20). The sample is already in the no-flow run. -/
def Lane.sampleTests (p : Product) (l : Lane) : Lane × Option EndCause :=
  if l.delivery.remaining ≤ p.closeAhead then (l.primeTest p, some .preset)
  else
    let t := l.stageTests p
    (t, if t.state.flows = true ∧ 5 * p.noFlow ≤ t.noFlowRun then some .noflow else none)

/-- The header's part of the tests: a demand withdrawn, or one changed by a stage change (01 R5; 03 R72). -/
def State.applyTests (i : Fin 8) (h : Fin 6) (s : State) : State :=
  let r := (s.lane i).sampleTests (s.product h)
  let t := s.modLane i fun _ => r.1
  match r.2 with
  | some cause => t.closeLane i cause
  | none => if r.1.stage = (s.lane i).stage then t else t.grantPass h

/-- The rate the valve should pass (01 R29). -/
def Lane.valveRate (p : Product) (l : Lane) : Nat := if l.valve = .full then p.fullRate else p.slowRate

/-- The hose test of a sample that has left the lane in FLOWING or TRIMMING (01 R29). -/
def State.hoseTest (i : Fin 8) (h : Fin 6) (s : State) : State :=
  let l := s.lane i
  if l.state.flows then
    if l.valveRate (s.product h) * 5 < l.delivery.rate * 4 then
      if l.hoseCount = 0 then s.modLane i fun l => { l with hoseCount := 1 }
      else (s.modLane i fun l => { l with hoseCount := 0 }).raise .hose (oneMember i)
    else s.modLane i fun l => { l with hoseCount := 0 }
  else s

/-- The close completion test of a lane in CLOSING (01 R24). -/
def State.closeTest (i : Fin 8) (s : State) : State := if 5 ≤ (s.lane i).quietRun then s.finishClose i false else s

/-- The lane's own tests after a metered sample (01 R17). -/
def State.laneTests (i : Fin 8) (s : State) : State :=
  if (s.lane i).state = .closing then s.closeTest i
  else
    match (s.lane i).record.product with
    | some h => (s.applyTests i h).hoseTest i h
    | none => s

/-- The selection of a temperature for a nonzero count is a use of the feed tank's reading (02 R49). -/
def State.useLaneReading (i : Fin 8) (s : State) : State :=
  match s.laneTank i with
  | some t => s.useReading t
  | none => s

/-- A metered sample's net increment is debited to the feed tank (02 R56). -/
def State.debitLane (i : Fin 8) (net : Nat) (s : State) : State :=
  match s.laneTank i with
  | some t => s.debitTank t net
  | none => s

/-- A metered sample of count n: the metering, the delivery, the lane's tests, and the debit (02 R36, R57). A zero
count moves nothing at the tank. -/
def State.meteredSample (i : Fin 8) (n : Nat) (s : State) : State :=
  let m := s.metering i n
  let taken := (if n = 0 then s else s.useLaneReading i).modLane i (Lane.addSample n m s.now)
  let tested := taken.laneTests i
  if n = 0 then tested else tested.debitLane i m.net

/-- The creep threshold, pulses (01 R28). -/
def creepThreshold (creepVolume kFactor : Nat) : Nat := max 1 (creepVolume * kFactor / 100)

/-- The creep window takes in a count; at the threshold the lane reports creep and the window restarts (01 R28). That
a threshold lowered by PRODUCT-SET to the standing count or below is met at the lane's next creep sample, even one with
no pulses, is the model's, log 41. -/
def Lane.creepSample (threshold n : Nat) (start : Timer) (l : Lane) : Lane :=
  if threshold ≤ l.creepCount + n then
    ({ l with creepReports := l.creepReports + 1 } : Lane).restartCreep start
  else { l with creepCount := l.creepCount + n }

/-- SAMPLE's effect: the count goes to the Meter Engine, the creep window or nowhere (02 R35). -/
def sample (i : Fin 8) (s : State) : State :=
  let n := (s.lane i).pulses
  let t := s.modLane i Lane.readCount
  if (s.lane i).state.metered then t.meteredSample i n
  else
    match s.laneProduct i with
    | some p => t.modLane i (Lane.creepSample (creepThreshold p.creepVolume (s.lane i).record.kFactor) n (s.startTimer 60))
    | none => t

/-- SAMPLE (02 R35). -/
def execSample (i : Fin 8) (s : State) : Host.Outcome State Fault Refusal := event (sample i) s

end Sys2Proof.Machine
end

