-- ==== Sys2Proof/Machine/Period.lean ====
section
/-! DEFINITION. The Period Unit: the clock, the next boundary, the close with its reconciliation and report, and the
settings of BAY-SET (08; 09 R197). -/
namespace Sys2Proof.Machine

/-! ## The clock and the boundaries (08 9.1, 9.2) -/

/-- The clock advances by one, and goes to 0 after 4,294,967,295 (08 R171). -/
def nextSecond (clock : Nat) : Nat := (clock + 1) % 4294967296

/-- The minute of day of a clock value (08 R171). -/
def minuteOfDay (clock : Nat) : Nat := clock % 86400 / 60

/-- The first clock value after the clock whose time of day is a boundary, with its kind; past the last value the
counting forward goes on from 0 (08 R173; log 16). -/
def boundaryAfter (clock b1 b2 : Nat) : NextBoundary :=
  let midnight := clock - clock % 86400
  let next : NextBoundary :=
    if clock % 86400 < 60 * b1 then { due := midnight + 60 * b1, kind := .day }
    else if clock % 86400 < 60 * b2 then { due := midnight + 60 * b2, kind := .night }
    else { due := midnight + 86400 + 60 * b1, kind := .day }
  if next.due < 4294967296 then next else { due := 60 * b1, kind := .day }

/-- The next boundary is found afresh: absent while the clock is unset or the boundaries are none (08 R173). -/
def State.findBoundary (s : State) : State :=
  s.modPeriod fun u =>
    { u with next := if u.clockSet then s.settings.boundaries.map fun b => boundaryAfter u.clock b.1 b.2 else none }

/-- The kind of a period opened otherwise than at a boundary (08 R174). -/
def kindFromClock (clock : Nat) (clockSet : Bool) (boundaries : Option (Nat × Nat)) : PeriodKind :=
  match clockSet, boundaries with
  | true, some b => if b.1 ≤ minuteOfDay clock ∧ minuteOfDay clock < b.2 then .day else .night
  | _, _ => .manual

/-! ## Reconciliation (08 9.3.1) -/

/-- The base of the ppm (08 R178). -/
def varianceBase (receipts : Int) (dispensed : Nat) : Int := max (max (dispensed : Int) receipts) 100000

/-- The ppm, truncated and saturated (08 R178). -/
def variancePpm (v base : Int) : Int := clampInt (-999999) 999999 ((v * 1000000).tdiv base)

/-- The class of a ppm by its magnitude (08 R178). -/
def varianceClass (ppm : Int) : VarianceClass :=
  if ppm.natAbs ≤ 1000 then .v0
  else if ppm.natAbs ≤ 2500 then .v1
  else if ppm.natAbs ≤ 5000 then .v2
  else if ppm.natAbs ≤ 10000 then .v3
  else if ppm.natAbs ≤ 20000 then .v4
  else .v5

/-- The variance of a tank, where it is made: configured, not LOST, with O and C available (08 R178, R179). -/
def Tank.variance (k : Tank) : Option Int :=
  if k.configured ∧ k.status ≠ .lost then
    match k.opening, k.estimate with
    | some o, some c => some (c - (o + k.periodReceipts - k.periodDispensed))
    | _, _ => none
  else none

/-- The flags of a configured tank's section (08 R177). -/
def Tank.sectionFlags (k : Tank) : TankFlags :=
  if k.configured then
    { gaugeHeld := k.status != .good && k.estimate.isSome, lostDuring := k.lostDuring, overfillStop := k.overfillStop
      leak := k.leak, openedLate := k.openedLate, receiptActive := k.receipt.isSome }
  else {}

/-- The tank's section of the report (08 R177, R182). -/
def Tank.report (k : Tank) : TankSection :=
  let ppm := k.variance.map fun v => variancePpm v (varianceBase k.periodReceipts k.periodDispensed)
  { configured := k.configured, product := k.record.product, alarmClass := k.record.alarmClass, opening := k.opening
    receipts := k.periodReceipts, dispensed := k.periodDispensed, closing := k.estimate, variance := k.variance
    ppm := ppm, cls := ppm.map varianceClass, flags := k.sectionFlags }

/-- A tank in alarm: its class is not below its alarm class (08 R179). -/
def TankSection.inAlarm (t : TankSection) : Bool :=
  match t.cls with
  | some c => decide (t.alarmClass.code ≤ c.code)
  | none => false

/-! ## The close (08 R176) -/

/-- The clock state of a report (08 R182). -/
def clockState (clockSet adjusted : Bool) : ClockState :=
  if !clockSet then .unset else if adjusted then .adjusted else .set

/-- Step 1's uses of the configured tanks' readings (08 R176). -/
def State.useTanks (s : State) : State :=
  eachOfEight (fun t s => if (s.tank t).configured then s.useReading t else s) s

/-- The count of tanks in alarm. -/
def State.alarms (s : State) : Nat := (eightNumbers.filter fun t => (s.tank t).report.inAlarm).length

/-- Steps 1 to 4: the report (08 R182). -/
def State.buildReport (reason : CloseReason) (s : State) : Report :=
  { header :=
      { number := s.period.number, kind := s.period.kind, reason := reason, startTime := s.period.startTime
        endTime := s.now, clockState := clockState s.period.clockSet s.period.adjusted, alarms := s.alarms }
    tanks := eightOf fun t => (s.tank t).report
    lanes := eightOf fun i => ⟨(s.lane i).record.product, (s.lane i).totals⟩
    causes := s.shutdown.causes, laneStops := s.shutdown.laneStops, lockoutFlag := s.shutdown.lockoutFlag }

/-- The VARIANCE notice of a tank in alarm (08 R179). -/
def State.varianceNotice (t : Fin 8) (s : State) : State :=
  let r := (s.tank t).report
  match r.inAlarm, r.variance, r.ppm, r.cls with
  | true, some v, some ppm, some c => s.notify (.variance s.period.number t r.product v ppm c r.flags)
  | _, _, _, _ => s

/-- Step 5: the notices (08 R176). -/
def State.closeNotices (s : State) : State :=
  (eachOfEight State.varianceNotice s).notify (.reportReady s.period.number s.period.kind s.alarms)

/-- Step 6 at a tank: the closing value becomes the opening value (08 R176; 04 R104). -/
def Tank.newPeriod (k : Tank) : Tank :=
  { k with opening := k.estimate, periodDispensed := 0, periodReceipts := 0, lostDuring := false, overfillStop := false
           leak := false, openedLate := false }

/-- Step 6 (08 R176; 07 R169). -/
def State.resetFigures (s : State) : State :=
  (eachOfEight (fun i t => (t.modTank i Tank.newPeriod).modLane i fun l => { l with totals := {} }) s).modShutdown
    fun u => { u with causes := 0, laneStops := 0, lockoutFlag := u.bay == .lockout }

/-- Step 7: the new period, of the boundary's kind or the clock's (08 R174, R176). -/
def State.openPeriod (kind : Option PeriodKind) (s : State) : State :=
  (s.modPeriod fun u =>
    { u with number := (u.number + 1) % 4294967296, startTime := u.clock, adjusted := !u.clockSet
             kind := kind.getD (kindFromClock u.clock u.clockSet s.settings.boundaries) }).findBoundary

/-- A period close (08 R176). -/
def State.closePeriod (reason : CloseReason) (kind : Option PeriodKind) (s : State) : State :=
  let used := s.useTanks
  let report := used.buildReport reason
  ((used.closeNotices.resetFigures).modPeriod fun u => { u with report := some report }).openPeriod kind

/-! ## Meanings -/

/-- The running clock reaches the next boundary's due time and the boundary is taken (08 R173; log 15). -/
def boundary (s : State) : State :=
  match s.period.boundaryDue with
  | some kind => (s.modPeriod fun u => { u with boundaryDue := none }).closePeriod .boundary (some kind)
  | none => s

/-- BOUNDARY (08 R173). -/
def execBoundary (s : State) : Host.Outcome State Fault Refusal := event boundary s

/-- REPORT-NOW (08 R175). -/
def reportNow (s : State) : Answer × State :=
  let t := s.closePeriod .request none
  (accept (.periods s.period.number t.period.number), t)

/-- REPORT_NOW (08 R175). -/
def execReportNow (tag : Byte) (s : State) : Host.Outcome State Fault Refusal :=
  event (State.request (Request.reportNow.frame tag) reportNow) s

/-- TIME-SET (08 R172). -/
def timeSet (clock : Nat) (s : State) : Answer × State :=
  if clock < 4294967296 then
    (accept (.clock s.now),
      (s.modPeriod fun u => { u with clock := clock, clockSet := true, adjusted := true }).findBoundary)
  else (refuse .range, s)

/-- TIME_SET (08 R172). -/
def execTimeSet (tag : Byte) (clock : Nat) (s : State) : Host.Outcome State Fault Refusal :=
  event (State.request ((Request.timeSet clock).frame tag) (timeSet clock)) s

/-- The section a REPORT-READ names: BAY 0, TANK 1, LANE 2 with a number (08 R183). -/
def reportPart (f : ReportReadFields) (r : Report) : Option ReportPart :=
  match f.part, eightNumber f.number with
  | 0, _ => some (.bay r.causes r.laneStops r.lockoutFlag)
  | 1, some t => some (.tank r.tanks[t])
  | 2, some i => some (.lane r.lanes[i])
  | _, _ => none

/-- The section and number of a REPORT-READ are in range (08 R183). -/
def reportRange (f : ReportReadFields) : Bool :=
  f.part == 0 || ((f.part == 1 || f.part == 2) && (eightNumber f.number).isSome)

/-- REPORT-READ (08 R183). -/
def reportRead (f : ReportReadFields) (s : State) : Answer × State :=
  if reportRange f then
    match s.period.report with
    | none => (refuse .noneHeld, s)
    | some r =>
      match reportPart f r with
      | some part => (accept (.report r.header part), s)
      | none => (refuse .range, s)
  else (refuse .range, s)

/-- REPORT_READ (08 R183). -/
def execReportRead (tag : Byte) (f : ReportReadFields) (s : State) : Host.Outcome State Fault Refusal :=
  event (State.request ((Request.reportRead f).frame tag) (reportRead f)) s

/-- The retained clock's second: the clock advances, and a due time it reaches is marked (08 R171, R173; log 15). -/
def Period.second (running : Bool) (u : Period) : Period :=
  let clock := nextSecond u.clock
  match u.next with
  | some b =>
    if b.due = clock then
      { u with clock := clock, next := some { b with reached := true }
               boundaryDue := if running then some b.kind else u.boundaryDue }
    else { u with clock := clock }
  | none => { u with clock := clock }

/-- CLOCK_SECOND (08 R171; 10 R200): the clock counts with and without VDD while the retained domain has its supply; a
running part's elapsed time counts with it (log 4). -/
def execClockSecond (s : State) : Host.Outcome State Fault Refusal :=
  .next (
    if s.power = .running then (s.modPeriod (Period.second true)).setElapsed (s.elapsed + 1)
    else if s.marker then s.modPeriod (Period.second false)
    else s)

/-! ## Bay settings (09 R197) -/

/-- The start slot after a change of the stagger interval (03 R64; log 4). -/
def StartSlot.retest (old new elapsed : Nat) (phase : Bool) (k : StartSlot) : StartSlot :=
  { k with free :=
      if k.free = true ∧ new ≤ old then true
      else if k.free = false ∧ old ≤ new then false
      else hasElapsed (elapsed - k.lastStart) new phase }

/-- A changed round period moves the next due time; one that has passed falls due at once (04 R83). -/
def State.retimeRound (old new : Nat) (phase : Bool) (s : State) : State :=
  if new ≠ old ∧ hasElapsed (s.elapsed - s.bus.lastDue) new phase = true then s.roundFallsDue else s

/-- BAY-SET (09 R197). It reads two elapsed times (log 4). -/
def baySet (f : BayFields) (s : State) : Answer × State :=
  match readSettings f with
  | none => (refuse .range, s)
  | some v =>
    let t := s.setSettings v
    let t := (t.modSlot (StartSlot.retest s.settings.stagger v.stagger s.elapsed (s.phase 0))).testSlot
    let t := t.findBoundary.retimeRound s.settings.roundPeriod v.roundPeriod (s.phase 1)
    (accept (.settings v), t.usePhases 2)

/-- BAY_SET (09 R197). -/
def execBaySet (tag : Byte) (f : BayFields) (s : State) : Host.Outcome State Fault Refusal :=
  event (State.request ((Request.baySet f).frame tag) (baySet f)) s

end Sys2Proof.Machine
end

