-- ==== Sys2Proof/Machine/Link.lean ====
section
/-! DEFINITION. The Link Interface's events and requests, and the journal's requests: the receive assembler, the hold,
the dispatch of a taken frame, the end of a sent frame, STATUS (09; 06 7.5). -/
namespace Sys2Proof.Machine

/-! ## The journal's requests (06 R136, R140, R142) -/

/-- JOURNAL-READ (06 R136). -/
def journalRead (f : JournalReadFields) (s : State) : Answer × State :=
  match decide (f.count ≤ 64), flagCode f.autoAck with
  | true, some auto =>
    let start := s.journal.readStart f.start
    (accept (.journalStart start.1 start.2 (s.journal.intended start.1 f.count)),
      s.setBurst (some { next := start.1, count := f.count, auto := auto }))
  | _, _ => (refuse .range, s)

/-- JOURNAL_READ (06 R136). -/
def execJournalRead (tag : Byte) (f : JournalReadFields) (s : State) : Host.Outcome State Fault Refusal :=
  event (State.request ((Request.journalRead f).frame tag) (journalRead f)) s

/-- JOURNAL-STOP taken while no burst runs (06 R140); a running burst ends as the request is received (R139). -/
def journalStop (s : State) : Answer × State := (accept, s)

/-- JOURNAL_STOP (06 R140). -/
def execJournalStop (tag : Byte) (s : State) : Host.Outcome State Fault Refusal :=
  event (State.request (Request.journalStop.frame tag) journalStop) s

/-- JOURNAL-ACK (06 R142). -/
def journalAck (n : Nat) (s : State) : Answer × State :=
  if s.journal.holds n || s.journal.issued n then
    let j := s.journal.release n
    (accept (.journalAcked (s.journal.held - j.held) j.held j.tail j.free), s.setJournal j)
  else (refuse .range, s)

/-- JOURNAL_ACK (06 R142). -/
def execJournalAck (tag : Byte) (n : Nat) (s : State) : Host.Outcome State Fault Refusal :=
  event (State.request ((Request.journalAck n).frame tag) (journalAck n)) s

/-! ## STATUS (09 R198) -/

/-- The summary part. -/
def State.summary (s : State) : Summary where
  clock := s.now
  clockSet := s.period.clockSet
  period := s.period.number
  bay := s.shutdown.bay
  depth := s.shutdown.stack.length
  retentionLost := s.link.retentionLost
  overflow := s.link.overflow
  displaced := s.link.displaced
  notices := s.link.notices.length
  maskLevel := s.settings.maskLevel
  bursting := s.runningBurst.isSome
  held := s.journal.held
  reserved := s.journal.reserved
  free := s.journal.free
  tail := s.journal.tail
  head := s.journal.head
  lastSeq := s.journal.lastSeq
  wrapped := s.journal.wrapped

/-- The position of a header in the pump start queue, 1 to 6, or 0. -/
def queuePosition (h : Fin 6) (queue : List (Fin 6)) : Nat := if queue.contains h then queue.idxOf h + 1 else 0

/-- The seconds left on the timer of the header's state, 0 where none runs (03 R75). -/
def Header.secondsLeft (k : Header) (elapsed : Nat) (phase : Bool) : Nat :=
  match k.pump with
  | .starting => (k.proving.map fun t => t.left elapsed phase).getD 0
  | .runon => (k.runOn.map fun t => t.left elapsed phase).getD 0
  | .stopped | .queued | .running | .failed => 0

/-- One header's part of the HEADERS section. -/
def State.headerView (s : State) (h : Fin 6) : HeaderView :=
  let k := s.header h
  { pump := k.pump, position := queuePosition h s.slot.queue, prove := k.prove
    secondsLeft := k.secondsLeft s.elapsed (s.phase h.val), granted := s.grantedRate h }

/-- The whole seconds until the start slot is free (03 R64). -/
def State.slotLeft (s : State) : Nat :=
  if s.slot.free then 0 else Timer.left ⟨s.slot.lastStart, s.settings.stagger⟩ s.elapsed (s.phase 6)

/-- The section named: SUMMARY 0, SHUTDOWN 1, HEADERS 2, SETTINGS 3. -/
def State.statusSection (s : State) : Nat → Option StatusSection
  | 0 => some .summary
  | 1 =>
    some (.shutdown s.shutdown.stack s.shutdown.lockout s.shutdown.sumps s.shutdown.press s.shutdown.press.held
      s.shutdown.keySeenHigh s.alert s.shutdown.causes s.shutdown.laneStops s.shutdown.lockoutFlag)
  | 2 => some (.headers (sixNumbers.map s.headerView) s.slotLeft)
  | 3 => some (.settings s.settings s.link.baudHigh)
  | _ => none

/-- STATUS: the three flags are cleared when the reply is built (09 R198). It reads seven elapsed times (log 4). -/
def status (part : Nat) (s : State) : Answer × State :=
  match s.statusSection part with
  | none => (refuse .range, s)
  | some v =>
    (accept (.status s.summary v),
      (s.modLink fun k => { k with retentionLost := false, overflow := false, displaced := false }).usePhases 7)

/-- STATUS (09 R198). -/
def execStatus (tag : Byte) (part : Nat) (s : State) : Host.Outcome State Fault Refusal :=
  event (State.request ((Request.status part).frame tag) (status part)) s

/-! ## Frames that carry no request (09 R189) -/

/-- A taken frame whose KIND names no request. -/
def unknownKind (s : State) : Answer × State := (refuse .unknownKind, s)

/-- UNKNOWN_KIND (09 R189). A row taken at once answers by its name whatever its KIND (log 35). -/
def execUnknownKind (tag kind : Byte) (body : List Byte) (s : State) : Host.Outcome State Fault Refusal :=
  event (State.request ⟨kind, tag, body⟩ unknownKind) s

/-- A taken frame of known KIND with a bad body. -/
def malformed (s : State) : Answer × State := (refuse .malformed, s)

/-- MALFORMED (09 R189). A row taken at once answers by its name whatever its KIND and body (log 35). -/
def execMalformed (tag kind : Byte) (body : List Byte) (s : State) : Host.Outcome State Fault Refusal :=
  event (State.request ⟨kind, tag, body⟩ malformed) s

/-! ## Dispatch (09 R189) -/

/-- The owner of each request applies it and builds the answer (09 R196). -/
def serveRequest : Request → State → Answer × State
  | .productSet f => productSet f
  | .laneSet f => laneSet f
  | .tankSet f => tankSet f
  | .tablePoint f => tablePoint f
  | .tableCommit f => tableCommit f
  | .curvePoint f => curvePoint f
  | .curveCommit f => curveCommit f
  | .baySet f => baySet f
  | .timeSet n => timeSet n
  | .authorise f => authorise f
  | .cancel n => cancel n
  | .laneQuery n => laneQuery n
  | .tankQuery n => tankQuery n
  | .gaugeNow n => gaugeNow n
  | .receiptOpen f => receiptOpen f
  | .receiptClose n => receiptClose n
  | .bookSet f => bookSet f
  | .machineRead n => machineRead n
  | .machineWrite f => machineWrite f
  | .patternLoad f => patternLoad f
  | .groupApply f => groupApply f
  | .journalRead f => journalRead f
  | .journalStop => journalStop
  | .journalAck n => journalAck n
  | .bayArm => bayArm
  | .bayDisarm => bayDisarm
  | .bayShutdown => bayShutdown
  | .bayClear n => bayClear n
  | .pumpReset n => pumpReset n
  | .status n => status n
  | .reportNow => reportNow
  | .reportRead f => reportRead f

/-- A taken frame is dispatched by its KIND and body (09 R189). -/
def serveFrame (f : HeldFrame) (s : State) : Answer × State :=
  match f.parse with
  | .request r => serveRequest r s
  | .unknownKind => unknownKind s
  | .malformed => malformed s

/-- The frame at the head of the hold is taken when no reply is pending and no burst runs or waits to begin (09
R188). -/
def State.takeHeld (s : State) : State :=
  match s.link.reply, s.burst, s.link.hold with
  | none, none, f :: rest =>
    let r := serveFrame f (s.modLink fun k => { k with hold := rest })
    r.2.putReply f.kind f.tag r.1
  | _, _, _ => s

/-! ## Receiving (09 R187, R188) -/

/-- KIND of a request frame: 0x01 to 0x3F (09 R188). -/
def requestKind (kind : Byte) : Bool := decide (1 ≤ kind.toNat) && decide (kind.toNat ≤ 63)

/-- A frame has been received whole: a request frame is offered to the hold, any other is discarded (09 R188). -/
def State.offerFrame (f : HeldFrame) (s : State) : State :=
  if requestKind f.kind then (s.holdFrame f).takeHeld else s

/-- A frame completes on HRX: it is checked, and the assembler returns to HUNT (09 R187). -/
def State.frameCompletes (bytes : List Byte) (s : State) : State :=
  let t := s.modLink fun k => { k with assembler := .hunt }
  match checkFrame bytes with
  | some f => t.offerFrame f
  | none => t

/-- FRAME_RECEIVED (09 R187). -/
def execFrameReceived (bytes : List Byte) (s : State) : Host.Outcome State Fault Refusal :=
  event (State.frameCompletes bytes) s

/-- The bytes collected make a whole frame: LEN further bytes and the two CRC bytes (09 R187). -/
def frameWhole (bytes : List Byte) : Bool :=
  match bytes with
  | [] => false
  | len :: rest => rest.length == len.toNat + 2

/-- A bad LEN byte: below 2 or above 250 (09 R187). -/
def badLength (bytes : List Byte) : Bool :=
  match bytes with
  | [] => false
  | len :: _ => decide (len.toNat < 2) || decide (250 < len.toNat)

/-- A byte arrives on HRX (09 R187). -/
def hostByteReceived (b : Byte) (s : State) : State :=
  match s.link.assembler with
  | .hunt => if b = 0xA5 then s.modLink fun k => { k with assembler := .assembling [] } else s
  | .assembling bytes =>
    let bytes := bytes ++ [b]
    if badLength bytes then s.modLink fun k => { k with assembler := .hunt }
    else if frameWhole bytes then s.frameCompletes bytes
    else s.modLink fun k => { k with assembler := .assembling bytes }

/-- HOST_BYTE_RECEIVED (09 R187). -/
def execHostByteReceived (b : Byte) (s : State) : Host.Outcome State Fault Refusal := event (hostByteReceived b) s

/-- FRAME_GAP: the frame being assembled is abandoned (09 R187). -/
def execFrameGap (s : State) : Host.Outcome State Fault Refusal :=
  event (State.modLink fun k => { k with assembler := .hunt }) s

/-! ## The end of a sent frame (09 R192; 06 R136 to R139) -/

/-- The JOURNAL-READ's reply has been sent: its burst begins, and a frame already held ends it at once (06 R136; 09
R188). -/
def State.beginBurst (s : State) : State :=
  match s.burst with
  | some b =>
    let b := { b with started := true }
    s.setBurst (some (match s.link.hold with | f :: _ => b.interrupt f | [] => b))
  | none => s

/-- A record has been sent: it is counted, and an auto-acknowledge burst releases it (06 R137, R138). -/
def State.recordSent (r : JournalRecord) (s : State) : State :=
  match s.burst with
  | some b =>
    let t := s.setBurst (some { b with sent := b.sent + 1, last := r.seq })
    if b.auto then t.modJournal (Journal.release r.seq) else t
  | none => s

/-- What the end of a message does before the arbiter chooses again. -/
def State.messageSent (m : TxMessage) (s : State) : State :=
  match m with
  | .reply _ => (s.modLink fun k => { k with reply := none }).beginBurst
  | .record r => s.recordSent r
  | .journalEnd _ => s.setBurst none
  | .notice _ => s

/-- The last stop bit of the frame on HTX: the line is free, and a held frame may be taken (09 R188, R192). -/
def frameSent (s : State) : State :=
  match s.link.line with
  | some m => ((s.modLink fun k => { k with line := none }).messageSent m).takeHeld
  | none => s

/-- FRAME_SENT (09 R192). -/
def execFrameSent (s : State) : Host.Outcome State Fault Refusal := event frameSent s

end Sys2Proof.Machine
end

