-- ==== Sys2Proof/Machine/Start.lean ====
section
/-! DEFINITION. Power loss, the reset input, the retained domain's supply, and the three starts with their recovery
(10; 01 R32; 04 R99; 07 R145; 08 R184; 09 R199). -/
namespace Sys2Proof.Machine

/-! ## Losing power (10 R200, R201) -/

/-- What goes dark at once: the frame on HTX, the poll on the gauge bus, the burst (10 R200; 06 R143; 09 R199). -/
def State.goDark (power : Power) (s : State) : State :=
  ((s.setPower power).setBurst none).modBus (fun b => { b with poll := none }) |>.modLink
    fun k => { k with line := none }

/-- POWER_LOSS (10 R200): VDD falls below its range. -/
def execPowerLoss (s : State) : Host.Outcome State Fault Refusal :=
  .next (if s.power = .vddLost then s else s.goDark .vddLost)

/-- RESET_ASSERT (10 R200): RESET_N falls with VDD present. -/
def execResetAssert (s : State) : Host.Outcome State Fault Refusal :=
  .next (if s.power = .running then s.goDark .resetHeld else s)

/-- VBAT_LOSS (10 R201): the valid marker becomes absent when VBAT falls with VDD absent; with VDD present nothing
changes. A VDD that returns while RESET_N is still low has no row: until the start the part counts as without VDD, the
model's choice, log 32. That a fall of VBAT taken with VDD present is not remembered for a later loss of VDD is the
model's too, log 36. -/
def execVbatLoss (s : State) : Host.Outcome State Fault Refusal :=
  .next (if s.power = .vddLost then s.setMarker false else s)

/-! ## Cold start (10 R203, R204) -/

/-- The part after a cold start; the model's queue and its counter of free values go on. -/
def State.coldStart (baudHigh : Bool) (s : State) : State :=
  ((State.afterColdStart baudHigh).setPending s.pending).setFreeCount s.freeCount

/-! ## Warm start and key reset (10 R205, R206) -/

/-- A lane's volatile state at rest; what is retained is kept (01 R32; 02 R34, R37, R45, R54). -/
def Lane.afterStart (l : Lane) : Lane :=
  ({ record := l.record, state := l.state, stage := l.stage, delivery := l.delivery, curve := l.curve
     totals := l.totals } : Lane).restartCreep ⟨0, 60⟩

/-- A receipt after the start: OPEN becomes SETTLING with cause POWER, and every one counts its rounds afresh (04
R99). -/
def Receipt.afterStart (now : Nat) (r : Receipt) : Receipt :=
  match r.state with
  | .opened =>
    { r with state := .settling, closeTime := some now, cause := some .power, rounds := 0, midRound := false }
  | .settling => { r with rounds := 0, midRound := false }

/-- A tank's volatile state after a start, and its receipt (04 R79, R86, R88, R99). -/
def Tank.afterStart (now : Nat) (k : Tank) : Tank :=
  { k with staging := Vector.replicate 32 none, status := .unpolled, fails := 0, noticed := false
           receipt := k.receipt.map (Receipt.afterStart now) }

/-- The bay state after a warm start (07 R145). -/
def BayState.afterStart : BayState → BayState
  | .disarmed => .disarmed
  | .armed => .disarmed
  | .shutting => .shut
  | .shut => .shut
  | .lockout => .lockout

/-- The Shutdown Unit after a warm start: its inputs at rest (07 R145, R148, R149, R152, R163). -/
def Shutdown.afterStart (u : Shutdown) : Shutdown :=
  { u with bay := u.bay.afterStart, sumps := 0, press := .noPress, keySeenHigh := false, closing := 0 }

/-- The gauge bus at a start: the tanks of settling receipts in the out-of-round queue, and the first round falling
due (04 R83, R84, R99). -/
def State.busAfterStart (s : State) : GaugeBus :=
  { queue := eightNumbers.filter fun t => (s.tank t).receipt.isSome, round := some 0 }

/-- The units and settings after a warm start, before the work in progress is closed out. -/
def State.restUnits (s : State) : State :=
  let t := (s.setHeaders (Vector.replicate 6 {})).setSlot { free := s.settings.stagger == 0 }
  let t := eachOfEight (fun i t => (t.modLane i Lane.afterStart).modTank i (Tank.afterStart s.now)) t
  ((t.modShutdown Shutdown.afterStart).modPeriod fun u => { u with boundaryDue := none }).setBus s.busAfterStart

/-- Every volatile item of the part after a warm start or key reset (10 R205; 09 R199). -/
def State.rest (kind : StartKind) (baudHigh : Bool) (s : State) : State :=
  (((((s.restUnits.setPower .running).setStartKind kind).setElapsed 0).setPattern none).setBurst none).setLink
    { baudHigh := baudHigh } |>.setSettings { s.settings with maskLevel := 0 }

/-- A delivery that was open or closing is committed with cause POWER (01 R32; 10 R206). -/
def State.powerCommit (i : Fin 8) (nozzleOut : Bool) (s : State) : State :=
  ((s.modLane i fun l => { l with delivery := { l.delivery with endCause := some .power } }).commitDelivery i
    false).modLane i (Lane.afterCommit nozzleOut)

/-- One lane's recovery (01 R32). -/
def recoverLane (nozzleOut : Mask) (i : Fin 8) (s : State) : State :=
  match (s.lane i).state with
  | .idle | .done => s
  | .authorised => s.withdrawLane i
  | .waiting | .flowing | .trimming | .closing => s.powerCommit i (nozzleOut.getLsbD i.val)

/-- The lanes recover in ascending number (06 R133). -/
def State.recoverLanes (nozzleOut : Mask) (s : State) : State := eachOfEight (recoverLane nozzleOut) s

/-- A boundary passed while power was absent makes one close (08 R184; log 15). -/
def State.lateClose (s : State) : State :=
  match s.period.next with
  | some b => if b.reached then s.closePeriod .late none else s
  | none => s

/-- The lanes' recovery and the late close (08 R184): the close goes before every POWER commit or after them all, by the
start's operand; that it never falls between two of them is the model's, log 7. -/
def State.recover (pins : StartPins) (s : State) : State :=
  if pins.closeFirst then s.lateClose.recoverLanes pins.nozzleOut else (s.recoverLanes pins.nozzleOut).lateClose

/-- A warm start or key reset (10 R202, R205). -/
def State.warmStart (pins : StartPins) (s : State) : State :=
  (((s.rest (if pins.keyLow then .key else .warm) pins.baudHigh).recover pins).serveBus).kick

/-- Each start takes its kind from the marker: cold with it absent, else a warm start or key reset (10 R202). -/
def State.start (pins : StartPins) (s : State) : State :=
  if s.marker then s.warmStart pins else s.coldStart pins.baudHigh

/-- COLD_START (10 R202, R203): with the marker present the start is a warm start or key reset. -/
def execColdStart (pins : StartPins) (s : State) : Host.Outcome State Fault Refusal := .next (s.start pins)

/-- WARM_START (10 R202, R205): with the marker absent the start is a cold start. -/
def execWarmStart (pins : StartPins) (s : State) : Host.Outcome State Fault Refusal := .next (s.start pins)

/-! ## Outputs (10 R200): released until the start that follows a loss -/

/-- A lane's valve output (01 R5). -/
def State.valveOutput (s : State) (i : Fin 8) : Valve := if s.power = .running then (s.lane i).valve else .closed

/-- VSn: on in SLOW and FULL (01 R5). -/
def State.slowValvePin (s : State) (i : Fin 8) : Bool := s.valveOutput i != .closed

/-- VFn: on in FULL (01 R5). -/
def State.fullValvePin (s : State) (i : Fin 8) : Bool := s.valveOutput i == .full

/-- INLETn (04 R94). -/
def State.inletOutput (s : State) (t : Fin 8) : Bool := s.power == .running && (s.tank t).inlet

/-- GDE: driven while a poll is being sent (04 R81). -/
def State.gaugeDriverEnable (s : State) : Bool := s.power == .running && s.bus.poll.any fun p => !p.sent

/-- The bytes of the poll being sent on GTX (04 R81). -/
def State.gaugeBytes (s : State) : List Byte :=
  match s.bus.poll with
  | some p => if p.sent then [] else pollFrame p.address
  | none => []

/-- The bytes of the frame being sent on HTX (09 R185). -/
def State.hostBytes (s : State) : List Byte := (s.link.line.map TxMessage.bytes).getD []

end Sys2Proof.Machine
end

