-- ==== Sys2Proof/Machine/Dispatch.lean ====
section
/-! DEFINITION. The meaning of each command: one arm per constructor, one direct call. -/
namespace Sys2Proof.Machine

def exec (i : Instr) (s : State) : Host.Outcome State Fault Refusal :=
  match i with
  | .productSet tag f => Sys2Proof.Machine.execProductSet tag f s
  | .laneSet tag f => Sys2Proof.Machine.execLaneSet tag f s
  | .tankSet tag f => Sys2Proof.Machine.execTankSet tag f s
  | .tablePoint tag f => Sys2Proof.Machine.execTablePoint tag f s
  | .tableCommit tag f => Sys2Proof.Machine.execTableCommit tag f s
  | .curvePoint tag f => Sys2Proof.Machine.execCurvePoint tag f s
  | .curveCommit tag f => Sys2Proof.Machine.execCurveCommit tag f s
  | .baySet tag f => Sys2Proof.Machine.execBaySet tag f s
  | .timeSet tag clock => Sys2Proof.Machine.execTimeSet tag clock s
  | .authorise tag f => Sys2Proof.Machine.execAuthorise tag f s
  | .cancel tag lane => Sys2Proof.Machine.execCancel tag lane s
  | .laneQuery tag lane => Sys2Proof.Machine.execLaneQuery tag lane s
  | .tankQuery tag tank => Sys2Proof.Machine.execTankQuery tag tank s
  | .gaugeNow tag tank => Sys2Proof.Machine.execGaugeNow tag tank s
  | .receiptOpen tag f => Sys2Proof.Machine.execReceiptOpen tag f s
  | .receiptClose tag tank => Sys2Proof.Machine.execReceiptClose tag tank s
  | .bookSet tag f => Sys2Proof.Machine.execBookSet tag f s
  | .machineRead tag machine => Sys2Proof.Machine.execMachineRead tag machine s
  | .machineWrite tag f => Sys2Proof.Machine.execMachineWrite tag f s
  | .patternLoad tag f => Sys2Proof.Machine.execPatternLoad tag f s
  | .groupApply tag f => Sys2Proof.Machine.execGroupApply tag f s
  | .journalRead tag f => Sys2Proof.Machine.execJournalRead tag f s
  | .journalStop tag => Sys2Proof.Machine.execJournalStop tag s
  | .journalAck tag seq => Sys2Proof.Machine.execJournalAck tag seq s
  | .bayArm tag => Sys2Proof.Machine.execBayArm tag s
  | .bayDisarm tag => Sys2Proof.Machine.execBayDisarm tag s
  | .bayShutdown tag => Sys2Proof.Machine.execBayShutdown tag s
  | .bayClear tag kind => Sys2Proof.Machine.execBayClear tag kind s
  | .pumpReset tag header => Sys2Proof.Machine.execPumpReset tag header s
  | .status tag part => Sys2Proof.Machine.execStatus tag part s
  | .reportNow tag => Sys2Proof.Machine.execReportNow tag s
  | .reportRead tag f => Sys2Proof.Machine.execReportRead tag f s
  | .unknownKind tag kind body => Sys2Proof.Machine.execUnknownKind tag kind body s
  | .malformed tag kind body => Sys2Proof.Machine.execMalformed tag kind body s
  | .frameReceived bytes => Sys2Proof.Machine.execFrameReceived bytes s
  | .frameGap => Sys2Proof.Machine.execFrameGap s
  | .frameSent => Sys2Proof.Machine.execFrameSent s
  | .pulse lane => Sys2Proof.Machine.execPulse lane s
  | .sample lane => Sys2Proof.Machine.execSample lane s
  | .nozzleLift lane => Sys2Proof.Machine.execNozzleLift lane s
  | .nozzleHangup lane => Sys2Proof.Machine.execNozzleHangup lane s
  | .authorisationExpiry lane => Sys2Proof.Machine.execAuthorisationExpiry lane s
  | .maxOpenExpiry lane => Sys2Proof.Machine.execMaxOpenExpiry lane s
  | .closeLimitExpiry lane => Sys2Proof.Machine.execCloseLimitExpiry lane s
  | .creepWindowExpiry lane => Sys2Proof.Machine.execCreepWindowExpiry lane s
  | .grantTaken lane => Sys2Proof.Machine.execGrantTaken lane s
  | .pumpEnding lane => Sys2Proof.Machine.execPumpEnding lane s
  | .tankLowEnding lane => Sys2Proof.Machine.execTankLowEnding lane s
  | .proveChange header active => Sys2Proof.Machine.execProveChange header active s
  | .provingTimerExpiry header => Sys2Proof.Machine.execProvingTimerExpiry header s
  | .runonExpiry header => Sys2Proof.Machine.execRunonExpiry header s
  | .staggerElapsed => Sys2Proof.Machine.execStaggerElapsed s
  | .roundDue => Sys2Proof.Machine.execRoundDue s
  | .gaugePollSent => Sys2Proof.Machine.execGaugePollSent s
  | .gaugeReply bytes => Sys2Proof.Machine.execGaugeReply bytes s
  | .replyTimerExpiry => Sys2Proof.Machine.execReplyTimerExpiry s
  | .sumpActive sump active => Sys2Proof.Machine.execSumpActive sump active s
  | .pressBegin => Sys2Proof.Machine.execPressBegin s
  | .pressRelease lengthMs => Sys2Proof.Machine.execPressRelease lengthMs s
  | .longPress => Sys2Proof.Machine.execLongPress s
  | .valveFailureReport lane => Sys2Proof.Machine.execValveFailureReport lane s
  | .creepReport lane => Sys2Proof.Machine.execCreepReport lane s
  | .closingReport lane => Sys2Proof.Machine.execClosingReport lane s
  | .keyTurn => Sys2Proof.Machine.execKeyTurn s
  | .boundary => Sys2Proof.Machine.execBoundary s
  | .powerLoss => Sys2Proof.Machine.execPowerLoss s
  | .resetAssert => Sys2Proof.Machine.execResetAssert s
  | .vbatLoss => Sys2Proof.Machine.execVbatLoss s
  | .coldStart pins => Sys2Proof.Machine.execColdStart pins s
  | .warmStart pins => Sys2Proof.Machine.execWarmStart pins s
  | .hostByteReceived byte => Sys2Proof.Machine.execHostByteReceived byte s
  | .keySeenHigh => Sys2Proof.Machine.execKeySeenHigh s
  | .clockSecond => Sys2Proof.Machine.execClockSecond s

end Sys2Proof.Machine
end

