-- ==== Sys2Proof/Safety.lean ====
section
/-! DEFINITION. The laws the manual states of every moment of the device, as predicates of a state, and the words the
statements are written in. -/
namespace Sys2Proof.Machine

/-! ## When a request is taken at once, and what an event leaves -/

/-- A host request is taken at once: the part runs, no burst runs or waits to begin, no frame is held and no reply is
pending (09 R188). -/
def State.ready (s : State) : Prop :=
  s.power = .running ∧ s.burst = none ∧ s.link.hold = [] ∧ s.link.reply = none

/-- A request of this kind and tag has been answered, leaving the rest of the part as u; the arbiter then chooses. -/
def State.answered (u : State) (kind tag : Byte) (a : Answer) : Host.Outcome State Fault Refusal :=
  .next (u.putReply kind tag a).kick

/-- The link once a request has been answered with r: the reply takes the pending slot, and goes on the line unless a
message is being sent, which goes on to its last byte (09 R190, R192). -/
def Link.answering (r : Reply) (k : Link) : Link :=
  { k with reply := some r, line := some (k.line.getD (.reply r)) }

/-- A request has been answered and the part is u but for the answer on its link. -/
def State.answers (u : State) (kind tag : Byte) (a : Answer) : Host.Outcome State Fault Refusal :=
  .next { u with link := u.link.answering ⟨kind, tag, a⟩ }

/-- An event leaves the part as u; the arbiter then chooses. -/
def State.settled (u : State) : Host.Outcome State Fault Refusal := .next u.kick

/-- The code of a lane, tank, product or header field that may be none (09 R191). -/
def indexCode {n : Nat} (o : Option (Fin n)) : Nat := (o.map Fin.val).getD 255

/-! ## Notices (09 R193, R194) -/

/-- The link after a notice is raised: the queue is offered it unless the mask level keeps it out (09 R194). -/
def Link.raised (maskLevel : Nat) (k : Link) (n : Notice) : Link :=
  if n.body.level = 7 ∨ maskLevel < n.body.level then k.offer n else k

/-- The link of s after notices are raised in turn, each carrying the clock (09 R193). -/
def State.linkRaising (s : State) (bodies : List NoticeBody) : Link :=
  bodies.foldl (fun k b => k.raised s.settings.maskLevel ⟨s.period.clock, b⟩) s.link

/-! ## A grant pass (03 R70 to R73) -/

/-- Lane b is lane a but for what a grant pass may set: the Arbiter's grant and RATE-CAPPED (03 R70, R73). -/
def Lane.sameButGrant (a b : Lane) : Prop :=
  b = { a with arbiterGrant := b.arbiterGrant
               delivery := { a.delivery with
                 flags := { a.delivery.flags with rateCapped := b.delivery.flags.rateCapped } } }

/-- What remains of the capacity of header h for lane i: the rates of the grants of the lanes below it are taken
(03 R71). -/
def State.capacityLeft (u : State) (h : Fin 6) (i : Fin 8) : Nat :=
  (u.product h).pumpCapacity -
    (eightNumbers.map fun j =>
      if j < i ∧ (u.lane j).record.product = some h then (u.product h).rateOf (u.lane j).arbiterGrant else 0).sum

/-- The product's feed tank is in its low band (03 R73). -/
def State.capped (u : State) (h : Fin 6) : Bool := (u.feedTank h).any fun t => (u.tank t).band == .lowBand

/-- The grant a pass of header h gives a lane that has `left` of the capacity before it (03 R70, R71, R73). -/
def State.grantFor (u : State) (h : Fin 6) (left : Nat) (l : Lane) : Grant :=
  if l.state.demands = true ∧ (u.header h).pump = .running then
    if l.stage = some .main ∧ u.capped h = false ∧ (u.product h).fullRate ≤ left then .full
    else if (u.product h).slowRate ≤ left then .slow else .hold
  else .hold

/-- A lane with a grant of header h: a FULL demand given SLOW under the low-band cap earns RATE-CAPPED (03 R73). -/
def Lane.withGrant (u : State) (h : Fin 6) (g : Grant) (l : Lane) : Lane :=
  { l with arbiterGrant := g
           delivery := { l.delivery with
             flags := { l.delivery.flags with
               rateCapped := l.delivery.flags.rateCapped
                 || decide (l.stage = some .main ∧ u.capped h = true ∧ g = .slow) } } }

/-- From s to u the lanes are as they were but for a grant pass of header h, made with the headers and tanks of u. -/
def State.passOf (s u : State) (h : Fin 6) : Prop :=
  ∀ i, u.lane i =
    if (s.lane i).record.product = some h then
      (s.lane i).withGrant u h (u.grantFor h (u.capacityLeft h i) (s.lane i))
    else s.lane i

/-! ## A demand that appears and one that leaves (03 R62 to R66) -/

/-- A header in a pump state with its timers as given. -/
def Header.inState (pump : PumpState) (proving runOn : Option Timer) (k : Header) : Header :=
  { k with pump := pump, proving := proving, runOn := runOn }

/-- What a header makes of the end of its demand (03 R63, R66). -/
def Header.demandEnded (p : Product) (elapsed : Nat) (k : Header) : Header :=
  match k.pump with
  | .queued => k.inState .stopped none none
  | .running => if p.runOn = 0 then k.inState .stopped none none else k.inState .runon none (some ⟨elapsed, p.runOn⟩)
  | .stopped | .starting | .runon | .failed => k

/-- From s, in which lane i demands no longer, to u its header has heard of it (01 R23; 03 R62, R63, R66, R72). -/
def State.demandLeaves (s u : State) (i : Fin 8) : Prop :=
  match (s.lane i).record.product with
  | none => u = s
  | some h =>
    (∀ k, u.header k =
      if k = h ∧ s.headerDemand h = false then (s.header h).demandEnded (s.product h) s.elapsed else s.header k)
    ∧ u.slot = (if s.headerDemand h = false ∧ (s.header h).pump = .queued then
        { s.slot with queue := s.slot.queue.erase h } else s.slot)
    ∧ s.passOf u h
    ∧ u = { s with lanes := u.lanes, headers := u.headers, slot := u.slot }

/-- From s, in which lane i of product p has just begun to demand, to u its header has heard of it (03 R62 to R66, R72).
That a lane whose PUMP ending is not yet taken still counts as demand is log 40. -/
def State.demandShows (s u : State) (i : Fin 8) (p : Fin 6) : Prop :=
  let k := s.header p
  let first := ∀ j, j ≠ i → (s.lane j).record.product = some p → (s.lane j).state.demands = false
  let joins := first ∧ k.pump = .stopped
  let starts := joins ∧ s.slot.queue = [] ∧ s.slot.free = true
  (∀ h, h ≠ p → u.header h = s.header h)
    ∧ (starts → k.prove = true → u.header p = k.inState .running none none)
    ∧ (starts → k.prove = false → u.header p = k.inState .starting (some ⟨s.elapsed, 10⟩) none)
    ∧ (starts → u.slot = { queue := [], free := s.settings.stagger == 0, lastStart := s.elapsed })
    ∧ (joins → ¬ starts →
      u.header p = k.inState .queued none none ∧ u.slot = { s.slot with queue := s.slot.queue ++ [p] })
    ∧ (first → k.pump = .runon → u.header p = k.inState .running none none)
    ∧ (¬ joins → u.slot = s.slot ∧ (¬ (first ∧ k.pump = .runon) → u.header p = k))
    ∧ s.passOf u p
    ∧ u = { s with lanes := u.lanes, headers := u.headers, slot := u.slot }

/-- What a pump start makes of a header: STARTING with the proving timer, or, with PROVE already active, what proof makes
of it (03 R64 to R66). -/
def Header.started (p : Product) (demand : Bool) (elapsed : Nat) (k : Header) : Header :=
  if k.prove = false then k.inState .starting (some ⟨elapsed, 10⟩) none
  else if demand = true then k.inState .running none none
  else if p.runOn = 0 then k.inState .stopped none none
  else k.inState .runon none (some ⟨elapsed, p.runOn⟩)

/-- From s to u the start slot, free or not when it was tested, has started headers from the head of the queue: none while
occupied, the first alone under a stagger, all of them under none (03 R64, R72). -/
def State.headsStarted (s u : State) (free : Bool) : Prop :=
  let starts := if free = false then [] else if s.settings.stagger = 0 then s.slot.queue else s.slot.queue.take 1
  (∀ h, u.header h =
    if h ∈ starts then (s.header h).started (s.product h) (s.headerDemand h) s.elapsed else s.header h)
    ∧ u.slot = (if starts = [] then { s.slot with free := free }
        else { queue := s.slot.queue.drop starts.length, free := s.settings.stagger == 0, lastStart := s.elapsed })
    ∧ (∀ i, u.lane i = match (s.lane i).record.product with
        | some h =>
          if h ∈ starts then (s.lane i).withGrant u h (u.grantFor h (u.capacityLeft h i) (s.lane i)) else s.lane i
        | none => s.lane i)
    ∧ u = { s with headers := u.headers, slot := u.slot, lanes := u.lanes }

/-! ## What several commands do alike -/

/-- A header is in the pump start queue exactly while QUEUED, once (03 R63). -/
def State.queueLawful (s : State) : Prop :=
  s.slot.queue.Nodup ∧ ∀ h, h ∈ s.slot.queue ↔ (s.header h).pump = .queued

/-- The lane at its entry to CLOSING at elapsed second `elapsed` (01 R23), its stage the last stage run (01 R33). That a
delivery that ran none keeps its resume stage is the model's, log 37. -/
def Lane.closingOn (cause : EndCause) (elapsed : Nat) (l : Lane) : Lane :=
  { l with state := .closing, maxOpen := none, quietRun := 0, closeLimit := some ⟨elapsed, 5⟩, leaveReport := false
           stage := if l.state = .waiting ∧ l.delivery.lastRun ≠ none then l.delivery.lastRun else l.stage
           delivery := { l.delivery with endCause := some cause } }

/-- An AUTHORISED lane whose authorisation is withdrawn (01 R13, R14, R30, R31). -/
def Lane.withdrawn (l : Lane) : Lane := { l with state := .idle, stage := none, delivery := {}, authTimer := none }

/-- From s to u lane i enters CLOSING with a cause, and its header and the Shutdown Unit hear of it (01 R23). -/
def State.entersClosing (s u : State) (i : Fin 8) (cause : EndCause) : Prop :=
  ({ s with lanes := s.lanes.set i ((s.lane i).closingOn cause s.elapsed)
            shutdown := { s.shutdown with closing := s.shutdown.closing ||| oneMember i } } : State).demandLeaves u i

/-- The lanes in AUTHORISED. -/
def State.authorisedLanes (s : State) : Nat := (eightNumbers.filter fun i => (s.lane i).state == .authorised).length

/-- What shutdown entry makes of a lane: the pass that follows gives HOLD on every header (01 R31; 03 R69). -/
def Lane.shutFrom (elapsed : Nat) (l : Lane) : Lane :=
  let l := if l.record.product = none then l else { l with arbiterGrant := .hold }
  match l.state with
  | .authorised => l.withdrawn
  | .waiting | .flowing | .trimming => l.closingOn .shutdown elapsed
  | .idle | .closing | .done => l

/-- What the bay's leaving ARMED makes of a header (03 R69). -/
def Header.barred (k : Header) : Header :=
  if k.pump = .stopped ∨ k.pump = .failed then k else k.inState .stopped none none

/-- What shutdown entry makes of a receipt (04 R99). -/
def Receipt.shutAt (now : Nat) (roundRuns : Bool) (r : Receipt) : Receipt :=
  match r.state with
  | .opened =>
    { r with state := .settling, closeTime := some now, cause := some .shutdown, rounds := 0, midRound := roundRuns }
  | .settling => r

/-- A poll of tank t at its beginning (04 R81). -/
def State.polling (s : State) (t : Fin 8) : Poll :=
  { tank := t, address := (s.tank t).record.address.getD 0, sent := false, void := false, beforeClose := false }

/-- A tank joins the out-of-round queue, where it stands at most once (04 R84). -/
def queueing (queue : List (Fin 8)) (t : Fin 8) : List (Fin 8) := if t ∈ queue then queue else queue ++ [t]

/-- The gauge bus once every open inlet has been closed: the tanks join the out-of-round queue in ascending number, an
outstanding poll of one of them is a poll from before its close, and an idle bus polls the first (04 R84, R97,
R99). -/
def State.busAfterEntry (s : State) : GaugeBus :=
  let opens := eightNumbers.filter fun t => (s.tank t).inlet
  match s.bus.poll with
  | some q =>
    { s.bus with queue := opens.foldl queueing s.bus.queue
                 poll := some (if (s.tank q.tank).inlet then { q with beforeClose := true } else q) }
  | none =>
    match opens.dropWhile fun t => !(s.tank t).configured with
    | [] => s.bus
    | t :: rest => { s.bus with poll := some (s.polling t), queue := rest }

/-- From s to u shutdown entry is made: the lanes, the headers, the inlets, and SHUT at once where no lane is in
CLOSING (07 R157). An idle bus is one that holds no tank and no round (busLawful). -/
def State.entersShutdown (s u : State) : Prop :=
  (∀ i, u.lane i = (s.lane i).shutFrom s.elapsed)
    ∧ (∀ h, u.header h = (s.header h).barred)
    ∧ u.slot = { s.slot with queue := u.slot.queue } ∧ (s.queueLawful → u.slot.queue = [])
    ∧ (∀ t, u.tank t =
        { s.tank t with receipt := (s.tank t).receipt.map (Receipt.shutAt s.period.clock s.bus.round.isSome) })
    ∧ u.bus = s.busAfterEntry
    ∧ u.shutdown.closing = s.shutdown.closing ||| maskOf (fun i => (s.lane i).state.demands)
    ∧ u.shutdown.bay = (if u.shutdown.closing = 0 then .shut else .shutting)
    ∧ u.journal = { s.journal with reserved := s.journal.reserved - s.authorisedLanes }

/-- The stack once a cause is recorded on it: its kind's record takes the repeat, or a new one is pushed (07 R156). -/
def stackAfter (kind : CauseKind) (detail : Mask) (clock : Nat) (stack : List CauseRecord) : List CauseRecord :=
  if ∃ r ∈ stack, r.kind = kind then
    stack.map fun r =>
      if r.kind = kind then
        { r with repeats := min 255 (r.repeats + 1), last := clock, detail := r.detail ||| detail }
      else r
  else { kind := kind, first := clock, last := clock, repeats := 1, detail := detail } :: stack

/-- From s to u a cause is raised: the stack, the count, shutdown entry from ARMED and DISARMED alone, and the SHUTDOWN
notice (07 R156, R158). -/
def State.raises (s u : State) (kind : CauseKind) (detail : Mask) : Prop :=
  u.shutdown = { s.shutdown with
      stack := stackAfter kind detail s.period.clock s.shutdown.stack
      causes := min 65535 (s.shutdown.causes + 1), closing := u.shutdown.closing, bay := u.shutdown.bay }
    ∧ (s.shutdown.bay = .armed ∨ s.shutdown.bay = .disarmed → s.entersShutdown u)
    ∧ (s.shutdown.bay ≠ .armed → s.shutdown.bay ≠ .disarmed →
        u = { s with shutdown := { s.shutdown with stack := u.shutdown.stack, causes := u.shutdown.causes }
                     link := u.link })
    ∧ (∃ r ∈ u.shutdown.stack, r.kind = kind
        ∧ u.link = s.link.offer ⟨s.period.clock, .shutdown kind detail r.repeats
            (decide (∃ r ∈ s.shutdown.stack, r.kind = kind)) u.shutdown.stack.length u.shutdown.bay⟩)
    ∧ u = { s with lanes := u.lanes, headers := u.headers, slot := u.slot, tanks := u.tanks, bus := u.bus
                   journal := u.journal, shutdown := u.shutdown, link := u.link }

/-! ## Tanks: stock, receipts and the gauge bus -/

/-- The book of a tank moved by a volume, stopping at its limits (04 R92). -/
def Tank.booked (volume : Int) (k : Tank) : Tank :=
  { k with book := max (-140737488355327) (min 140737488355327 (k.book + volume))
           bookSaturated := k.bookSaturated
             || decide (k.book + volume < -140737488355327 ∨ 140737488355327 < k.book + volume) }

/-- The result of a receipt on a closing reading's net and counter (04 R98). -/
def Receipt.resultOn (r : Receipt) (g1 : Int) (d1 : Nat) (held : Bool) : ReceiptResult :=
  let rise := g1 - r.g0 + ((d1 : Int) - r.d0)
  { cause := r.cause, openTime := r.openTime, closeTime := r.closeTime, docket := r.docket, rise := rise
    credited := (r.docket.map Int.ofNat).getD rise, variance := r.docket.map fun v => rise - v, held := held }

/-- The tank once its receipt has completed with a result (04 R98). -/
def Tank.received (r : ReceiptResult) (k : Tank) : Tank :=
  { k.booked r.credited with
    periodReceipts := k.periodReceipts + r.credited, receipt := none, lastReceipt := some r }

/-- The tank once its reading has been used: in a LOST episode the first use is marked (04 R88). -/
def Tank.used (k : Tank) : Tank := { k with noticed := k.noticed || k.status == .lost }

/-- The notice of the use of tank t's reading: GAUGE-LOST at the first use of a LOST episode (04 R88). -/
def Tank.useNotice (t : Fin 8) (k : Tank) : List NoticeBody :=
  if k.status = .lost ∧ k.noticed = false then [.gaugeLost t ((k.held.map HeldReading.time).getD 0) k.fails] else []

/-- The receipt completes at the end of a round: it is SETTLING, closed before the round started, and this is the
second such round (04 R97). -/
def Receipt.roundsOut (r : Receipt) : Bool := r.state == .settling && !r.midRound && r.rounds != 0

/-- What the end of a round makes of a tank (04 R97). -/
def Tank.roundEnded (k : Tank) : Tank :=
  match k.receipt, k.held with
  | some r, some h =>
    if r.roundsOut then k.used.received (r.resultOn h.net h.counter true)
    else if r.state = .opened then k
    else { k with receipt := some { r with rounds := if r.midRound then r.rounds else 1, midRound := false } }
  | some r, none =>
    if r.state = .opened ∨ r.roundsOut = true then k
    else { k with receipt := some { r with rounds := if r.midRound then r.rounds else 1, midRound := false } }
  | none, _ => k

/-- The notices of a tank at the end of a round (04 R97; that GAUGE-LOST goes first is log 30). -/
def Tank.roundNotices (t : Fin 8) (k : Tank) : List NoticeBody :=
  match k.receipt, k.held with
  | some r, some h =>
    if r.roundsOut then k.useNotice t ++ [.receiptEnd t (r.resultOn h.net h.counter true)] else []
  | _, _ => []

/-- The part once a round has ended, its tanks taken in ascending number (04 R97; log 30). -/
def State.roundOver (s : State) : State :=
  { s with tanks := Vector.ofFn fun t => (s.tank t).roundEnded
           link := s.linkRaising (eightNumbers.flatMap fun t => (s.tank t).roundNotices t) }

/-- The part once its bus, with no poll outstanding and `queue` waiting, has been served: the first configured tank of
the queue is polled, those before it being dropped; else the round's next configured tank; else the round ends, and a
pending one starts (04 R83, R84, R97). That a round with no tank left ends only here, the queue empty, is log 38. -/
def State.served (queue : List (Fin 8)) (s : State) : State :=
  match queue.dropWhile (fun t => !(s.tank t).configured), s.bus.round with
  | t :: rest, _ => { s with bus := { s.bus with poll := some (s.polling t), queue := rest } }
  | [], none => { s with bus := { s.bus with poll := none, queue := [] } }
  | [], some n =>
    match eightNumbers.find? (fun t => decide (n ≤ t.val) && (s.tank t).configured),
      eightNumbers.find? (fun t => (s.tank t).configured), s.bus.roundPending with
    | some t, _, _ =>
      { s with bus := { s.bus with poll := some (s.polling t), queue := [], round := some (t.val + 1) } }
    | none, _, false => ({ s with bus := { s.bus with poll := none, queue := [], round := none } } : State).roundOver
    | none, some t, true =>
      ({ s with bus := { s.bus with
          poll := some (s.polling t), queue := [], round := some (t.val + 1), roundPending := false } }
        : State).roundOver
    | none, none, true =>
      ({ s with bus := { s.bus with poll := none, queue := [], round := none, roundPending := false } }
        : State).roundOver.roundOver

/-- The part once a round has fallen due: it waits for the running round, else begins, ending at its start with no
configured tank; an idle bus is then served (04 R83, R84). -/
def State.roundMadeDue (s : State) : State :=
  let due : State :=
    if s.bus.round ≠ none then { s with bus := { s.bus with lastDue := s.elapsed, roundPending := true } }
    else if ∃ t, (s.tank t).configured = true then
      { s with bus := { s.bus with lastDue := s.elapsed, round := some 0 } }
    else ({ s with bus := { s.bus with lastDue := s.elapsed, round := none } } : State).roundOver
  if s.bus.poll = none then due.served s.bus.queue else due

/-- The tank in the band of its estimate (04 R91). -/
def Tank.banded (k : Tank) : Tank :=
  { k with
    band := match k.estimate with
      | none => .noBand
      | some e =>
        if e ≤ k.record.cutOff then .cutOff
        else if e ≤ k.record.cutOff + k.record.lowBand then .lowBand
        else .normal }

/-- From s to u tank t's estimate has been put into the band it has in u, from band `old`: the lanes it feeds are sent
TANK-LOW at a fall to cut-off, and a pass is made where the low band is entered or left (04 R91). -/
def State.lanesBanded (s u : State) (t : Fin 8) (old : Band) : Prop :=
  let crossing := (u.tank t).band = .cutOff ∧ old ≠ .cutOff
  let flips := ¬ ((u.tank t).band = .lowBand ↔ old = .lowBand)
  let marked : State :=
    { s with lanes := Vector.ofFn fun i =>
        if crossing ∧ (s.lane i).state.demands = true ∧ s.laneTank i = some t then
          { s.lane i with tankLowEnding := true }
        else s.lane i }
  (∀ p, flips → s.feedTank p = some t → marked.passOf u p)
    ∧ (¬ flips ∨ (∀ p, s.feedTank p ≠ some t) → u.lanes = marked.lanes)

/-- The TANK-LOW notice of a fall of tank t to cut-off from band `old` (04 R91). -/
def Tank.lowNotice (t : Fin 8) (old : Band) (k : Tank) : List NoticeBody :=
  if k.band = .cutOff ∧ old ≠ .cutOff then [.tankLow t k.record.product (k.estimate.getD 0)] else []

/-- The part once a good reply's level is compared with tank t's high-high level (04 R100): an overfill stop of an OPEN
receipt, a notice at the first high reading, or the indicator and the watch cleared below it. -/
def State.levelCompared (t : Fin 8) (level : Nat) (s : State) : State :=
  let k := s.tank t
  let noted : Tank := { k with highHigh := true, overfillStop := true }
  let link := s.linkRaising [.overfillStop t level]
  if level < k.record.highHigh then { s with tanks := s.tanks.set t { k with highHigh := false, watch := none } }
  else if k.inlet = true then
    { s with
      tanks := s.tanks.set t
        { noted with
          watch := some level
          receipt := k.receipt.map fun r =>
            { r with state := .settling, closeTime := some s.period.clock, cause := some .overfillStop, rounds := 0
                     midRound := s.bus.round.isSome } }
      bus := { s.bus with
        queue := queueing s.bus.queue t
        poll := s.bus.poll.map fun q => if q.tank = t then { q with beforeClose := true } else q }
      link := link }
  else if k.highHigh = true then s
  else { s with tanks := s.tanks.set t noted, link := link }

/-! ## The journal and its burst -/

/-- The number has been issued (06 R130): 1 to L, or, once the numbers have wrapped, one of the 2,147,483,647 numbers
that end at L. -/
def Journal.wasIssued (j : Journal) (n : Nat) : Prop :=
  1 ≤ n ∧ n ≤ 4294967295
    ∧ (j.wrapped = false → n ≤ j.lastSeq)
    ∧ (j.wrapped = true →
      n ≤ j.lastSeq ∧ j.lastSeq - n < 2147483647 ∨ j.lastSeq < n ∧ j.lastSeq + 4294967295 - n < 2147483647)

/-- A running burst that nothing has ended yet, ended by a received request: STOPPED for a JOURNAL-STOP, INTERRUPTED for
any other (06 R139). -/
def Burst.endedBy (stop : Bool) (b : Burst) : Burst :=
  if b.started = true ∧ b.ending = none then { b with ending := some (if stop then .stopped else .interrupted) } else b

/-- JOURNAL-END's figures (06 R141). -/
def State.journalEnd (s : State) (b : Burst) (reason : EndReason) : TxMessage :=
  .journalEnd
    { reason := reason, sent := b.sent, last := b.last, held := s.journal.records.length
      tail := (s.journal.records.head?.map JournalRecord.seq).getD 0
      head := (s.journal.records.getLast?.map JournalRecord.seq).getD 0, reserved := s.journal.reserved
      free := 2048 - s.journal.records.length - s.journal.reserved }

/-! ## The period close (08 R176) -/

/-- What a period close makes of a tank: the closing value opens the new period (08 R176; 04 R104). -/
def Tank.afterClose (k : Tank) : Tank :=
  { k with noticed := k.noticed || (k.configured && k.status == .lost), opening := k.estimate, periodDispensed := 0
           periodReceipts := 0, lostDuring := false, overfillStop := false, leak := false, openedLate := false }

/-- The VARIANCE notice of tank t where it is in alarm: its class is at or above its alarm class (08 R179). -/
def State.varianceNotices (s : State) (t : Fin 8) : List NoticeBody :=
  let r := (s.tank t).report
  match r.variance, r.ppm, r.cls with
  | some v, some ppm, some c =>
    if r.alarmClass.code ≤ c.code then [.variance s.period.number t r.product v ppm c r.flags] else []
  | _, _, _ => []

/-- The tanks in alarm. -/
def State.alarmCount (s : State) : Nat := (eightNumbers.flatMap s.varianceNotices).length

/-- The kind of a period opened otherwise than at a boundary (08 R174). -/
def State.kindNow (s : State) : PeriodKind :=
  match s.period.clockSet, s.settings.boundaries with
  | true, some (b1, b2) => if b1 ≤ s.period.clock % 86400 / 60 ∧ s.period.clock % 86400 / 60 < b2 then .day else .night
  | _, _ => .manual

/-- The part once its period is closed for a reason and one of a kind opened (08 R174, R176, R179, R182). -/
def State.closedPeriod (reason : CloseReason) (kind : PeriodKind) (s : State) : State :=
  { s with
    lanes := Vector.ofFn fun i => { s.lane i with totals := {} }
    tanks := Vector.ofFn fun t => (s.tank t).afterClose
    shutdown := { s.shutdown with causes := 0, laneStops := 0, lockoutFlag := s.shutdown.bay == .lockout }
    period :=
      { clock := s.period.clock, clockSet := s.period.clockSet
        next := if s.period.clockSet then s.settings.boundaries.map (fun b => boundaryAfter s.period.clock b.1 b.2)
                else none
        boundaryDue := s.period.boundaryDue, number := (s.period.number + 1) % 4294967296, kind := kind
        startTime := s.period.clock, adjusted := !s.period.clockSet
        report := some
          { header :=
              { number := s.period.number, kind := s.period.kind, reason := reason, startTime := s.period.startTime
                endTime := s.period.clock
                clockState := if s.period.clockSet = false then .unset else if s.period.adjusted then .adjusted
                  else .set
                alarms := s.alarmCount }
            tanks := Vector.ofFn fun t => (s.tank t).report
            lanes := Vector.ofFn fun i => ⟨(s.lane i).record.product, (s.lane i).totals⟩
            causes := s.shutdown.causes, laneStops := s.shutdown.laneStops, lockoutFlag := s.shutdown.lockoutFlag } }
    link := s.linkRaising
      ((eightNumbers.flatMap fun t => if (s.tank t).configured then (s.tank t).useNotice t else [])
        ++ eightNumbers.flatMap s.varianceNotices ++ [.reportReady s.period.number s.period.kind s.alarmCount]) }

/-! ## The commit of a delivery (01 R24; 05 R116 to R120; 06 R133; 08 R180) -/

/-- The credit of a delivery's net to its machine, by the formulas of 05 R116 to R120: the record, the burn, the average
a BURN-HIGH was found against, and whether a service was taken. A lane out of IDLE has a product; where it has none the
credit is nothing (log 9). -/
def State.credited (s : State) (i : Fin 8) : Credit :=
  let d := (s.lane i).delivery
  let r := (s.machine d.machine).roll s.period.number
  match (s.lane i).record.product with
  | none => ⟨s.machine d.machine, none, none, false⟩
  | some p =>
    let fuel := (s.product p).kind = .fuel
    let since := min 4294967295 (r.fuelSinceBurn + d.net)
    let burns := fuel ∧ 0 < d.net ∧ 10 ≤ r.hoursSinceBurn
    let burn := min 65535 (since / r.hoursSinceBurn)
    let reset := d.service = true ∧ (s.product p).service = true ∧ 0 < d.net
    { record :=
        { r with
          periodNet := r.periodNet.set p (min 4294967295 (r.periodNet[p] + d.net))
          lifetime := if fuel then min 281474976710655 (r.lifetime + d.net) else r.lifetime
          fuelSinceBurn := if burns then 0 else if fuel then since else r.fuelSinceBurn
          hoursSinceBurn := if burns then 0 else r.hoursSinceBurn
          burnAverage := if burns then
              if r.burnAverage = 0 then burn
              else ((r.burnAverage : Int) + ((burn : Int) - r.burnAverage).tdiv 4).toNat
            else r.burnAverage
          hoursSinceService := if reset then 0 else r.hoursSinceService
          overdue := if reset then false else r.overdue }
      burn := if burns then some burn else none
      highFrom := if burns ∧ r.burnAverage ≠ 0 ∧ r.burnAverage * (100 + s.settings.burnBand) < burn * 100 then
          some r.burnAverage else none
      serviceReset := decide reset }

/-- The temperature the gauge of the lane's feed tank gives: its held one, or 15.0 degrees (02 R49). -/
def State.temperatureOf (s : State) (i : Fin 8) : Int :=
  ((s.laneTank i).bind fun t => (s.tank t).held.map HeldReading.temperature).getD 150

/-- The record of lane i's delivery, committed now with an end cause (06 R134). -/
def State.recordOf (s : State) (i : Fin 8) (cause : EndCause) (valveHeld : Bool) : JournalRecord :=
  let d := (s.lane i).delivery
  let c := s.credited i
  let ahead := ((s.lane i).record.product.map fun p => (s.product p).closeAhead).getD 0
  { seq := nextSeq s.journal.lastSeq, lane := i, product := (s.lane i).record.product, tank := s.laneTank i
    machine := d.machine, operator := d.operator, authTime := d.authTime, firstFlow := d.firstFlow
    endTime := s.period.clock, cause := cause, preset := d.preset, gross := d.gross, net := d.net, peak := d.peak
    endTemp := d.lastT10.getD (max (-400) (min 600 (s.temperatureOf i))), hourReading := d.hourReading
    accrued := d.accrued, burn := c.burn, period := s.period.number
    flags :=
      { d.flags with
        short := d.flags.short || decide (cause ≠ .preset ∧ d.gross + ahead < d.preset)
        valveHeld := d.flags.valveHeld || valveHeld
        burnHigh := d.flags.burnHigh || c.highFrom.isSome
        serviceReset := d.flags.serviceReset || c.serviceReset } }

/-- The lane totals once a commit is counted by its end cause (08 R180). -/
def LaneTotals.counting (cause : EndCause) (t : LaneTotals) : LaneTotals :=
  { t with deliveries := min 65535 (t.deliveries + 1)
           preset := if cause = .preset then min 65535 (t.preset + 1) else t.preset
           hangup := if cause = .hangup then min 65535 (t.hangup + 1) else t.hangup
           other := if cause ≠ .preset ∧ cause ≠ .hangup then min 65535 (t.other + 1) else t.other }

/-- The part once lane i's delivery is committed: the credit, the record at the head of the journal, the lane's count,
the notices, and DONE or IDLE by the nozzle (01 R24, R25). -/
def State.committed (i : Fin 8) (cause : EndCause) (valveHeld nozzleOut : Bool) (s : State) : State :=
  let l := s.lane i
  let c := s.credited i
  let r := s.recordOf i cause valveHeld
  { s with
    journal :=
      { records := s.journal.records ++ [r], lastSeq := r.seq
        wrapped := s.journal.wrapped || s.journal.lastSeq == 4294967295, reserved := s.journal.reserved - 1 }
    machines := s.machines.set l.delivery.machine c.record
    lanes := s.lanes.set i
      { l with
        state := if nozzleOut then .done else .idle
        stage := none, closeLimit := none, grossResidue := 0, netResidue := 0, pumpEnding := false
        tankLowEnding := false, totals := l.totals.counting cause
        authTimer := if nozzleOut then l.authTimer else none
        delivery := if nozzleOut then { l.delivery with endCause := some cause, flags := r.flags, seq := some r.seq }
          else {} }
    link := s.linkRaising
      ((match c.highFrom with
        | some average => [.burnHigh l.delivery.machine i (c.burn.getD 0) average]
        | none => [])
        ++ [.deliveryEnd i r.seq cause r.gross r.net]) }

/-! ## A start with the retained state (10 R205, R206) -/

/-- What a warm start leaves of a lane before its delivery is recovered: what is retained, and every volatile item at
rest (01 R32; 02 R34, R37, R45, R54). -/
def Lane.rested (l : Lane) : Lane :=
  { record := l.record, state := l.state, stage := l.stage, delivery := l.delivery, curve := l.curve
    totals := l.totals, nozzleOut := true, authTimer := none, maxOpen := none, closeLimit := none
    creepTimer := if l.record.product = none then none else some ⟨0, 60⟩, creepCount := 0, rates := []
    noFlowRun := 0, quietRun := 0, hoseCount := 0, grant := .hold, arbiterGrant := .hold, pulses := 0
    grossResidue := 0, netResidue := 0, staging := Vector.replicate 16 none, pumpEnding := false
    tankLowEnding := false, valveReports := 0, creepReports := 0, leaveReport := false }

/-- What a warm start makes of a tank: its gauge is UNPOLLED, and a receipt settles afresh (04 R79, R86, R99). -/
def Tank.rested (clock : Nat) (k : Tank) : Tank :=
  { k with staging := Vector.replicate 32 none, status := .unpolled, fails := 0, noticed := false
           receipt := k.receipt.map fun r =>
             if r.state = .opened then
               { r with state := .settling, closeTime := some clock, cause := some .power, rounds := 0
                        midRound := false }
             else { r with rounds := 0, midRound := false } }

/-- The part at a warm start or key reset, before the work in progress is closed out (10 R205). -/
def State.rested (pins : StartPins) (s : State) : State :=
  { s with
    power := .running, startKind := if pins.keyLow then .key else .warm, elapsed := 0, pattern := none, burst := none
    lanes := Vector.ofFn fun i => (s.lane i).rested
    headers := Vector.replicate 6 { pump := .stopped, proving := none, runOn := none, prove := false }
    slot := { queue := [], free := s.settings.stagger == 0, lastStart := 0 }
    tanks := Vector.ofFn fun t => (s.tank t).rested s.period.clock
    bus :=
      { poll := none, queue := eightNumbers.filter fun t => (s.tank t).receipt.isSome, round := some 0
        roundPending := false, lastDue := 0 }
    shutdown := { s.shutdown with
      bay := match s.shutdown.bay with
        | .disarmed | .armed => .disarmed
        | .shutting | .shut => .shut
        | .lockout => .lockout
      sumps := 0, press := .noPress, keySeenHigh := false, closing := 0 }
    period := { s.period with boundaryDue := none }
    settings := { s.settings with maskLevel := 0 }
    link :=
      { assembler := .hunt, hold := [], reply := none, line := none, notices := [], overflow := false
        displaced := false, retentionLost := false, baudHigh := pins.baudHigh } }

/-- Lane i's recovery: an authorisation is withdrawn, a delivery that was open or closing is committed with POWER
(01 R32; 10 R206). -/
def State.laneRecovered (pins : StartPins) (i : Fin 8) (s : State) : State :=
  match (s.lane i).state with
  | .idle | .done => s
  | .authorised =>
    { s with lanes := s.lanes.set i (s.lane i).withdrawn
             journal := { s.journal with reserved := s.journal.reserved - 1 } }
  | .waiting | .flowing | .trimming | .closing => s.committed i .power false (pins.nozzleOut.getLsbD i.val)

/-- The lanes' recovery in ascending number (06 R133). -/
def State.lanesRecovered (pins : StartPins) (s : State) : State :=
  eightNumbers.foldl (fun t i => t.laneRecovered pins i) s

/-- The late close of a period whose boundary passed while the part did not run (08 R184). -/
def State.closedLate (s : State) : State :=
  if s.period.next.any NextBoundary.reached then s.closedPeriod .late s.kindNow else s

/-- The request a request row carries, with its TAG. -/
def asRequest : Instr → Option (Byte × Request)
  | .productSet tag f => some (tag, .productSet f)
  | .laneSet tag f => some (tag, .laneSet f)
  | .tankSet tag f => some (tag, .tankSet f)
  | .tablePoint tag f => some (tag, .tablePoint f)
  | .tableCommit tag f => some (tag, .tableCommit f)
  | .curvePoint tag f => some (tag, .curvePoint f)
  | .curveCommit tag f => some (tag, .curveCommit f)
  | .baySet tag f => some (tag, .baySet f)
  | .timeSet tag n => some (tag, .timeSet n)
  | .authorise tag f => some (tag, .authorise f)
  | .cancel tag n => some (tag, .cancel n)
  | .laneQuery tag n => some (tag, .laneQuery n)
  | .tankQuery tag n => some (tag, .tankQuery n)
  | .gaugeNow tag n => some (tag, .gaugeNow n)
  | .receiptOpen tag f => some (tag, .receiptOpen f)
  | .receiptClose tag n => some (tag, .receiptClose n)
  | .bookSet tag f => some (tag, .bookSet f)
  | .machineRead tag n => some (tag, .machineRead n)
  | .machineWrite tag f => some (tag, .machineWrite f)
  | .patternLoad tag f => some (tag, .patternLoad f)
  | .groupApply tag f => some (tag, .groupApply f)
  | .journalRead tag f => some (tag, .journalRead f)
  | .journalStop tag => some (tag, .journalStop)
  | .journalAck tag n => some (tag, .journalAck n)
  | .bayArm tag => some (tag, .bayArm)
  | .bayDisarm tag => some (tag, .bayDisarm)
  | .bayShutdown tag => some (tag, .bayShutdown)
  | .bayClear tag n => some (tag, .bayClear n)
  | .pumpReset tag n => some (tag, .pumpReset n)
  | .status tag n => some (tag, .status n)
  | .reportNow tag => some (tag, .reportNow)
  | .reportRead tag f => some (tag, .reportRead f)
  | _ => none

/-- The body each request KIND requires (09 R191, R196): the widths of its fields in order, a presence byte being one of
them, and the offsets of its presence bytes. None for a KIND that is not in the table. -/
def requestShape : Nat → Option (List Nat × List Nat)
  | 0x01 => some ([1, 1, 2, 2, 2, 4, 4, 4, 4, 1, 1, 2, 1, 1, 2, 1], [])
  | 0x02 => some ([1, 1, 2, 1, 2, 1], [])
  | 0x03 => some ([1, 1, 1, 4, 4, 2, 4, 1], [])
  | 0x04 => some ([1, 1, 2, 4], [])
  | 0x05 => some ([1, 1], [])
  | 0x06 => some ([1, 1, 2, 4], [])
  | 0x07 => some ([1, 1], [])
  | 0x08 => some ([1, 2, 1, 2, 2, 1, 1], [])
  | 0x09 => some ([4], [])
  | 0x10 => some ([1, 2, 4, 1, 4, 1, 2], [7])
  | 0x11 => some ([1], [])
  | 0x12 => some ([1], [])
  | 0x18 => some ([1], [])
  | 0x19 => some ([1], [])
  | 0x1A => some ([1, 1, 4], [1])
  | 0x1B => some ([1], [])
  | 0x1C => some ([1, 6], [])
  | 0x20 => some ([2], [])
  | 0x21 => some ([2, 1, 1, 1, 4, 4, 4, 1, 4, 2], [17])
  | 0x22 => some ([1, 1, 1, 4, 4, 4, 1, 4, 2], [15])
  | 0x23 => some ([2, 1], [])
  | 0x28 => some ([4, 1, 1], [])
  | 0x29 => some ([], [])
  | 0x2A => some ([4], [])
  | 0x30 => some ([], [])
  | 0x31 => some ([], [])
  | 0x32 => some ([], [])
  | 0x33 => some ([1], [])
  | 0x34 => some ([1], [])
  | 0x35 => some ([1], [])
  | 0x36 => some ([], [])
  | 0x37 => some ([1, 1], [])
  | _ => none

/-- A request body with the 4 bytes of every absent field at 0, as an absent field is sent (09 R191). -/
def absentZeroed (presence : List Nat) (body : List Byte) : List Byte :=
  presence.foldl (fun b p => if b.getD p 0 = 0 then b.take (p + 1) ++ [0, 0, 0, 0] ++ b.drop (p + 5) else b) body

/-- The tank is not busy: no receipt in its slot, and every lane of a product it feeds is IDLE (04 R78). -/
def State.tankFree (s : State) (t : Fin 8) : Prop :=
  (s.tank t).receipt = none
    ∧ ∀ p, s.feedTank p = some t → ∀ i, (s.lane i).record.product = some p → (s.lane i).state = .idle

/-! ## The laws -/

/-- The hold holds at most 2 frames and the notice queue at most 32 notices (09 R188, R194). -/
def State.linkBounded (s : State) : Prop := s.link.hold.length ≤ 2 ∧ s.link.notices.length ≤ 32

/-- The bay is ARMED or DISARMED. -/
def BayState.unlatched : BayState → Bool
  | .disarmed | .armed => true
  | .shutting | .shut | .lockout => false

/-- The stack is empty exactly when the bay is ARMED or DISARMED, and holds at most one record per kind (07 R155). -/
def Shutdown.lawful (u : Shutdown) : Prop :=
  (u.stack = [] ↔ u.bay.unlatched = true) ∧ (u.stack.map CauseRecord.kind).Nodup

/-- The lane is in AUTHORISED, WAITING, FLOWING or TRIMMING. -/
def LaneState.inHand : LaneState → Bool
  | .authorised | .waiting | .flowing | .trimming => true
  | .idle | .closing | .done => false

/-- While the bay is not ARMED no lane is in AUTHORISED, WAITING, FLOWING or TRIMMING (01 R6). -/
def State.lanesObeyBay (s : State) : Prop := s.shutdown.bay ≠ .armed → ∀ i, (s.lane i).state.inHand = false

/-- The number of lanes in AUTHORISED through CLOSING. -/
def State.reservingLanes (s : State) : Nat := (eightNumbers.filter fun i => (s.lane i).state.holdsReservation).length

/-- The reservation count equals the lanes in AUTHORISED through CLOSING, and held plus reserved never exceeds 2,048
(06 R131). -/
def State.journalBalanced (s : State) : Prop :=
  s.journal.reserved = s.reservingLanes ∧ s.journal.held + s.journal.reserved ≤ 2048

/-- Numbers that follow one another in the order of assignment. -/
def consecutive : List Nat → Prop
  | [] => True
  | [_] => True
  | a :: b :: rest => b = nextSeq a ∧ consecutive (b :: rest)

/-- The held records carry consecutive numbers up to the last one assigned (06 R129, R130). -/
def Journal.numbered (j : Journal) : Prop :=
  consecutive (j.records.map JournalRecord.seq) ∧ ∀ r, j.records.getLast? = some r → r.seq = j.lastSeq

/-- No Arbiter's grant is other than HOLD unless the lane demands and its pump is RUNNING (03 R70). -/
def State.grantsLawful (s : State) : Prop :=
  ∀ i, (s.lane i).arbiterGrant ≠ .hold →
    (s.lane i).state.demands = true ∧
      ∃ h, (s.lane i).record.product = some h ∧ (s.header h).pump = .running

/-- The rates of the Arbiter's grants on each header sum to no more than its pump's capacity (03 R71). -/
def State.capacityKept (s : State) : Prop := ∀ h, s.grantedRate h ≤ (s.product h).pumpCapacity

/-- While the bay is not ARMED no pump is driven, started or queued, and no inlet is open (03 R69; 04 R99; 07 R147). -/
def State.unitsObeyBay (s : State) : Prop :=
  s.shutdown.bay ≠ .armed →
    (∀ h, (s.header h).pump = .stopped ∨ (s.header h).pump = .failed) ∧ ∀ t, (s.tank t).inlet = false

/-- The bay's law: the stack, the lanes, the pumps, the inlets and the pump start queue (01 R6; 03 R63; 07 R147,
R155). -/
def State.bayLaw (s : State) : Prop :=
  s.shutdown.lawful ∧ s.lanesObeyBay ∧ s.unitsObeyBay ∧ s.queueLawful

/-- While the part runs, a round is pending only while another runs, and a bus without an outstanding poll has no round
running and no tank queued (04 R83, R84). -/
def State.busLawful (s : State) : Prop :=
  s.power = .running →
    (s.bus.roundPending = true → s.bus.round ≠ none) ∧ (s.bus.poll = none → s.bus.round = none ∧ s.bus.queue = [])

/-- A tank's dispensed counter is the counter stored with its held reading plus its since-poll dispensed (04 R90). -/
def State.sincePollLawful (s : State) : Prop :=
  ∀ t h, (s.tank t).held = some h → (s.tank t).dispensed = h.counter + (s.tank t).sincePoll

/-- The bounds and the figures the tanks' law relates. -/
def State.figuresLawful (s : State) : Prop := s.linkBounded ∧ s.busLawful ∧ s.sincePollLawful

/-! ## The bytes on the lines (06 R135; 09 R185, R186, R190, R193) -/

/-- The bits of some bytes, each byte most significant bit first. -/
def bitsOf (bytes : List Byte) : List Bool :=
  bytes.flatMap fun b => [b.getLsbD 7, b.getLsbD 6, b.getLsbD 5, b.getLsbD 4, b.getLsbD 3, b.getLsbD 2, b.getLsbD 1,
    b.getLsbD 0]

/-- The CRC of some bytes, bit by bit (09 R186): the register starts at 0xFFFF and shifts left at each bit, taking in
x^12 + x^5 + 1 where the bit shifted out differs from the bit taken. -/
def crcOf (bytes : List Byte) : BitVec 16 :=
  (bitsOf bytes).foldl (fun r b => if r.msb = b then r <<< 1 else (r <<< 1) ^^^ 0x1021#16) 0xFFFF#16

/-- A frame whole (09 R185): sync, LEN, KIND, TAG, BODY, and the CRC high byte first. -/
def wholeFrame (kind tag : Byte) (body : List Byte) : List Byte :=
  let covered := BitVec.ofNat 8 (body.length + 2) :: kind :: tag :: body
  0xA5 :: covered ++ [(crcOf covered >>> 8).setWidth 8, (crcOf covered).setWidth 8]

/-- The code of each status (09 R190). -/
def statusCode : Status → Byte
  | .accepted => 0x00
  | .malformed => 0x01
  | .unknownKind => 0x02
  | .range => 0x03
  | .bayState => 0x04
  | .laneBusy => 0x05
  | .notConfigured => 0x06
  | .headerBusy => 0x07
  | .headerFailed => 0x08
  | .tankBusy => 0x09
  | .machineVacant => 0x0A
  | .machineBarred => 0x0B
  | .notPermitted => 0x0C
  | .engaged => 0x0D
  | .journalFull => 0x0E
  | .gaugeLost => 0x0F
  | .gaugeUnpolled => 0x10
  | .tankLow => 0x11
  | .tableInvalid => 0x12
  | .receiptOpen => 0x13
  | .noReceipt => 0x14
  | .wrongRecord => 0x15
  | .conditionPresent => 0x16
  | .busy => 0x17
  | .noneHeld => 0x18
  | .noPattern => 0x19

/-- The KIND of each notice (09 R193). -/
def noticeKind : NoticeBody → Byte
  | .shutdown .. => 0x90
  | .lockout .. => 0x91
  | .pumpFail .. => 0x92
  | .gaugeLost .. => 0x93
  | .overfillStop .. => 0x94
  | .retentionLost => 0x95
  | .tankLow .. => 0x96
  | .variance .. => 0x97
  | .burnHigh .. => 0x98
  | .deliveryEnd .. => 0x99
  | .receiptEnd .. => 0x9A
  | .reportReady .. => 0x9B
  | .serviceOverdue .. => 0x9C
  | .laneStop .. => 0x9D
  | .laneFlow .. => 0x9E
  | .authExpired .. => 0x9F

/-- The code of each end cause in a journal record (06 R135). -/
def endCauseCode : EndCause → Nat
  | .preset => 1
  | .hangup => 2
  | .cancel => 3
  | .time => 4
  | .laneStop => 5
  | .shutdown => 6
  | .noflow => 7
  | .tankLow => 8
  | .pump => 9
  | .power => 10

/-- 63 bytes carry a journal record in the layout of 06 R135. A number stands modulo its field's width, and a product or
tank that is none as 255 (09 R191). -/
def JournalRecord.laidOut (b : List Byte) (r : JournalRecord) : Prop :=
  b.length = 63 ∧ numAt b 0 4 = r.seq % 4294967296 ∧ numAt b 4 1 = r.lane.val ∧ numAt b 5 1 = indexCode r.product
    ∧ numAt b 6 1 = indexCode r.tank ∧ numAt b 7 1 = endCauseCode r.cause ∧ numAt b 8 2 = r.machine.val
    ∧ numAt b 10 2 = r.operator % 65536 ∧ numAt b 12 4 = r.authTime % 4294967296
    ∧ numAt b 16 4 = r.firstFlow.getD 0 % 4294967296 ∧ numAt b 20 4 = r.endTime % 4294967296
    ∧ numAt b 24 4 = r.preset % 4294967296 ∧ numAt b 28 6 = r.gross % 281474976710656
    ∧ numAt b 34 6 = r.net % 281474976710656 ∧ numAt b 40 4 = r.peak % 4294967296
    ∧ (-32768 ≤ r.endTemp → r.endTemp ≤ 32767 → intAt b 44 2 = r.endTemp)
    ∧ numAt b 46 4 = r.hourReading.getD 0 % 4294967296 ∧ numAt b 50 4 = r.accrued % 4294967296
    ∧ numAt b 54 2 = r.burn.getD 0 % 65536 ∧ numAt b 56 4 = r.period % 4294967296
    ∧ (let flags := BitVec.ofNat 16 (numAt b 60 2)
      flags.getLsbD 0 = r.flags.short ∧ flags.getLsbD 1 = r.flags.clamped ∧ flags.getLsbD 2 = r.flags.hoursBackward
        ∧ flags.getLsbD 3 = r.flags.hoursJump ∧ flags.getLsbD 4 = r.flags.tempHeld
        ∧ flags.getLsbD 5 = r.flags.tempClamped ∧ flags.getLsbD 6 = r.flags.rateCapped
        ∧ flags.getLsbD 7 = r.flags.saturated ∧ flags.getLsbD 8 = r.flags.valveHeld
        ∧ flags.getLsbD 9 = r.flags.burnHigh ∧ flags.getLsbD 10 = r.flags.serviceReset ∧ flags < 0x800)
    ∧ (let present := BitVec.ofNat 8 (numAt b 62 1)
      present.getLsbD 0 = r.firstFlow.isSome ∧ present.getLsbD 1 = r.hourReading.isSome
        ∧ present.getLsbD 2 = r.burn.isSome ∧ present < 8)

end Sys2Proof.Machine
end

