-- ==== Sys2Proof/Certificates/Slice0/Obligations.lean ====
section
/-! DEFINITION. The statements for the provers. Each is listed in OBLIGATIONS.json with what it says in words. -/
section
open Sys2Proof Sys2Proof.Machine

/-! ## The step and the commands as a whole -/

/-- A step takes the front command (95). That an empty queue idles is the model's choice, log 3. -/
def Obligations.StepRunsFrontCommand : Prop :=
  (∀ (c : Instr) (rest : List Instr) (s : State), step (s.setPending (c :: rest)) = exec c (s.setPending rest))
    ∧ ∀ s : State, s.pending = [] → step s = .next s

/-- 09 R190, 10 R200. What a row does where the manual's event cannot happen is the model's, logs 1, 5, 8 and 9. -/
def Obligations.EveryCommandAnswersNext : Prop :=
  ∀ (c : Instr) (s : State), ∃ t, exec c s = .next t ∧ t.pending = s.pending

/-- 10 R202 to R204 with each block's defaults. The start's operand and the notice already on the line are the
model's, logs 6 and 7. -/
def Obligations.ColdStartValues : Prop :=
  ∀ (pins : StartPins) (s : State),
    (s.marker = true → exec (.coldStart pins) s = exec (.warmStart pins) s)
    ∧ (s.marker = false →
      exec (.coldStart pins) s = .next
        { pending := s.pending, power := .running, marker := true, startKind := .cold, elapsed := 0
          freeCount := s.freeCount
          lanes := Vector.replicate 8
            { record := { product := none, kFactor := 1000, curve := .template 0, spanTrim := 0, window := 8 }
              state := .idle, stage := none
              delivery :=
                { machine := 0, operator := 0, preset := 0, authTime := 0, firstFlow := none, gross := 0, net := 0
                  peak := 0, hourReading := none, accrued := 0, service := false, endCause := none
                  flags :=
                    { short := false, clamped := false, hoursBackward := false, hoursJump := false
                      tempHeld := false, tempClamped := false, rateCapped := false, saturated := false
                      valveHeld := false, burnHigh := false, serviceReset := false }
                  flowNotified := false, rate := 0, lastT10 := none, seq := none }
              curve := none
              totals := { gross := 0, net := 0, peak := 0, deliveries := 0, preset := 0, hangup := 0, other := 0 }
              nozzleOut := true, authTimer := none, maxOpen := none, closeLimit := none, creepTimer := none
              creepCount := 0, rates := [], noFlowRun := 0, quietRun := 0, hoseCount := 0, grant := .hold
              arbiterGrant := .hold, pulses := 0, grossResidue := 0, netResidue := 0
              staging := Vector.replicate 16 none, pumpEnding := false, tankLowEnding := false, valveReports := 0
              creepReports := 0, leaveReport := false }
          products := Vector.replicate 6
            { kind := .fuel, alpha := 0, fullRate := 1000, slowRate := 200, primeVolume := 0, trimVolume := 0
              closeAhead := 0, maxFill := 100000, maxOpen := 30, noFlow := 15, creepVolume := 200, service := false
              feedTank := none, pumpCapacity := 1000, runOn := 30 }
          headers := Vector.replicate 6 { pump := .stopped, proving := none, runOn := none, prove := false }
          slot := { queue := [], free := false, lastStart := 0 }
          tanks := Vector.replicate 8
            { record :=
                { product := none, address := none, cutOff := 0, lowBand := 0, highHigh := 40000
                  leakThreshold := 0, alarmClass := .v3 }
              table := none, staging := Vector.replicate 32 none, status := .unpolled, fails := 0, noticed := false
              held := none, dispensed := 0, sincePoll := 0, band := .noBand, book := 0, bookSaturated := false
              receipt := none, lastReceipt := none, highHigh := false, watch := none, opening := none
              periodDispensed := 0, periodReceipts := 0, lostDuring := false, overfillStop := false, leak := false
              openedLate := false }
          bus := { poll := none, queue := [], round := none, roundPending := false, lastDue := 0 }
          machines := Vector.replicate 512
            { status := .vacant, permitted := 0, fuelCapacity := 0, lastReading := none, readingTime := 0
              timed := false, hoursSinceBurn := 0, fuelSinceBurn := 0, burnAverage := 0, serviceInterval := 0
              hoursSinceService := 0, overdue := false, recordPeriod := 0, periodHours := 0
              periodNet := Vector.replicate 6 0, lastHours := 0, lastNet := Vector.replicate 6 0, lifetime := 0 }
          pattern := none
          journal := { records := [], lastSeq := 0, wrapped := false, reserved := 0 }
          burst := none
          shutdown :=
            { bay := .disarmed, stack := [], lockout := none, causes := 0, laneStops := 0, lockoutFlag := false
              sumps := 0, press := .noPress, keySeenHigh := false, closing := 0 }
          period :=
            { clock := 0, clockSet := false, next := none, boundaryDue := none, number := 0, kind := .manual
              startTime := 0, adjusted := true, report := none }
          settings :=
            { stagger := 3, authTimeout := 120, burnBand := 40, boundaries := none, maskLevel := 0
              roundPeriod := 10 }
          link :=
            { assembler := .hunt, hold := [], reply := none, line := some (.notice ⟨0, .retentionLost⟩)
              notices := [], overflow := false, displaced := false, retentionLost := true
              baudHigh := pins.baudHigh } })

/-- The laws at State.reset. That reset is the state after a cold start is the model's, log 6. -/
def Obligations.LawsHoldAtReset : Prop :=
  State.reset.bayLaw ∧ State.reset.journalBalanced ∧ State.reset.journal.numbered ∧ State.reset.grantsLawful
    ∧ State.reset.capacityKept ∧ State.reset.figuresLawful ∧ State.reset.power = .running
    ∧ State.reset.pending = []

/-! ## What every request has in common -/

/-- 09 R190, R192, R194; the mark is 04 R88. That a request row is the arrival of its frame, and the arbiter's one
choice at the end of the event, are the model's, logs 2 and 10. -/
def Obligations.RefusedRequestChangesNothing : Prop :=
  ∀ (c : Instr) (tag : Byte) (r : Request) (s : State), asRequest c = some (tag, r) → s.ready →
    ∃ t a, exec c s = .next t ∧ t.link.reply = some ⟨r.kind, tag, a⟩
      ∧ (a.status ≠ .accepted →
          exec c s = s.answers r.kind tag a
          ∨ ∃ k, (s.tank k).status = .lost ∧ (s.tank k).noticed = false
            ∧ exec c s =
              ({ s with tanks := s.tanks.set k { s.tank k with noticed := true }
                        link := s.linkRaising ((s.tank k).useNotice k) } : State).answers r.kind tag a)

/-- 09 R188, R189; 06 R139, R140. What a request row stands for, when the arbiter looks, and an unknown or malformed
row that spells another frame are the model's, logs 2, 10 and 35. -/
def Obligations.HoldKeepsTwoFrames : Prop :=
  (∀ (c : Instr) (tag : Byte) (r : Request) (s : State), asRequest c = some (tag, r) → s.power = .running →
    s.burst ≠ none ∨ s.link.hold ≠ [] ∨ s.link.reply ≠ none →
    (s.link.hold.length < 2 →
      exec c s =
        ({ s with burst := s.burst.map (Burst.endedBy (decide (r = .journalStop)))
                  link := { s.link with hold := s.link.hold ++ [⟨r.kind, tag, r.body⟩] } } : State).settled)
    ∧ (2 ≤ s.link.hold.length → exec c s = s.settled))
  ∧ (∀ (tag kind : Byte) (body : List Byte) (s : State), s.power = .running →
    s.burst ≠ none ∨ s.link.hold ≠ [] ∨ s.link.reply ≠ none →
    let held : State :=
      { s with burst := s.burst.map (Burst.endedBy (decide (kind = 0x29 ∧ body = [])))
               link := { s.link with hold := s.link.hold ++ [⟨kind, tag, body⟩] } }
    (s.link.hold.length < 2 →
      exec (.unknownKind tag kind body) s = held.settled ∧ exec (.malformed tag kind body) s = held.settled)
    ∧ (2 ≤ s.link.hold.length →
      exec (.unknownKind tag kind body) s = s.settled ∧ exec (.malformed tag kind body) s = s.settled))
  ∧ ∀ (tag kind : Byte) (body : List Byte) (s : State), s.ready →
    exec (.unknownKind tag kind body) s = s.answers kind tag ⟨.unknownKind, .empty⟩
    ∧ exec (.malformed tag kind body) s = s.answers kind tag ⟨.malformed, .empty⟩

/-! ## Configuration -/

/-- 03 R58, R60. That a service flag above 1 is RANGE is the model's, log 19. -/
def Obligations.ProductSetReplacesRecord : Prop :=
  (∀ (tag : Byte) (f : ProductFields) (s : State) (p : Fin 6) (kind : ProductKind) (service : Bool)
    (feed : Option (Fin 8)),
    s.ready → f.product = p.val → f.kind = (if kind = .fuel then 0 else 1) → f.serviceFlag = service.toNat →
    f.feedTank = indexCode feed → f.alpha ≤ 2000 → 1 ≤ f.fullRate → f.fullRate ≤ 15000 → 1 ≤ f.slowRate →
    f.slowRate ≤ f.fullRate → f.primeVolume ≤ 2000000 → f.trimVolume ≤ 2000000 → f.closeAhead ≤ f.trimVolume →
    100 ≤ f.maxFill → f.maxFill ≤ 2000000 → 1 ≤ f.maxOpen → f.maxOpen ≤ 60 → 5 ≤ f.noFlow → f.noFlow ≤ 60 →
    50 ≤ f.creepVolume → f.creepVolume ≤ 1000 → f.slowRate ≤ f.pumpCapacity → f.pumpCapacity ≤ 30000 →
    f.runOn ≤ 120 → (∀ t, feed = some t → (s.tank t).record.product = some p) →
    ((∀ i, (s.lane i).record.product = some p → (s.lane i).state = .idle) →
      (s.header p).pump = .stopped ∨ (s.header p).pump = .failed →
      exec (.productSet tag f) s =
        ({ s with
          products := s.products.set p
            { kind := kind, alpha := f.alpha, fullRate := f.fullRate, slowRate := f.slowRate
              primeVolume := f.primeVolume, trimVolume := f.trimVolume, closeAhead := f.closeAhead
              maxFill := f.maxFill, maxOpen := f.maxOpen, noFlow := f.noFlow, creepVolume := f.creepVolume
              service := service, feedTank := feed, pumpCapacity := f.pumpCapacity, runOn := f.runOn } }
          : State).answers 0x01 tag ⟨.accepted, .empty⟩)
    ∧ ((∃ i, (s.lane i).record.product = some p ∧ (s.lane i).state ≠ .idle)
        ∨ ((s.header p).pump ≠ .stopped ∧ (s.header p).pump ≠ .failed) →
      exec (.productSet tag f) s = s.answers 0x01 tag ⟨.headerBusy, .empty⟩))
  ∧ ∀ (tag : Byte) (f : ProductFields) (s : State), s.ready →
    5 < f.product ∨ 1 < f.kind ∨ 2000 < f.alpha ∨ f.fullRate = 0 ∨ 15000 < f.fullRate ∨ f.slowRate = 0
      ∨ f.fullRate < f.slowRate ∨ 2000000 < f.primeVolume ∨ 2000000 < f.trimVolume ∨ f.trimVolume < f.closeAhead
      ∨ f.maxFill < 100 ∨ 2000000 < f.maxFill ∨ f.maxOpen = 0 ∨ 60 < f.maxOpen ∨ f.noFlow < 5 ∨ 60 < f.noFlow
      ∨ f.creepVolume < 50 ∨ 1000 < f.creepVolume ∨ 1 < f.serviceFlag ∨ (7 < f.feedTank ∧ f.feedTank ≠ 255)
      ∨ f.pumpCapacity < f.slowRate ∨ 30000 < f.pumpCapacity ∨ 120 < f.runOn
      ∨ (∃ (p : Fin 6) (t : Fin 8), f.product = p.val ∧ f.feedTank = t.val ∧ (s.tank t).record.product ≠ some p) →
    exec (.productSet tag f) s = s.answers 0x01 tag ⟨.range, .empty⟩

/-- 01 R1, R2, R28. That a window runs as a timer from the clock second is log 4. -/
def Obligations.LaneSetReplacesRecord : Prop :=
  (∀ (tag : Byte) (f : LaneFields) (s : State) (i : Fin 8) (product : Option (Fin 6)) (curve : CurveSource),
    s.ready → f.lane = i.val → f.product = indexCode product → f.curveSource = curve.code →
    10 ≤ f.kFactor → f.kFactor ≤ 2000 → -20000 ≤ f.spanTrim → f.spanTrim ≤ 20000 →
    f.window = 4 ∨ f.window = 8 ∨ f.window = 16 →
    ((s.lane i).state = .idle →
      exec (.laneSet tag f) s =
        ({ s with
          lanes := s.lanes.set i
            { s.lane i with
              record := { product := product, kFactor := f.kFactor, curve := curve, spanTrim := f.spanTrim
                          window := f.window }
              creepCount := 0, creepTimer := if product = none then none else some ⟨s.elapsed, 60⟩ } }
          : State).answers 0x02 tag ⟨.accepted, .empty⟩)
    ∧ ((s.lane i).state ≠ .idle → exec (.laneSet tag f) s = s.answers 0x02 tag ⟨.laneBusy, .empty⟩))
  ∧ ∀ (tag : Byte) (f : LaneFields) (s : State), s.ready →
    7 < f.lane ∨ (5 < f.product ∧ f.product ≠ 255) ∨ f.kFactor < 10 ∨ 2000 < f.kFactor ∨ f.curveSource = 0
      ∨ (6 < f.curveSource ∧ f.curveSource ≠ 255) ∨ f.spanTrim < -20000 ∨ 20000 < f.spanTrim
      ∨ (f.window ≠ 4 ∧ f.window ≠ 8 ∧ f.window ≠ 16) →
    exec (.laneSet tag f) s = s.answers 0x02 tag ⟨.range, .empty⟩

/-- 04 R77, R78, R91. That a poll still being sent is one from before is the model's, log 33. The product that
TANK-LOW carries, the tank record's, is the model's, log 39. -/
def Obligations.TankSetReplacesRecord : Prop :=
  (∀ (tag : Byte) (f : TankFields) (s : State) (t : Fin 8) (product : Option (Fin 6)) (address : Option Nat)
    (cls : VarianceClass),
    s.ready → f.tank = t.val → f.product = indexCode product → f.gaugeAddress = address.getD 255 →
    (∀ a, address = some a → 1 ≤ a ∧ a ≤ 31 ∧ ∀ u, u ≠ t → (s.tank u).record.address ≠ some a) →
    f.alarmClass = cls.code → cls ≠ .v0 → f.cutOff ≤ 1000000000 → f.lowBand ≤ 1000000000 → f.highHigh ≤ 40000 →
    f.leakThreshold ≤ 1000000000 →
    let record : TankRecord :=
      { product := product, address := address, cutOff := f.cutOff, lowBand := f.lowBand, highHigh := f.highHigh
        leakThreshold := f.leakThreshold, alarmClass := cls }
    (s.tankFree t → (s.tank t).record.product ≠ product ∨ (s.tank t).record.address ≠ address →
      exec (.tankSet tag f) s =
        ({ s with
            tanks := s.tanks.set t
              { s.tank t with record := record, status := .unpolled, fails := 0, noticed := false, held := none
                              sincePoll := 0, band := .noBand, watch := none, highHigh := false, opening := none }
            bus := { s.bus with
              poll := s.bus.poll.map fun p => if p.tank = t then { p with void := true } else p } }
          : State).answers 0x03 tag ⟨.accepted, .empty⟩)
    ∧ (s.tankFree t → (s.tank t).record.product = product → (s.tank t).record.address = address →
      let k : Tank := ({ s.tank t with record := record } : Tank).banded
      let flips := ¬ (k.band = .lowBand ↔ (s.tank t).band = .lowBand)
      exec (.tankSet tag f) s =
        ({ s with
            tanks := s.tanks.set t k
            lanes := Vector.ofFn fun i =>
              if flips ∧ s.laneTank i = some t then { s.lane i with arbiterGrant := .hold } else s.lane i
            link := s.linkRaising (k.lowNotice t (s.tank t).band) }
          : State).answers 0x03 tag ⟨.accepted, .empty⟩)
    ∧ (¬ s.tankFree t → exec (.tankSet tag f) s = s.answers 0x03 tag ⟨.tankBusy, .empty⟩))
  ∧ ∀ (tag : Byte) (f : TankFields) (s : State), s.ready →
    7 < f.tank ∨ (5 < f.product ∧ f.product ≠ 255) ∨ f.gaugeAddress = 0
      ∨ (31 < f.gaugeAddress ∧ f.gaugeAddress ≠ 255)
      ∨ (f.gaugeAddress ≠ 255 ∧ ∃ u : Fin 8, u.val ≠ f.tank ∧ (s.tank u).record.address = some f.gaugeAddress)
      ∨ f.alarmClass = 0 ∨ 5 < f.alarmClass ∨ 1000000000 < f.cutOff ∨ 1000000000 < f.lowBand
      ∨ 40000 < f.highHigh ∨ 1000000000 < f.leakThreshold →
    exec (.tankSet tag f) s = s.answers 0x03 tag ⟨.range, .empty⟩

/-- 02 R45, R46; 04 R79. -/
def Obligations.PointsAreStaged : Prop :=
  (∀ (tag : Byte) (f : CurvePointFields) (s : State) (i : Fin 8) (slot : Fin 16), s.ready → f.lane = i.val →
    f.index = slot.val →
    exec (.curvePoint tag f) s =
      ({ s with
        lanes := s.lanes.set i
          { s.lane i with staging := (s.lane i).staging.set slot (some ⟨f.rate, f.correction⟩) } }
        : State).answers 0x06 tag ⟨.accepted, .empty⟩)
  ∧ (∀ (tag : Byte) (f : TablePointFields) (s : State) (t : Fin 8) (slot : Fin 32), s.ready → f.tank = t.val →
    f.index = slot.val →
    exec (.tablePoint tag f) s =
      ({ s with
        tanks := s.tanks.set t
          { s.tank t with staging := (s.tank t).staging.set slot (some ⟨f.level, f.volume⟩) } }
        : State).answers 0x04 tag ⟨.accepted, .empty⟩)
  ∧ (∀ (tag : Byte) (f : CurvePointFields) (s : State), s.ready → 7 < f.lane ∨ 15 < f.index →
    exec (.curvePoint tag f) s = s.answers 0x06 tag ⟨.range, .empty⟩)
  ∧ (∀ (tag : Byte) (f : TablePointFields) (s : State), s.ready → 7 < f.tank ∨ 31 < f.index →
    exec (.tablePoint tag f) s = s.answers 0x04 tag ⟨.range, .empty⟩)

/-- 02 R46, R47, R48. -/
def Obligations.CurveCommitTakesPoints : Prop :=
  (∀ (tag : Byte) (f : CommitFields) (s : State) (i : Fin 8), s.ready → f.owner = i.val → 2 ≤ f.count →
    f.count ≤ 16 →
    ((s.lane i).state ≠ .idle → exec (.curveCommit tag f) s = s.answers 0x07 tag ⟨.laneBusy, .empty⟩)
    ∧ (∀ points : List CurvePoint, (s.lane i).state = .idle →
      (s.lane i).staging.toList.take f.count = points.map some →
      (∀ p ∈ points, 1 ≤ p.rate ∧ p.rate ≤ 30000 ∧ -50000 ≤ p.correction ∧ p.correction ≤ 50000) →
      points.Pairwise (fun a b => a.rate < b.rate) →
      exec (.curveCommit tag f) s =
        ({ s with
          lanes := s.lanes.set i
            { s.lane i with curve := some points, staging := Vector.replicate 16 none } }
          : State).answers 0x07 tag ⟨.accepted, .empty⟩)
    ∧ (∀ (points : List CurvePoint) (rest : List (Option CurvePoint)) (bad : Option CurvePoint),
      (s.lane i).state = .idle → (s.lane i).staging.toList.take f.count = points.map some ++ bad :: rest →
      (∀ p ∈ points, 1 ≤ p.rate ∧ p.rate ≤ 30000 ∧ -50000 ≤ p.correction ∧ p.correction ≤ 50000) →
      points.Pairwise (fun a b => a.rate < b.rate) →
      (∀ b, bad = some b → b.rate < 1 ∨ 30000 < b.rate ∨ b.correction < -50000 ∨ 50000 < b.correction
        ∨ ∃ q, points.getLast? = some q ∧ b.rate ≤ q.rate) →
      exec (.curveCommit tag f) s = s.answers 0x07 tag ⟨.tableInvalid, .slot points.length⟩))
  ∧ ∀ (tag : Byte) (f : CommitFields) (s : State), s.ready → 7 < f.owner ∨ f.count < 2 ∨ 16 < f.count →
    exec (.curveCommit tag f) s = s.answers 0x07 tag ⟨.range, .empty⟩

/-- 04 R79, R80, R78. That a poll still being sent is one from before is the model's, log 33. -/
def Obligations.TableCommitTakesPoints : Prop :=
  (∀ (tag : Byte) (f : CommitFields) (s : State) (t : Fin 8), s.ready → f.owner = t.val → 2 ≤ f.count →
    f.count ≤ 32 →
    (¬ s.tankFree t → exec (.tableCommit tag f) s = s.answers 0x05 tag ⟨.tankBusy, .empty⟩)
    ∧ (∀ points : List TablePoint, s.tankFree t →
      (s.tank t).staging.toList.take f.count = points.map some →
      (∀ p ∈ points, p.level ≤ 40000 ∧ p.volume ≤ 1000000000) →
      points.Pairwise (fun a b => a.level < b.level ∧ a.volume ≤ b.volume) →
      exec (.tableCommit tag f) s =
        ({ s with
            tanks := s.tanks.set t
              { s.tank t with table := some points, staging := Vector.replicate 32 none, status := .unpolled
                              fails := 0, noticed := false, held := none, sincePoll := 0, band := .noBand
                              watch := none, highHigh := false, opening := none }
            bus := { s.bus with
              poll := s.bus.poll.map fun p => if p.tank = t then { p with void := true } else p } }
          : State).answers 0x05 tag ⟨.accepted, .empty⟩)
    ∧ (∀ (points : List TablePoint) (rest : List (Option TablePoint)) (bad : Option TablePoint),
      s.tankFree t → (s.tank t).staging.toList.take f.count = points.map some ++ bad :: rest →
      (∀ p ∈ points, p.level ≤ 40000 ∧ p.volume ≤ 1000000000) →
      points.Pairwise (fun a b => a.level < b.level ∧ a.volume ≤ b.volume) →
      (∀ b, bad = some b → 40000 < b.level ∨ 1000000000 < b.volume
        ∨ ∃ q, points.getLast? = some q ∧ (b.level ≤ q.level ∨ b.volume < q.volume)) →
      exec (.tableCommit tag f) s = s.answers 0x05 tag ⟨.tableInvalid, .slot points.length⟩))
  ∧ ∀ (tag : Byte) (f : CommitFields) (s : State), s.ready → 7 < f.owner ∨ f.count < 2 ∨ 32 < f.count →
    exec (.tableCommit tag f) s = s.answers 0x05 tag ⟨.range, .empty⟩

/-- 09 R197, 03 R64 to R66, R72, 04 R83, R84, 08 R173. The time within the clock second, a boundary fallen due that
stays, the end of the clock, and when a queue entry is dropped are the model's, logs 4, 15, 16 and 34. That a round
with no tank left to poll ends once the queue is empty, and the low-band cap held in LOW-BAND and not in CUT-OFF, are
the model's, logs 38 and 24. -/
def Obligations.BaySetReplacesSettings : Prop :=
  (∀ (tag : Byte) (f : BayFields) (s : State) (b : Option (Nat × Nat)), s.ready →
    f.boundary1 = (b.map Prod.fst).getD 65535 → f.boundary2 = (b.map Prod.snd).getD 65535 →
    (∀ b1 b2, b = some (b1, b2) → b1 < b2 ∧ b2 ≤ 1439) → f.stagger ≤ 30 → 10 ≤ f.authTimeout →
    f.authTimeout ≤ 600 → 10 ≤ f.burnBand → f.burnBand ≤ 200 → f.maskLevel ≤ 6 → 5 ≤ f.roundPeriod →
    f.roundPeriod ≤ 60 →
    let v : Settings :=
      { stagger := f.stagger, authTimeout := f.authTimeout, burnBand := f.burnBand, boundaries := b
        maskLevel := f.maskLevel, roundPeriod := f.roundPeriod }
    let next := if s.period.clockSet then b.map (fun b => boundaryAfter s.period.clock b.1 b.2) else none
    let set : State := { s with settings := v, period := { s.period with next := next } }
    let sinceStart := s.elapsed - s.slot.lastStart
    let sinceDue := s.elapsed - s.bus.lastDue
    ∃ (free due : Bool) (w : State),
      exec (.baySet tag f) s =
        ({ (if due = true then w.roundMadeDue else w) with freeCount := s.freeCount + 2 } : State).answers 0x08 tag
          ⟨.accepted, .settings v⟩
      ∧ (s.slot.queue.Nodup → set.headsStarted w free)
      ∧ w = { set with headers := w.headers, slot := w.slot, lanes := w.lanes }
      ∧ (s.slot.free = true → f.stagger ≤ s.settings.stagger → free = true)
      ∧ (s.slot.free = false → s.settings.stagger ≤ f.stagger → free = false)
      ∧ (s.slot.free = true → s.settings.stagger < f.stagger → (f.stagger < sinceStart → free = true)
          ∧ (sinceStart < f.stagger → free = false))
      ∧ (s.slot.free = false → f.stagger < s.settings.stagger → (f.stagger = 0 ∨ f.stagger < sinceStart → free = true)
          ∧ (sinceStart < f.stagger → free = false))
      ∧ (f.roundPeriod = s.settings.roundPeriod → due = false)
      ∧ (f.roundPeriod ≠ s.settings.roundPeriod → f.roundPeriod < sinceDue → due = true)
      ∧ (sinceDue < f.roundPeriod → due = false))
  ∧ ∀ (tag : Byte) (f : BayFields) (s : State), s.ready →
    ((f.boundary1 ≠ 65535 ∨ f.boundary2 ≠ 65535) ∧ ¬ (f.boundary1 < f.boundary2 ∧ f.boundary2 ≤ 1439))
      ∨ 30 < f.stagger ∨ f.authTimeout < 10 ∨ 600 < f.authTimeout ∨ f.burnBand < 10 ∨ 200 < f.burnBand
      ∨ 6 < f.maskLevel ∨ f.roundPeriod < 5 ∨ 60 < f.roundPeriod →
    exec (.baySet tag f) s = s.answers 0x08 tag ⟨.range, .empty⟩

/-- 08 R171 to R173. That a boundary already fallen due stays to be taken, and a next boundary past the end of the
clock, are the model's, logs 15 and 16. -/
def Obligations.TimeSetTakesClock : Prop :=
  ∀ (tag : Byte) (clock : Nat) (s : State), s.ready → clock ≤ 4294967295 →
    exec (.timeSet tag clock) s =
      ({ s with period := { s.period with
          clock := clock, clockSet := true, adjusted := true
          next := s.settings.boundaries.map fun b => boundaryAfter clock b.1 b.2 } }
        : State).answers 0x09 tag ⟨.accepted, .clock s.period.clock⟩

/-- 08 R173. Near the end of the clock's range the choice is the model's, log 16, and a premise leaves it out. -/
def Obligations.NextBoundaryIsFirst : Prop :=
  ∀ (clock b1 b2 : Nat), b1 < b2 → b2 ≤ 1439 → clock + 86400 ≤ 4294967295 →
    let n := boundaryAfter clock b1 b2
    clock < n.due ∧ n.reached = false
      ∧ (n.due % 86400 = 60 * b1 ∧ n.kind = .day ∨ n.due % 86400 = 60 * b2 ∧ n.kind = .night)
      ∧ ∀ c, clock < c → c < n.due → c % 86400 ≠ 60 * b1 ∧ c % 86400 ≠ 60 * b2

/-! ## Deliveries -/

/-- 01 R11, R12. -/
def Obligations.EffectivePresetTable : Prop :=
  ∀ (requested capacity maxFill : Nat),
    (capacity ≠ 0 → effectivePreset 0 .fuel capacity maxFill = capacity)
    ∧ effectivePreset 0 .fuel 0 maxFill = maxFill
    ∧ effectivePreset 0 .lube capacity maxFill = maxFill
    ∧ (100 ≤ requested →
      (capacity ≠ 0 → effectivePreset requested .fuel capacity maxFill = min requested (min capacity maxFill))
      ∧ effectivePreset requested .fuel 0 maxFill = min requested maxFill
      ∧ effectivePreset requested .lube capacity maxFill = min requested maxFill)
    ∧ ∀ kind, clampedFlag requested (effectivePreset requested kind capacity maxFill)
        = (requested != 0 && decide (effectivePreset requested kind capacity maxFill < requested))

/-- 01 R9 to R12; 05 R110, R113 to R115. A timer counted from the clock second is the model's, log 4. -/
def Obligations.AuthoriseTakesDelivery : Prop :=
  ∀ (tag : Byte) (f : AuthoriseFields) (s : State) (i : Fin 8) (m : Fin 512) (p : Fin 6) (t : Fin 8)
    (held : HeldReading) (service : Bool),
    s.ready → f.lane = i.val → f.machine = m.val → f.serviceFlag = service.toNat →
    (∀ h, f.hourReading = some h → h ≤ 9999999) → s.shutdown.bay = .armed → (s.lane i).state = .idle →
    (s.lane i).record.product = some p → s.feedTank p = some t →
    ((s.lane i).record.curve = .lane → (s.lane i).curve ≠ none) → (s.header p).pump ≠ .failed →
    (s.machine m).status = .active → (s.machine m).permitted.getLsbD p.val = true →
    (∀ j, (s.lane j).record.product = some p → (s.lane j).state.holdsReservation = true →
      (s.lane j).delivery.machine ≠ m) →
    f.preset = 0 ∨ 100 ≤ f.preset → s.journal.held + s.journal.reserved < 2048 →
    (s.tank t).status = .good ∨ (s.tank t).status = .stale → (s.tank t).held = some held →
    ((s.tank t).record.cutOff : Int) < held.net - (s.tank t).sincePoll →
    let preset := effectivePreset f.preset (s.product p).kind (s.machine m).fuelCapacity (s.product p).maxFill
    let rolled := (s.machine m).roll s.period.number
    let step : ReadingResult := match f.hourReading with
      | none => ⟨0, false, false, rolled⟩
      | some h => readingStep s.period.clock s.period.clockSet h rolled
    let hours : MachineRecord :=
      if f.hourReading = none then rolled
      else
        { step.record with
          hoursSinceBurn := min 9999999 (step.record.hoursSinceBurn + step.accrued)
          hoursSinceService := min 9999999 (step.record.hoursSinceService + step.accrued)
          periodHours := min 9999999 (step.record.periodHours + step.accrued) }
    let interval := hours.serviceInterval
    let since := hours.hoursSinceService
    let due := decide (0 < interval ∧ interval ≤ since)
    let overdue := decide (0 < interval ∧ interval ≤ since ∧ interval * 11 / 10 ≤ since)
    let clamped := f.preset != 0 && decide (preset < f.preset)
    exec (.authorise tag f) s =
      ({ s with
          lanes := s.lanes.set i
            { s.lane i with
              state := .authorised, stage := none, authTimer := some ⟨s.elapsed, s.settings.authTimeout⟩
              delivery :=
                { machine := m, operator := f.operator, preset := preset, authTime := s.period.clock
                  firstFlow := none, gross := 0, net := 0, peak := 0, hourReading := f.hourReading
                  accrued := step.accrued, service := service, endCause := none
                  flags := { clamped := clamped, hoursBackward := step.backward, hoursJump := step.jump }
                  flowNotified := false, rate := 0, lastT10 := none, seq := none, lastRun := none } }
          machines := s.machines.set m { hours with overdue := hours.overdue || overdue }
          journal := { s.journal with reserved := s.journal.reserved + 1 }
          link := s.linkRaising
            (if overdue = true ∧ hours.overdue = false then [.serviceOverdue m i since interval] else []) }
        : State).answers 0x10 tag ⟨.accepted, .authorised preset
          { clamped := clamped, serviceDue := due, serviceOverdue := overdue, hoursBackward := step.backward
            hoursJump := step.jump
            lowBand := decide (held.net - (s.tank t).sincePoll
              ≤ (s.tank t).record.cutOff + (s.tank t).record.lowBand)
            gaugeStale := (s.tank t).status == .stale }⟩

/-- 01 R9; 05 R109; 06 R132; 04 R88. With no estimate on a GOOD tank, which cannot be, the answer is the model's, log
25, and the premise leaves it out. -/
def Obligations.AuthoriseChecksInOrder : Prop :=
  (∀ (tag : Byte) (f : AuthoriseFields) (s : State), s.ready →
    7 < f.lane ∨ 511 < f.machine ∨ (∃ h, f.hourReading = some h ∧ 9999999 < h) →
    exec (.authorise tag f) s = s.answers 0x10 tag ⟨.range, .empty⟩)
  ∧ ∀ (tag : Byte) (f : AuthoriseFields) (s : State) (i : Fin 8) (m : Fin 512) (service : Bool),
    s.ready → f.lane = i.val → f.machine = m.val → f.serviceFlag = service.toNat →
    (∀ h, f.hourReading = some h → h ≤ 9999999) →
    let refused := fun status => exec (.authorise tag f) s = s.answers 0x10 tag ⟨status, .empty⟩
    (s.shutdown.bay ≠ .armed → refused .bayState)
    ∧ (s.shutdown.bay = .armed →
      ((s.lane i).state ≠ .idle → refused .laneBusy)
      ∧ ((s.lane i).state = .idle →
        ((s.lane i).record.product = none
          ∨ (∃ p, (s.lane i).record.product = some p ∧ s.feedTank p = none)
          ∨ ((s.lane i).record.curve = .lane ∧ (s.lane i).curve = none) → refused .notConfigured)
        ∧ ∀ p t, (s.lane i).record.product = some p → s.feedTank p = some t →
          ((s.lane i).record.curve = .lane → (s.lane i).curve ≠ none) →
          ((s.header p).pump = .failed → refused .headerFailed)
          ∧ ((s.header p).pump ≠ .failed →
            ((s.machine m).status = .vacant → refused .machineVacant)
            ∧ ((s.machine m).status = .barred → refused .machineBarred)
            ∧ ((s.machine m).status = .active →
              ((s.machine m).permitted.getLsbD p.val = false → refused .notPermitted)
              ∧ ((s.machine m).permitted.getLsbD p.val = true →
                ((∃ j, (s.lane j).record.product = some p ∧ (s.lane j).state.holdsReservation = true
                    ∧ (s.lane j).delivery.machine = m) → refused .engaged)
                ∧ ((∀ j, (s.lane j).record.product = some p → (s.lane j).state.holdsReservation = true →
                    (s.lane j).delivery.machine ≠ m) →
                  (0 < f.preset ∧ f.preset < 100 → refused .range)
                  ∧ (f.preset = 0 ∨ 100 ≤ f.preset →
                    (2048 ≤ s.journal.held + s.journal.reserved → refused .journalFull)
                    ∧ (s.journal.held + s.journal.reserved < 2048 →
                      ((s.tank t).status = .unpolled → refused .gaugeUnpolled)
                      ∧ ((s.tank t).status = .lost → (s.tank t).noticed = true → refused .gaugeLost)
                      ∧ ((s.tank t).status = .lost → (s.tank t).noticed = false →
                        exec (.authorise tag f) s =
                          ({ s with tanks := s.tanks.set t { s.tank t with noticed := true }
                                    link := s.linkRaising ((s.tank t).useNotice t) }
                            : State).answers 0x10 tag ⟨.gaugeLost, .empty⟩)
                      ∧ (∀ held, (s.tank t).status = .good ∨ (s.tank t).status = .stale →
                        (s.tank t).held = some held →
                        held.net - (s.tank t).sincePoll ≤ ((s.tank t).record.cutOff : Int) →
                        refused .tankLow)))))))))

/-- 01 R14, R23, R33. The stage kept by a delivery that closes before it ran any is the model's, log 37. Timers
counted from the clock second, and the low-band cap held in LOW-BAND and not in CUT-OFF, are the model's, logs 4 and
24. -/
def Obligations.CancelByLaneState : Prop :=
  (∀ (tag : Byte) (n : Nat) (s : State), s.ready → 7 < n →
    exec (.cancel tag n) s = s.answers 0x11 tag ⟨.range, .empty⟩)
  ∧ ∀ (tag : Byte) (i : Fin 8) (s : State), s.ready →
    ((s.lane i).state = .authorised →
      exec (.cancel tag i.val) s =
        ({ s with
            lanes := s.lanes.set i { s.lane i with state := .idle, stage := none, delivery := {}, authTimer := none }
            journal := { s.journal with reserved := s.journal.reserved - 1 } }
          : State).answers 0x11 tag ⟨.accepted, .laneState .idle⟩)
    ∧ ((s.lane i).state.demands = true →
      ∃ u : State, exec (.cancel tag i.val) s = u.answers 0x11 tag ⟨.accepted, .laneState .closing⟩
        ∧ s.entersClosing u i .cancel)
    ∧ ((s.lane i).state = .idle ∨ (s.lane i).state = .closing ∨ (s.lane i).state = .done →
      exec (.cancel tag i.val) s = s.answers 0x11 tag ⟨.accepted, .laneState (s.lane i).state⟩)

/-- 01 R5, R33; 04 R77, R90, R105; 08 R183. The seconds left and the free-value counter are the model's, log 4; the
stage a lane in CLOSING holds is the last stage run, and for a delivery that ran none the model's choice, log 37. -/
def Obligations.QueriesChangeNothing : Prop :=
  (∀ (tag : Byte) (i : Fin 8) (s : State), s.ready →
    let l := s.lane i
    let d := l.delivery
    let named := l.state ≠ .idle
    let metered := l.state ≠ .idle ∧ l.state ≠ .authorised
    let left := fun t : Timer => t.start + t.seconds - s.elapsed
    ∃ authLeft openLeft : Option Nat,
      exec (.laneQuery tag i.val) s =
        ({ s with freeCount := s.freeCount + 1 } : State).answers 0x12 tag ⟨.accepted, .lane
          { state := l.state
            stage := if metered ∧ l.state ≠ .done then l.stage else none
            nozzleOut := l.nozzleOut
            valve :=
              if l.grant = .hold then .closed
              else if l.state = .flowing ∧ l.stage = some .main ∧ l.grant = .full then .full
              else if l.state = .flowing ∨ l.state = .trimming then .slow
              else .closed
            grant := l.grant
            machine := if named then some d.machine.val else none
            operator := if named then some d.operator else none
            preset := if named then some d.preset else none
            authTime := if named then some d.authTime else none
            gross := if metered then some d.gross else none
            net := if metered then some d.net else none
            peak := if metered then some d.peak else none
            rate := if metered then some d.rate else none
            firstFlow := if named then d.firstFlow else none
            endCause := if l.state = .closing ∨ l.state = .done then d.endCause else none
            flags := if named then some d.flags else none
            authLeft := authLeft
            openLeft := openLeft
            creep := if l.record.product = none then none else some l.creepCount
            record := l.record
            seq := if l.state = .done then d.seq else none }⟩
      ∧ (l.state ≠ .authorised ∨ l.authTimer = none → authLeft = none)
      ∧ (∀ t, l.state = .authorised → l.authTimer = some t →
          ∃ n, authLeft = some n ∧ n ≤ left t ∧ left t ≤ n + 1)
      ∧ (l.state.demands = false ∨ l.maxOpen = none → openLeft = none)
      ∧ (∀ t, l.state.demands = true → l.maxOpen = some t →
          ∃ n, openLeft = some n ∧ n ≤ left t ∧ left t ≤ n + 1))
  ∧ (∀ (tag : Byte) (t : Fin 8) (s : State), s.ready →
    let k := s.tank t
    exec (.tankQuery tag t.val) s = s.answers 0x18 tag ⟨.accepted, .tank
      { record := k.record
        configured := decide (k.record.product ≠ none ∧ k.record.address ≠ none ∧ k.table ≠ none)
        points := (k.table.map List.length).getD 0
        status := k.status
        fails := k.fails
        held := k.held
        sincePoll := k.sincePoll
        estimate := k.held.map fun h => h.net - (k.sincePoll : Int)
        band := k.band
        book := k.book
        bookSaturated := k.bookSaturated
        dispensed := k.dispensed
        opening := k.opening
        periodDispensed := k.periodDispensed
        periodReceipts := k.periodReceipts
        lostDuring := k.lostDuring
        overfillStop := k.overfillStop
        leak := k.leak
        highHigh := k.highHigh
        watch := k.watch
        receipt := k.receipt
        inlet := decide (∃ r ∈ k.receipt, r.state = .opened)
        lastReceipt := k.lastReceipt
        queued := decide (t ∈ s.bus.queue)
        outstanding := decide (∃ p ∈ s.bus.poll, p.tank = t) }⟩)
  ∧ (∀ (tag : Byte) (n : Nat) (s : State), s.ready → 7 < n →
    exec (.laneQuery tag n) s = s.answers 0x12 tag ⟨.range, .empty⟩
    ∧ exec (.tankQuery tag n) s = s.answers 0x18 tag ⟨.range, .empty⟩)
  ∧ (∀ (tag : Byte) (f : ReportReadFields) (s : State) (r : Report), s.ready → s.period.report = some r →
    (f.part = 0 → exec (.reportRead tag f) s =
      s.answers 0x37 tag ⟨.accepted, .report r.header (.bay r.causes r.laneStops r.lockoutFlag)⟩)
    ∧ (∀ t : Fin 8, f.part = 1 → f.number = t.val →
      exec (.reportRead tag f) s = s.answers 0x37 tag ⟨.accepted, .report r.header (.tank r.tanks[t])⟩)
    ∧ (∀ i : Fin 8, f.part = 2 → f.number = i.val →
      exec (.reportRead tag f) s = s.answers 0x37 tag ⟨.accepted, .report r.header (.lane r.lanes[i])⟩))
  ∧ (∀ (tag : Byte) (f : ReportReadFields) (s : State), s.ready →
    (2 < f.part ∨ (f.part ≠ 0 ∧ 7 < f.number) →
      exec (.reportRead tag f) s = s.answers 0x37 tag ⟨.range, .empty⟩)
    ∧ (f.part = 0 ∨ (f.part ≤ 2 ∧ f.number ≤ 7) → s.period.report = none →
      exec (.reportRead tag f) s = s.answers 0x37 tag ⟨.noneHeld, .empty⟩))

/-! ## Tanks and receipts -/

/-- 04 R84, R85. -/
def Obligations.GaugeNowAsksPoll : Prop :=
  (∀ (tag : Byte) (n : Nat) (s : State), s.ready → 7 < n →
    exec (.gaugeNow tag n) s = s.answers 0x19 tag ⟨.range, .empty⟩)
  ∧ ∀ (tag : Byte) (t : Fin 8) (s : State), s.ready →
    ((s.tank t).configured = false →
      exec (.gaugeNow tag t.val) s = s.answers 0x19 tag ⟨.notConfigured, .empty⟩)
    ∧ ((s.tank t).configured = true → s.bus.poll ≠ none →
      exec (.gaugeNow tag t.val) s =
        ({ s with bus := { s.bus with queue := if t ∈ s.bus.queue then s.bus.queue else s.bus.queue ++ [t] } }
          : State).answers 0x19 tag ⟨.accepted, .polled (decide (t ∉ s.bus.queue))⟩)
    ∧ ((s.tank t).configured = true → s.bus.poll = none → s.bus.queue = [] →
      exec (.gaugeNow tag t.val) s =
        ({ s with bus := { s.bus with
            poll := some { tank := t, address := (s.tank t).record.address.getD 0, sent := false, void := false
                           beforeClose := false } } }
          : State).answers 0x19 tag ⟨.accepted, .polled true⟩)

/-- 04 R94, R95, R88. -/
def Obligations.ReceiptOpenChecksInOrder : Prop :=
  (∀ (tag : Byte) (f : ReceiptOpenFields) (s : State), s.ready →
    7 < f.tank ∨ (∃ v, f.docket = some v ∧ 1000000000 < v) →
    exec (.receiptOpen tag f) s = s.answers 0x1A tag ⟨.range, .empty⟩)
  ∧ ∀ (tag : Byte) (f : ReceiptOpenFields) (s : State) (t : Fin 8), s.ready → f.tank = t.val →
    (∀ v, f.docket = some v → v ≤ 1000000000) →
    let refused := fun status => exec (.receiptOpen tag f) s = s.answers 0x1A tag ⟨status, .empty⟩
    (s.shutdown.bay ≠ .armed → refused .bayState)
    ∧ (s.shutdown.bay = .armed →
      ((s.tank t).configured = false → refused .notConfigured)
      ∧ ((s.tank t).configured = true →
        ((s.tank t).receipt ≠ none → refused .receiptOpen)
        ∧ ((s.tank t).receipt = none →
          ((s.tank t).status = .unpolled → refused .gaugeUnpolled)
          ∧ ((s.tank t).status = .lost → (s.tank t).noticed = true → refused .gaugeLost)
          ∧ ((s.tank t).status = .lost → (s.tank t).noticed = false →
            exec (.receiptOpen tag f) s =
              ({ s with tanks := s.tanks.set t { s.tank t with noticed := true }
                        link := s.linkRaising ((s.tank t).useNotice t) } : State).answers 0x1A tag
                ⟨.gaugeLost, .empty⟩)
          ∧ (∀ held, (s.tank t).status = .good ∨ (s.tank t).status = .stale → (s.tank t).held = some held →
            exec (.receiptOpen tag f) s =
              ({ s with
                  tanks := s.tanks.set t
                    { s.tank t with receipt := some
                                      { state := .opened, docket := f.docket, g0 := held.net, d0 := held.counter
                                        openTime := s.period.clock, closeTime := none, cause := none, rounds := 0
                                        midRound := false } } }
                : State).answers 0x1A tag ⟨.accepted, .receiptOpened held.net held.time⟩))))

/-- 04 R96, R97, R84. That a poll still being sent is one from before the close is the model's, log 33. -/
def Obligations.ReceiptCloseSettles : Prop :=
  (∀ (tag : Byte) (n : Nat) (s : State), s.ready → 7 < n →
    exec (.receiptClose tag n) s = s.answers 0x1B tag ⟨.range, .empty⟩)
  ∧ ∀ (tag : Byte) (t : Fin 8) (s : State), s.ready →
    ((∀ r, (s.tank t).receipt = some r → r.state = .settling) →
      exec (.receiptClose tag t.val) s = s.answers 0x1B tag ⟨.noReceipt, .empty⟩)
    ∧ ∀ r, (s.tank t).receipt = some r → r.state = .opened → (s.tank t).configured = true →
      let closed : Receipt :=
        { r with state := .settling, closeTime := some s.period.clock, cause := some .close, rounds := 0
                 midRound := s.bus.round.isSome }
      (∀ q, s.bus.poll = some q →
        exec (.receiptClose tag t.val) s =
          ({ s with
              tanks := s.tanks.set t { s.tank t with receipt := some closed }
              bus := { s.bus with
                queue := if t ∈ s.bus.queue then s.bus.queue else s.bus.queue ++ [t]
                poll := some (if q.tank = t then { q with beforeClose := true } else q) } }
            : State).answers 0x1B tag ⟨.accepted, .empty⟩)
      ∧ (s.bus.poll = none → s.bus.queue = [] →
        exec (.receiptClose tag t.val) s =
          ({ s with
              tanks := s.tanks.set t { s.tank t with receipt := some closed }
              bus := { s.bus with
                poll := some { tank := t, address := (s.tank t).record.address.getD 0, sent := false, void := false
                               beforeClose := false } } }
            : State).answers 0x1B tag ⟨.accepted, .empty⟩)

/-- 04 R93. -/
def Obligations.BookSetReplacesBook : Prop :=
  ∀ (tag : Byte) (f : BookFields) (s : State), s.ready →
    (7 < f.tank ∨ f.book < -140737488355327 ∨ 140737488355327 < f.book →
      exec (.bookSet tag f) s = s.answers 0x1C tag ⟨.range, .empty⟩)
    ∧ ∀ t : Fin 8, f.tank = t.val → -140737488355327 ≤ f.book → f.book ≤ 140737488355327 →
      exec (.bookSet tag f) s =
        ({ s with tanks := s.tanks.set t { s.tank t with book := f.book, bookSaturated := false } }
          : State).answers 0x1C tag ⟨.accepted, .book (s.tank t).book⟩

/-- 04 R81 to R84, R86, R88, R97, R98. The gating of the rows, the arbiter's moment, the order at a round's end and
when a queue entry is dropped are the model's, logs 5, 10, 30 and 34. That a round with no tank left to poll ends once
the queue is empty, GAUGE-HELD whatever the status, and a GAUGE-LOST with no reading held, are the model's, logs 38,
26 and 9. Exact running sums, and a round's due time in elapsed seconds, are the model's, logs 20 and 4. -/
def Obligations.GaugePollsAndFailures : Prop :=
  (∀ s : State, s.power = .running →
    exec .gaugePollSent s =
      ({ s with bus := { s.bus with poll := s.bus.poll.map fun p => { p with sent := true } } } : State).settled)
  ∧ (∀ s : State, s.power = .running →
    let waits : State := { s with bus := { s.bus with lastDue := s.elapsed, roundPending := true } }
    let begins : State := { s with bus := { s.bus with lastDue := s.elapsed, round := some 0 } }
    let ended : State := ({ s with bus := { s.bus with lastDue := s.elapsed } } : State).roundOver
    (s.bus.poll ≠ none →
      (s.bus.round ≠ none → exec .roundDue s = waits.settled)
      ∧ (s.bus.round = none → (∃ t, (s.tank t).configured = true) → exec .roundDue s = begins.settled)
      ∧ (s.bus.round = none → (∀ t, (s.tank t).configured = false) → exec .roundDue s = ended.settled))
    ∧ (s.bus.poll = none →
      (s.bus.round ≠ none → exec .roundDue s = (waits.served s.bus.queue).settled)
      ∧ (s.bus.round = none → (∃ t, (s.tank t).configured = true) →
        exec .roundDue s = (begins.served s.bus.queue).settled)
      ∧ (s.bus.round = none → (∀ t, (s.tank t).configured = false) →
        exec .roundDue s = (ended.served s.bus.queue).settled)))
  ∧ (∀ (s : State) (t : Fin 8), s.power = .running → s.bus.round = none → s.bus.poll = none → s.bus.queue = [] →
    (s.tank t).configured = true → (∀ k, k < t → (s.tank k).configured = false) →
    exec .roundDue s =
      ({ s with bus := { s.bus with lastDue := s.elapsed, round := some (t.val + 1), poll := some (s.polling t) } }
        : State).settled)
  ∧ (∀ (s : State) (p : Poll), s.power = .running → s.bus.poll = some p → p.sent = true →
    let k := s.tank p.tank
    let failed : Tank :=
      if p.void then k
      else
        match k.status with
        | .unpolled | .lost => { k with fails := min 255 (k.fails + 1) }
        | .good => { k with status := .stale, fails := 1 }
        | .stale =>
          if k.fails + 1 < 3 then { k with fails := k.fails + 1 }
          else { k with status := .lost, fails := k.fails + 1, noticed := false, lostDuring := true }
    exec .replyTimerExpiry s =
      (({ s with tanks := s.tanks.set p.tank failed } : State).served s.bus.queue).settled)
  ∧ (∀ s : State, s.power = .running → (∀ p, s.bus.poll = some p → p.sent = false) →
    exec .replyTimerExpiry s = s.settled)
  ∧ (∀ (s : State) (p : Poll), s.power = .running → s.bus.poll = some p → p.sent = false →
    s.gaugeDriverEnable = true
      ∧ s.gaugeBytes =
        [0x5A, BitVec.ofNat 8 p.address, 0x01, BitVec.ofNat 8 (0x5A + p.address + 0x01)])
  ∧ ∀ s : State, (∀ p, s.bus.poll = some p → p.sent = true) → s.gaugeDriverEnable = false ∧ s.gaugeBytes = []

/-- 04 R78, R81, R82, R87, R89, R91, R97, R98, R100 to R103. The row's operand, its gating, the order in shutdown
entry, a poll still being sent at a close, when a queue entry is dropped and the stage of a delivery closed before it
ran any are the model's, logs 21, 5, 13, 33, 34 and 37. When a round with no tank left ends, the product that TANK-LOW
carries, timers counted from the clock second, exact running sums and a table that is absent are the model's, logs 38,
39, 4, 20 and 9. The TANK-LOW ending as a mark that stands until its row takes it, the low-band cap held in LOW-BAND
and not in CUT-OFF, so that the pass at a fall from LOW-BAND to CUT-OFF is made without it, GAUGE-HELD whatever the
status, and the order of the receipts and the notices at a round's end, are the model's, logs 1, 24, 26 and 30. -/
def Obligations.GoodReplyIsHeld : Prop :=
  (∀ (bytes : List Byte) (s : State) (p : Poll) (r : GaugeReading), s.power = .running → s.bus.poll = some p →
    p.sent = true → p.void = false → readReply p.address bytes = .good r →
    let t := p.tank
    let k := s.tank t
    let net := gaugedNet (k.table.getD []) (s.tankAlpha t) r.level r.water r.temperature
    let leaks := k.record.leakThreshold ≠ 0 ∧ k.receipt = none
      ∧ ∃ h, k.held = some h ∧ (k.record.leakThreshold : Int) < h.net - net - k.sincePoll
    ∃ a c u : State,
      (leaks → ({ s with tanks := s.tanks.set t { k with leak := true } } : State).raises a .tankleak (oneMember t))
      ∧ (¬ leaks → a = s)
      ∧ (let b := a.levelCompared t r.level
        (∀ stop, (b.tank t).watch = some stop → (b.tank t).inlet = false → stop + 5 < r.level →
          ({ b with tanks := b.tanks.set t { b.tank t with watch := some r.level } } : State).raises c .overfill
            (oneMember t))
        ∧ ((∀ stop, (b.tank t).watch = some stop → (b.tank t).inlet = true ∨ r.level ≤ stop + 5) → c = b))
      ∧ (let kc := c.tank t
        let read : Tank :=
          ({ kc with
              held := some { level := r.level, temperature := r.temperature, water := r.water
                             time := s.period.clock, net := net, counter := kc.dispensed }
              sincePoll := 0, status := .good, fails := 0, noticed := false, opening := some (kc.opening.getD net)
              openedLate := kc.openedLate || kc.opening.isNone } : Tank).banded
        let settles := fun x : Receipt =>
          kc.receipt = some x ∧ x.state = .settling ∧ ∀ q, c.bus.poll = some q → q.beforeClose = false
        c.lanesBanded u t kc.band
        ∧ (∀ x, settles x →
          u = { c with
            tanks := c.tanks.set t (read.received (x.resultOn net kc.dispensed false)), lanes := u.lanes
            link := c.linkRaising
              (read.lowNotice t kc.band ++ [.receiptEnd t (x.resultOn net kc.dispensed false)]) })
        ∧ ((∀ x, ¬ settles x) →
          u = { c with tanks := c.tanks.set t read, lanes := u.lanes
                       link := c.linkRaising (read.lowNotice t kc.band) }))
      ∧ exec (.gaugeReply bytes) s = (u.served u.bus.queue).settled)
  ∧ (∀ (bytes : List Byte) (s : State) (p : Poll) (r : GaugeReading), s.power = .running → s.bus.poll = some p →
    p.sent = true → p.void = true → readReply p.address bytes = .good r →
    exec (.gaugeReply bytes) s = (s.served s.bus.queue).settled)
  ∧ (∀ (bytes : List Byte) (s : State) (p : Poll), s.power = .running → s.bus.poll = some p → p.sent = true →
    (readReply p.address bytes = .failed → exec (.gaugeReply bytes) s = exec .replyTimerExpiry s)
    ∧ (readReply p.address bytes = .incomplete → exec (.gaugeReply bytes) s = s.settled))
  ∧ (∀ (bytes : List Byte) (s : State), s.power = .running → (∀ p, s.bus.poll = some p → p.sent = false) →
    exec (.gaugeReply bytes) s = s.settled)
  ∧ (∀ (table : List TablePoint) (alpha level water : Nat) (temperature : Int),
    let points := table.map fun p => (p.level, (p.volume : Int))
    let gross := if water < level then interpolate points level - interpolate points water else 0
    let factor := 1000000 - ((alpha : Int) * (max (-400) (min 600 temperature) - 150)).tdiv 10
    let net := gaugedNet table alpha level water temperature
    net * 1000000 ≤ gross * factor ∧ gross * factor < (net + 1) * 1000000)
  ∧ (∀ (s : State) (t : Fin 8),
    s.tankAlpha t = (((s.tank t).record.product.map fun p => (s.product p).alpha).getD 0))
  ∧ (∀ (polled : Nat) (before after : List Byte) (address status level1 level0 temp1 temp0 water1 water0 check : Byte),
    0x5A ∉ before →
    let level := 256 * level1.toNat + level0.toNat
    let good := address.toNat = polled
      ∧ check = 0x5A + address + status + level1 + level0 + temp1 + temp0 + water1 + water0
      ∧ status = 0 ∧ level ≤ 40000
    let outcome := readReply polled
      (before ++ [0x5A, address, status, level1, level0, temp1, temp0, water1, water0, check] ++ after)
    (good → outcome = .good ⟨level, (temp1 ++ temp0).toInt, 256 * water1.toNat + water0.toNat⟩)
    ∧ (¬ good → outcome = .failed))
  ∧ (∀ (polled : Nat) (bytes : List Byte), 0x5A ∉ bytes → readReply polled bytes = .incomplete)
  ∧ ∀ (polled : Nat) (before rest : List Byte), 0x5A ∉ before → rest.length < 9 →
    readReply polled (before ++ 0x5A :: rest) = .incomplete

/-! ## Machine accounts -/

/-- 05 R111, R112. -/
def Obligations.ReadingStepTable : Prop :=
  ∀ (now h : Nat) (clockSet : Bool) (r : MachineRecord),
    let allowance := (now - r.readingTime) / 360 + 10
    let taken := { r with lastReading := some h, readingTime := now, timed := clockSet }
    (r.lastReading = none → readingStep now clockSet h r = ⟨0, false, false, taken⟩)
    ∧ ∀ last, r.lastReading = some last →
      (h < last → readingStep now clockSet h r = ⟨0, true, false, r⟩)
      ∧ (h = last → readingStep now clockSet h r = ⟨0, false, false, r⟩)
      ∧ (last < h → clockSet = false ∨ r.timed = false →
        readingStep now clockSet h r = ⟨h - last, false, false, taken⟩)
      ∧ (last < h → h - last ≤ allowance → readingStep now clockSet h r = ⟨h - last, false, false, taken⟩)
      ∧ (last < h → clockSet = true → r.timed = true → allowance < h - last →
        readingStep now clockSet h r = ⟨allowance, false, true, taken⟩)
      ∧ ∃ n, (readingStep now clockSet h r).record.lastReading = some n ∧ last ≤ n

/-- 05 R121; 08 R174 (0 follows 4,294,967,295). -/
def Obligations.RollByPeriod : Prop :=
  ∀ (period : Nat) (r : MachineRecord), period ≤ 4294967295 → r.recordPeriod ≤ 4294967295 →
    (r.recordPeriod = period → r.roll period = r)
    ∧ (r.recordPeriod + 1 = period ∨ (r.recordPeriod = 4294967295 ∧ period = 0) →
      r.roll period =
        { r with recordPeriod := period, lastHours := r.periodHours, lastNet := r.periodNet, periodHours := 0
                 periodNet := Vector.replicate 6 0 })
    ∧ (r.recordPeriod ≠ period → r.recordPeriod + 1 ≠ period → ¬ (r.recordPeriod = 4294967295 ∧ period = 0) →
      r.roll period =
        { r with recordPeriod := period, lastHours := 0, lastNet := Vector.replicate 6 0, periodHours := 0
                 periodNet := Vector.replicate 6 0 })

/-- 05 R108, R122 to R126. That mask bit 7 is ignored and that a VACANT record shows what was written are the model's,
logs 19 and 31. -/
def Obligations.MachineReadAndWrite : Prop :=
  (∀ (tag : Byte) (n : Nat) (s : State), s.ready → 511 < n →
    exec (.machineRead tag n) s = s.answers 0x20 tag ⟨.range, .empty⟩)
  ∧ (∀ (tag : Byte) (m : Fin 512) (s : State), s.ready →
    let r := (s.machine m).roll s.period.number
    ∃ engaged service,
      exec (.machineRead tag m.val) s =
        ({ s with machines := s.machines.set m r } : State).answers 0x20 tag
          ⟨.accepted, .machine ⟨r, engaged, service⟩⟩
      ∧ (∀ p i, (p, i) ∈ engaged ↔ (s.lane i).record.product = some p
          ∧ (s.lane i).state.holdsReservation = true ∧ (s.lane i).delivery.machine = m)
      ∧ (service = .noService ↔ r.serviceInterval = 0)
      ∧ (service = .ok ↔ 0 < r.serviceInterval ∧ r.hoursSinceService < r.serviceInterval)
      ∧ (service = .overdue ↔ 0 < r.serviceInterval ∧ r.serviceInterval ≤ r.hoursSinceService
          ∧ r.serviceInterval * 11 / 10 ≤ r.hoursSinceService))
  ∧ (∀ (tag : Byte) (f : MachineWriteFields) (m : Fin 512) (s : State), s.ready → f.machine = m.val →
    f.mask % 128 ≠ 0 → (f.mask.testBit 0 = true → f.values.status ≤ 2) →
    (f.mask.testBit 1 = true → f.values.permitted ≤ 63) →
    (f.mask.testBit 2 = true → f.values.fuelCapacity ≤ 2000000) →
    (f.mask.testBit 3 = true → f.values.serviceInterval ≤ 999999) →
    (f.mask.testBit 4 = true → f.values.hoursSinceService ≤ 9999999) →
    (f.mask.testBit 5 = true → ∀ h, f.values.hourBaseline = some h → h ≤ 9999999) →
    (f.mask.testBit 6 = true → f.values.burnAverage ≤ 65535) →
    let r := (s.machine m).roll s.period.number
    let v := f.values
    let b := fun n => f.mask.testBit n
    ((∃ i, (s.lane i).state.holdsReservation = true ∧ (s.lane i).delivery.machine = m) →
      exec (.machineWrite tag f) s = s.answers 0x21 tag ⟨.engaged, .empty⟩)
    ∧ ((∀ i, (s.lane i).state.holdsReservation = true → (s.lane i).delivery.machine ≠ m) →
      (b 0 = true → v.status = 0 →
        exec (.machineWrite tag f) s =
          ({ s with machines := s.machines.set m { recordPeriod := s.period.number } } : State).answers 0x21 tag
            ⟨.accepted, .empty⟩)
      ∧ (b 0 = false ∨ v.status ≠ 0 →
        exec (.machineWrite tag f) s =
          ({ s with
              machines := s.machines.set m
                { r with
                  status := if b 0 then (if v.status = 1 then .active else .barred) else r.status
                  permitted := if b 1 then BitVec.ofNat 8 v.permitted else r.permitted
                  fuelCapacity := if b 2 then v.fuelCapacity else r.fuelCapacity
                  serviceInterval := if b 3 then v.serviceInterval else r.serviceInterval
                  hoursSinceService := if b 4 then v.hoursSinceService else r.hoursSinceService
                  overdue := if b 3 || b 4 then false else r.overdue
                  lastReading := if b 5 then v.hourBaseline else r.lastReading
                  readingTime := if b 5 && v.hourBaseline.isSome then s.period.clock else r.readingTime
                  timed := if b 5 && v.hourBaseline.isSome then s.period.clockSet else r.timed
                  burnAverage := if b 6 then v.burnAverage else r.burnAverage } }
            : State).answers 0x21 tag ⟨.accepted, .empty⟩)))
  ∧ (∀ (tag : Byte) (f : MachineWriteFields) (s : State), s.ready →
    511 < f.machine ∨ f.mask % 128 = 0 ∨ (f.mask.testBit 0 = true ∧ 2 < f.values.status)
      ∨ (f.mask.testBit 1 = true ∧ 63 < f.values.permitted)
      ∨ (f.mask.testBit 2 = true ∧ 2000000 < f.values.fuelCapacity)
      ∨ (f.mask.testBit 3 = true ∧ 999999 < f.values.serviceInterval)
      ∨ (f.mask.testBit 4 = true ∧ 9999999 < f.values.hoursSinceService)
      ∨ (f.mask.testBit 5 = true ∧ ∃ h, f.values.hourBaseline = some h ∧ 9999999 < h)
      ∨ (f.mask.testBit 6 = true ∧ 65535 < f.values.burnAverage) →
    exec (.machineWrite tag f) s = s.answers 0x21 tag ⟨.range, .empty⟩)

/-- 05 R127, R128. That mask bit 7 is ignored is the model's, log 19. -/
def Obligations.PatternAppliedToGroup : Prop :=
  (∀ (tag : Byte) (f : PatternFields) (s : State), s.ready →
    (namesWritable f.mask = true ∧ maskedInRange f.mask f.values = true →
      exec (.patternLoad tag f) s = ({ s with pattern := some f } : State).answers 0x22 tag ⟨.accepted, .empty⟩)
    ∧ (namesWritable f.mask = false ∨ maskedInRange f.mask f.values = false →
      exec (.patternLoad tag f) s = s.answers 0x22 tag ⟨.range, .empty⟩))
  ∧ (∀ (tag : Byte) (f : GroupFields) (s : State), s.ready →
    (f.base % 8 ≠ 0 ∨ 504 < f.base → exec (.groupApply tag f) s = s.answers 0x23 tag ⟨.range, .empty⟩)
    ∧ (f.base % 8 = 0 → f.base ≤ 504 → s.pattern = none →
      exec (.groupApply tag f) s = s.answers 0x23 tag ⟨.noPattern, .empty⟩)
    ∧ (∀ pattern, f.base % 8 = 0 → f.base ≤ 504 → s.pattern = some pattern →
      ∃ (u : State) (applied skipped : Mask),
        exec (.groupApply tag f) s = u.answers 0x23 tag ⟨.accepted, .masks applied skipped⟩
        ∧ u = { s with machines := u.machines }
        ∧ (∀ i : Fin 8, applied.getLsbD i.val = (f.members.testBit i.val && !s.engaged (groupMember f.base i))
          ∧ skipped.getLsbD i.val = (f.members.testBit i.val && s.engaged (groupMember f.base i)))
        ∧ (∀ i : Fin 8, f.members.testBit i.val = true → s.engaged (groupMember f.base i) = false →
          u.machine (groupMember f.base i) =
            ((s.machine (groupMember f.base i)).roll s.period.number).write s.period.clock s.period.clockSet
              s.period.number pattern.mask pattern.values)
        ∧ (∀ m : Fin 512, (∀ i : Fin 8, groupMember f.base i = m →
            f.members.testBit i.val = false ∨ s.engaged m = true) → u.machine m = s.machine m)))

/-! ## The journal -/

/-- 06 R130, R136, R140; 09 R191. That the auto-acknowledge byte is 1 for on and 0 for off, and that it is read as a
flag, so that any other byte is RANGE, are the model's, logs 17 and 19. -/
def Obligations.JournalReadStartsBurst : Prop :=
  (∀ (tag : Byte) (f : JournalReadFields) (auto : Bool) (s : State), s.ready → f.count ≤ 64 →
    f.autoAck = auto.toNat →
    let j := s.journal
    let tail := (j.records.head?.map JournalRecord.seq).getD 0
    ∃ start skipped intended,
      exec (.journalRead tag f) s =
        ({ s with burst := some { next := start, count := f.count, auto := auto, started := false, sent := 0
                                  last := 0, ending := none } } : State).answers 0x28 tag
          ⟨.accepted, .journalStart start skipped intended⟩
      ∧ (f.start = 0 → j.records ≠ [] → start = tail ∧ skipped = false)
      ∧ (f.start = 0 → j.records = [] → start = nextSeq j.lastSeq ∧ skipped = false)
      ∧ (f.start ≠ 0 → (∃ r ∈ j.records, r.seq = f.start) → start = f.start ∧ skipped = false)
      ∧ (f.start ≠ 0 → (∀ r ∈ j.records, r.seq ≠ f.start) → j.issued f.start = true → j.records ≠ [] →
          start = tail ∧ skipped = true)
      ∧ (f.start ≠ 0 → j.records = [] → j.issued f.start = true →
          start = nextSeq j.lastSeq ∧ skipped = true)
      ∧ (f.start ≠ 0 → (∀ r ∈ j.records, r.seq ≠ f.start) → j.issued f.start = false →
          start = f.start ∧ skipped = false)
      ∧ ((∀ r ∈ j.records, r.seq ≠ start) → intended = 0)
      ∧ (∀ before r after, j.records = before ++ r :: after → r.seq = start → (∀ x ∈ before, x.seq ≠ start) →
          intended = if f.count = 0 then after.length + 1 else min f.count (after.length + 1)))
  ∧ (∀ (j : Journal) (n : Nat), j.lastSeq ≤ 4294967295 → (j.issued n = true ↔ j.wasIssued n))
  ∧ (∀ (tag : Byte) (f : JournalReadFields) (s : State), s.ready → 64 < f.count ∨ 1 < f.autoAck →
    exec (.journalRead tag f) s = s.answers 0x28 tag ⟨.range, .empty⟩)
  ∧ (∀ (tag : Byte) (s : State), s.ready → exec (.journalStop tag) s = s.answers 0x29 tag ⟨.accepted, .empty⟩)

/-- 06 R142. -/
def Obligations.JournalAckReleases : Prop :=
  ∀ (tag : Byte) (n : Nat) (s : State), s.ready →
    let tailOf := fun rs : List JournalRecord => (rs.head?.map JournalRecord.seq).getD 0
    (∀ before r after, s.journal.records = before ++ r :: after → r.seq = n → (∀ x ∈ before, x.seq ≠ n) →
      exec (.journalAck tag n) s =
        ({ s with journal := { s.journal with records := after } } : State).answers 0x2A tag
          ⟨.accepted, .journalAcked (before.length + 1) after.length (tailOf after)
            (2048 - after.length - s.journal.reserved)⟩)
    ∧ ((∀ r ∈ s.journal.records, r.seq ≠ n) → s.journal.issued n = true →
      exec (.journalAck tag n) s = s.answers 0x2A tag
        ⟨.accepted, .journalAcked 0 s.journal.records.length (tailOf s.journal.records)
          (2048 - s.journal.records.length - s.journal.reserved)⟩)
    ∧ ((∀ r ∈ s.journal.records, r.seq ≠ n) → s.journal.issued n = false →
      exec (.journalAck tag n) s = s.answers 0x2A tag ⟨.range, .empty⟩)

/-! ## The bay -/

/-- 07 R167, R168, R170; 03 R69. The accepted reply carries the bay state as R170 says (log 18). -/
def Obligations.BayArmAndDisarm : Prop :=
  (∀ (tag : Byte) (s : State), s.ready →
    (s.shutdown.bay ≠ .disarmed → exec (.bayArm tag) s = s.answers 0x30 tag ⟨.bayState, .empty⟩)
    ∧ (s.shutdown.bay = .disarmed → s.shutdown.sumps ≠ 0 ∨ s.shutdown.press ≠ .noPress →
      exec (.bayArm tag) s = s.answers 0x30 tag
        ⟨.conditionPresent, .armBlocked s.shutdown.sumps (decide (s.shutdown.press ≠ .noPress))⟩)
    ∧ (s.shutdown.bay = .disarmed → s.shutdown.sumps = 0 → s.shutdown.press = .noPress →
      exec (.bayArm tag) s =
        ({ s with shutdown := { s.shutdown with bay := .armed } } : State).answers 0x30 tag
          ⟨.accepted, .bay .armed⟩))
  ∧ (∀ (tag : Byte) (s : State), s.ready →
    let atRest := fun i => (s.lane i).state = .idle ∨ (s.lane i).state = .done
    (s.shutdown.bay ≠ .armed → exec (.bayDisarm tag) s = s.answers 0x31 tag ⟨.bayState, .empty⟩)
    ∧ (s.shutdown.bay = .armed → (∃ i, ¬ atRest i) ∨ (∃ t, (s.tank t).inlet = true) →
      ∃ lanes tanks : Mask,
        exec (.bayDisarm tag) s = s.answers 0x31 tag ⟨.busy, .masks lanes tanks⟩
        ∧ (∀ i : Fin 8, lanes.getLsbD i.val = true ↔ ¬ atRest i)
        ∧ (∀ t : Fin 8, tanks.getLsbD t.val = (s.tank t).inlet))
    ∧ (s.shutdown.bay = .armed → (∀ i, atRest i) → (∀ t, (s.tank t).inlet = false) →
      ∃ queue, (s.queueLawful → queue = [])
        ∧ exec (.bayDisarm tag) s =
          ({ s with
              shutdown := { s.shutdown with bay := .disarmed }
              headers := Vector.ofFn fun h => (s.header h).barred
              slot := { s.slot with queue := queue }
              lanes := Vector.ofFn fun i =>
                if (s.lane i).record.product = none then s.lane i else { s.lane i with arbiterGrant := .hold } }
            : State).answers 0x31 tag ⟨.accepted, .bay .disarmed⟩))

/-- 07 R148, R151, R154 to R158; 01 R31; 03 R69; 04 R99. The order inside the entry, the reported set of lanes in
CLOSING, a poll still being sent, when a queue entry is dropped and the stage of a delivery closed before it ran any
are the model's, logs 13, 33, 34 and 37. The level and the press as the rows' operand and gate, so that a level
already held and a press not PRESSED do nothing, and timers counted from the clock second, are the model's, logs 1, 21
and 4. -/
def Obligations.CausesAreRaised : Prop :=
  (∀ (tag : Byte) (s : State), s.ready → s.busLawful →
    ∃ u : State, s.raises u .command 0
      ∧ exec (.bayShutdown tag) s = u.answers 0x32 tag
          ⟨.accepted, .shutdownTaken u.shutdown.bay u.shutdown.stack.length
            (decide (s.shutdown.bay = .armed ∨ s.shutdown.bay = .disarmed))⟩)
  ∧ (∀ (n : Fin 4) (s : State), s.power = .running → s.busLawful →
    let bit : Mask := 1#8 <<< n.val
    (s.shutdown.sumps.getLsbD n.val = false →
      ∃ u : State, exec (.sumpActive n true) s = u.settled
        ∧ ({ s with shutdown := { s.shutdown with sumps := s.shutdown.sumps ||| bit } } : State).raises u .sump bit)
    ∧ (s.shutdown.sumps.getLsbD n.val = true → exec (.sumpActive n true) s = s.settled)
    ∧ (s.shutdown.sumps.getLsbD n.val = true →
      exec (.sumpActive n false) s =
        ({ s with shutdown := { s.shutdown with sumps := s.shutdown.sumps &&& ~~~bit } } : State).settled)
    ∧ (s.shutdown.sumps.getLsbD n.val = false → exec (.sumpActive n false) s = s.settled))
  ∧ (∀ s : State, s.power = .running → s.busLawful →
    (s.shutdown.press = .pressed →
      ∃ u : State, exec .longPress s = u.settled
        ∧ ({ s with shutdown := { s.shutdown with press := .long } } : State).raises u .estop 0)
    ∧ (s.shutdown.press ≠ .pressed → exec .longPress s = s.settled))

/-- 07 R152, R156, R159 to R161; 01 R25, R28. Reports sent and not taken stand in State, and the order in shutdown
entry, a poll still being sent there, when a queue entry is dropped and the stage of a delivery closed before it ran
any, are the model's, logs 1, 13, 33, 34 and 37. Timers counted from the clock second are the model's, log 4. -/
def Obligations.LaneReportsTaken : Prop :=
  (∀ (i : Fin 8) (reason : LockoutReason) (s : State), s.power = .running → s.busLawful →
    let reports := fun l : Lane => if reason = .valveHeld then l.valveReports else l.creepReports
    let row := if reason = .valveHeld then Instr.valveFailureReport i else Instr.creepReport i
    let taken : Lane := if reason = .valveHeld then { s.lane i with valveReports := (s.lane i).valveReports - 1 }
      else { s.lane i with creepReports := (s.lane i).creepReports - 1 }
    (reports (s.lane i) = 0 → exec row s = s.settled)
    ∧ (0 < reports (s.lane i) → s.shutdown.bay = .shutting ∨ s.shutdown.bay = .shut →
      exec row s =
        ({ s with
            lanes := s.lanes.set i taken
            shutdown := { s.shutdown with bay := .lockout, lockout := some ⟨i, reason, s.period.clock⟩
                                          lockoutFlag := true }
            link := s.link.offer ⟨s.period.clock, .lockout i reason s.shutdown.stack.length
              (s.shutdown.stack.head?.map CauseRecord.kind)⟩ } : State).settled)
    ∧ (0 < reports (s.lane i) → s.shutdown.bay ≠ .shutting → s.shutdown.bay ≠ .shut →
      ∃ u : State, exec row s = u.settled
        ∧ ({ s with lanes := s.lanes.set i taken } : State).raises u .runaway (oneMember i)))
  ∧ (∀ (i : Fin 8) (s : State), s.power = .running →
    ((s.lane i).leaveReport = false → exec (.closingReport i) s = s.settled)
    ∧ ((s.lane i).leaveReport = true →
      exec (.closingReport i) s =
        ({ s with
            lanes := s.lanes.set i { s.lane i with leaveReport := false }
            shutdown := { s.shutdown with
              closing := s.shutdown.closing &&& ~~~(oneMember i)
              bay := if s.shutdown.bay = .shutting ∧ s.shutdown.closing &&& ~~~(oneMember i) = 0 then .shut
                     else s.shutdown.bay } } : State).settled))

/-- 07 R149, R150, R162, R163, R169; 01 R30; 03 R63, R66. The length operand and the gates of the rows are the
model's, logs 1 and 21; so are the order of the lane stop, every lane first and then each header that had demand, with
the set of lanes in CLOSING, log 13, and the stage of a delivery closed before it ran any, log 37. Timers counted from
the clock second, and the low-band cap held in LOW-BAND and not in CUT-OFF, are the model's, logs 4 and 24. -/
def Obligations.PressesAndKeyTurns : Prop :=
  ∀ s : State, s.power = .running →
    (s.shutdown.press = .noPress →
      exec .pressBegin s = ({ s with shutdown := { s.shutdown with press := .pressed } } : State).settled)
    ∧ (s.shutdown.press ≠ .noPress → exec .pressBegin s = s.settled)
    ∧ (∀ ms, s.shutdown.press = .noPress → exec (.pressRelease ms) s = s.settled)
    ∧ (∀ ms, s.shutdown.press = .long ∨ (s.shutdown.press = .pressed ∧ s.shutdown.bay ≠ .armed) →
      exec (.pressRelease ms) s = ({ s with shutdown := { s.shutdown with press := .noPress } } : State).settled)
    ∧ (∀ ms, s.shutdown.press = .pressed → s.shutdown.bay = .armed →
      ∃ slot : StartSlot,
        (s.slot.queue.Nodup → slot =
          { s.slot with queue := s.slot.queue.filter fun h =>
              !(s.headerDemand h && (s.header h).pump == .queued) })
        ∧ exec (.pressRelease ms) s =
          ({ s with
              lanes := Vector.ofFn fun i =>
                let l : Lane :=
                  if (s.lane i).record.product.any s.headerDemand then { s.lane i with arbiterGrant := .hold }
                  else s.lane i
                match l.state with
                | .authorised => l.withdrawn
                | .waiting | .flowing | .trimming => l.closingOn .laneStop s.elapsed
                | .idle | .closing | .done => l
              headers := Vector.ofFn fun h =>
                if s.headerDemand h then (s.header h).demandEnded (s.product h) s.elapsed else s.header h
              slot := slot
              journal := { s.journal with reserved := s.journal.reserved - s.authorisedLanes }
              shutdown := { s.shutdown with
                press := .noPress, laneStops := min 65535 (s.shutdown.laneStops + 1)
                closing := s.shutdown.closing ||| maskOf (fun i => (s.lane i).state.demands) }
              link := s.linkRaising [.laneStop ms (maskOf fun i =>
                (s.lane i).state == .authorised || (s.lane i).state.demands)] } : State).settled)
    ∧ exec .keySeenHigh s = ({ s with shutdown := { s.shutdown with keySeenHigh := true } } : State).settled
    ∧ (s.shutdown.keySeenHigh = true → s.shutdown.bay = .lockout →
      exec .keyTurn s =
        ({ s with shutdown := { s.shutdown with
            keySeenHigh := false, stack := [], lockout := none, bay := .disarmed } } : State).settled)
    ∧ (s.shutdown.keySeenHigh = true → s.shutdown.bay ≠ .lockout →
      exec .keyTurn s = ({ s with shutdown := { s.shutdown with keySeenHigh := false } } : State).settled)
    ∧ (s.shutdown.keySeenHigh = false → exec .keyTurn s = s.settled)

/-- 07 R164, R165, R166. That the no members of ESTOP are a mask of 0 is the model's, log 29. -/
def Obligations.BayClearPopsTop : Prop :=
  (∀ (tag : Byte) (n : Nat) (s : State), s.ready → 6 < n →
    exec (.bayClear tag n) s = s.answers 0x33 tag ⟨.range, .empty⟩)
  ∧ ∀ (tag : Byte) (kind : CauseKind) (s : State), s.ready →
    (s.shutdown.bay ≠ .shut → exec (.bayClear tag kind.code) s = s.answers 0x33 tag ⟨.bayState, .empty⟩)
    ∧ (∀ top rest, s.shutdown.bay = .shut → s.shutdown.stack = top :: rest →
      let members : Mask → Prop := fun found => ∀ i : Fin 8, found.getLsbD i.val = true ↔
        top.detail.getLsbD i.val = true
          ∧ ((top.kind = .sump ∧ s.shutdown.sumps.getLsbD i.val = true)
            ∨ (top.kind = .overfill ∧ ∃ h, (s.tank i).held = some h ∧ (s.tank i).record.highHigh ≤ h.level)
            ∨ (top.kind = .runaway ∧ (s.lane i).quietRun < 5))
      (top.kind ≠ kind →
        exec (.bayClear tag kind.code) s = s.answers 0x33 tag ⟨.wrongRecord, .topKind (some top.kind)⟩)
      ∧ (top.kind = kind → ∃ found, members found
        ∧ (found ≠ 0 ∨ (kind = .estop ∧ s.shutdown.press ≠ .noPress) →
          exec (.bayClear tag kind.code) s = s.answers 0x33 tag ⟨.conditionPresent, .members found⟩)
        ∧ (found = 0 → kind ≠ .estop ∨ s.shutdown.press = .noPress →
          exec (.bayClear tag kind.code) s =
            ({ s with shutdown := { s.shutdown with
                stack := rest, bay := if rest = [] then .disarmed else .shut } } : State).answers 0x33 tag
              ⟨.accepted, .cleared kind rest.length (rest.head?.map CauseRecord.kind)
                (if rest = [] then .disarmed else .shut)⟩)))

/-! ## Headers -/

/-- 03 R68. -/
def Obligations.PumpResetStops : Prop :=
  (∀ (tag : Byte) (n : Nat) (s : State), s.ready → 5 < n →
    exec (.pumpReset tag n) s = s.answers 0x34 tag ⟨.range, .empty⟩)
  ∧ ∀ (tag : Byte) (h : Fin 6) (s : State), s.ready →
    ((s.header h).pump ≠ .failed →
      exec (.pumpReset tag h.val) s = s.answers 0x34 tag ⟨.accepted, .pump (s.header h).pump⟩)
    ∧ ((s.header h).pump = .failed →
      exec (.pumpReset tag h.val) s =
        ({ s with
            headers := s.headers.set h ((s.header h).inState .stopped none none)
            lanes := Vector.ofFn fun i =>
              if (s.lane i).record.product = some h then { s.lane i with arbiterGrant := .hold } else s.lane i }
          : State).answers 0x34 tag ⟨.accepted, .pump .stopped⟩)

/-- 03 R62 to R67, R70 to R73. The gates of the expiry rows and of STAGGER_ELAPSED are the model's, logs 5 and 28.
PROVE's level as the row's operand, so that a level already held does nothing, timers counted from the clock second,
and the low-band cap held in LOW-BAND and not in CUT-OFF, are the model's, logs 1, 21, 4 and 24. -/
def Obligations.PumpsProveAndFail : Prop :=
  (∀ (h : Fin 6) (reason : PumpReason) (s : State), s.power = .running →
    let row := if reason = .proveTimeout then Instr.provingTimerExpiry h else Instr.proveChange h false
    (reason = .proveTimeout → (s.header h).pump = .starting ∧ (s.header h).proving ≠ none) →
    (reason = .proveLost → ((s.header h).pump = .running ∨ (s.header h).pump = .runon)
      ∧ (s.header h).prove = true) →
    exec row s =
      ({ s with
          headers := s.headers.set h
            { pump := .failed, proving := none, runOn := none
              prove := if reason = .proveLost then false else (s.header h).prove }
          lanes := Vector.ofFn fun i =>
            if (s.lane i).record.product = some h then
              { s.lane i with arbiterGrant := .hold
                              pumpEnding := (s.lane i).pumpEnding || (s.lane i).state.demands }
            else s.lane i
          link := s.linkRaising [.pumpFail h reason] } : State).settled)
  ∧ (∀ (h : Fin 6) (s : State), s.power = .running →
    ((s.header h).pump ≠ .starting ∨ (s.header h).proving = none → exec (.provingTimerExpiry h) s = s.settled)
    ∧ ((s.header h).pump ≠ .runon ∨ (s.header h).runOn = none → exec (.runonExpiry h) s = s.settled))
  ∧ (∀ (h : Fin 6) (active : Bool) (s : State), s.power = .running →
    ((s.header h).prove = active → exec (.proveChange h active) s = s.settled)
    ∧ ((s.header h).prove ≠ active →
      (s.header h).pump = .stopped ∨ (s.header h).pump = .queued ∨ (s.header h).pump = .failed
        ∨ ((s.header h).pump = .starting ∧ active = false)
        ∨ (((s.header h).pump = .running ∨ (s.header h).pump = .runon) ∧ active = true) →
      exec (.proveChange h active) s =
        ({ s with headers := s.headers.set h { s.header h with prove := active } } : State).settled))
  ∧ (∀ (h : Fin 6) (s : State), s.power = .running → (s.header h).pump = .starting → (s.header h).prove = false →
    let p := s.product h
    let proved : Header :=
      if s.headerDemand h then { pump := .running, proving := none, runOn := none, prove := true }
      else if p.runOn = 0 then { pump := .stopped, proving := none, runOn := none, prove := true }
      else { pump := .runon, proving := none, runOn := some ⟨s.elapsed, p.runOn⟩, prove := true }
    ∃ u : State, exec (.proveChange h true) s = u.settled ∧ s.passOf u h
      ∧ u = { s with headers := s.headers.set h proved, lanes := u.lanes })
  ∧ (∀ (h : Fin 6) (s : State), s.power = .running → (s.header h).pump = .runon → (s.header h).runOn ≠ none →
    ∃ u : State, exec (.runonExpiry h) s = u.settled ∧ s.passOf u h
      ∧ u = { s with headers := s.headers.set h ((s.header h).inState .stopped none none), lanes := u.lanes })
  ∧ (∀ (h : Fin 6) (rest : List (Fin 6)) (s : State), s.power = .running → s.slot.queue = h :: rest → h ∉ rest →
    s.settings.stagger ≠ 0 → (s.header h).prove = false →
    ∃ u : State, exec .staggerElapsed s = u.settled ∧ s.passOf u h
      ∧ u = { s with
          headers := s.headers.set h ((s.header h).inState .starting (some ⟨s.elapsed, 10⟩) none)
          slot := { queue := rest, free := false, lastStart := s.elapsed }, lanes := u.lanes })
  ∧ (∀ s : State, s.power = .running → s.slot.queue = [] →
    exec .staggerElapsed s = ({ s with slot := { s.slot with free := true } } : State).settled)
  ∧ (∀ s : State, s.power = .running → s.slot.queue.Nodup →
    ∃ u : State, exec .staggerElapsed s = u.settled ∧ s.headsStarted u true)

/-- 01 R15, R16, R33; 03 R70, R71, R73. That the row takes the grant as it now stands is the model's, log 1. The
low-band cap held in LOW-BAND and not in CUT-OFF is the model's, log 24. -/
def Obligations.GrantTakenMovesLane : Prop :=
  (∀ (i : Fin 8) (s : State), s.power = .running →
    let l := s.lane i
    let g := l.arbiterGrant
    (l.state = .waiting → g ≠ .hold →
      exec (.grantTaken i) s =
        ({ s with
            lanes := s.lanes.set i
              { l with state := if l.stage = some .trim then .trimming else .flowing, rates := [], noFlowRun := 0
                       hoseCount := 0, grant := g, delivery := { l.delivery with flowNotified := true } }
            link := if l.delivery.flowNotified = false ∧ s.settings.maskLevel < 2 then
                s.link.offer ⟨s.period.clock, .laneFlow i l.delivery.machine⟩ else s.link } : State).settled)
    ∧ (l.state = .waiting → g = .hold →
      exec (.grantTaken i) s = ({ s with lanes := s.lanes.set i { l with grant := .hold } } : State).settled)
    ∧ (l.state = .flowing ∨ l.state = .trimming → g = .hold →
      exec (.grantTaken i) s =
        ({ s with
            lanes := s.lanes.set i
              { l with state := .waiting, grant := .hold, delivery := { l.delivery with lastRun := l.stage } } }
          : State).settled)
    ∧ (l.state = .flowing ∨ l.state = .trimming → g ≠ .hold →
      exec (.grantTaken i) s = ({ s with lanes := s.lanes.set i { l with grant := g } } : State).settled)
    ∧ (l.state.demands = false →
      exec (.grantTaken i) s = ({ s with lanes := s.lanes.set i { l with grant := g } } : State).settled))
  ∧ ∀ (h : Fin 6) (s : State),
    s.passOf (s.grantPass h) h ∧ s.grantPass h = { s with lanes := (s.grantPass h).lanes }

/-! ## The lane's own events -/

/-- 01 R13, R23; 03 R62 to R66, R70 to R72. That the demand appears before the exceptions are tested, and the stage of
a delivery closed before it ran any, are the model's, logs 11 and 37. That a lift of a nozzle already OUT does
nothing, timers counted from the clock second, and the low-band cap held in LOW-BAND and not in CUT-OFF, are the
model's, logs 1, 4 and 24. That a lane whose PUMP ending is not yet taken still counts as demand of a header reset
from FAILED, so that the lift then only makes a pass, is the model's, log 40. -/
def Obligations.LiftStartsDelivery : Prop :=
  ∀ (i : Fin 8) (s : State), s.power = .running →
    ((s.lane i).nozzleOut = true → exec (.nozzleLift i) s = s.settled)
    ∧ ((s.lane i).nozzleOut = false → (s.lane i).state ≠ .authorised →
      exec (.nozzleLift i) s =
        ({ s with lanes := s.lanes.set i { s.lane i with nozzleOut := true } } : State).settled)
    ∧ ∀ p, (s.lane i).nozzleOut = false → (s.lane i).state = .authorised → (s.lane i).record.product = some p →
      let lifted : Lane :=
        { s.lane i with
          nozzleOut := true, state := .waiting, stage := some .prime, authTimer := none
          maxOpen := some ⟨s.elapsed, (s.product p).maxOpen * 60⟩, rates := [], grossResidue := 0, netResidue := 0
          noFlowRun := 0, quietRun := 0, hoseCount := 0, creepCount := 0, creepTimer := some ⟨s.elapsed, 60⟩ }
      let atCutOff := ∃ t h, s.feedTank p = some t ∧ (s.tank t).held = some h
        ∧ h.net - (s.tank t).sincePoll ≤ ((s.tank t).record.cutOff : Int)
      let w : State := { s with lanes := s.lanes.set i lifted }
      ((s.header p).pump = .failed →
        ∃ u : State, exec (.nozzleLift i) s = u.settled ∧ w.entersClosing u i .pump)
      ∧ ((s.header p).pump ≠ .failed → atCutOff →
        ∃ v u : State, exec (.nozzleLift i) s = u.settled ∧ w.demandShows v i p ∧ v.entersClosing u i .tankLow)
      ∧ ((s.header p).pump ≠ .failed → ¬ atCutOff →
        ∃ u : State, exec (.nozzleLift i) s = u.settled ∧ w.demandShows u i p)

/-- 01 R7, R13, R21, R22, R23, R26, R33. The marks, the gates and the stage of a delivery closed before it ran any are
the model's, logs 1, 5 and 37. Timers counted from the clock second, and the low-band cap held in LOW-BAND and not in
CUT-OFF, are the model's, logs 4 and 24. -/
def Obligations.EndingsCloseLane : Prop :=
  ∀ (i : Fin 8) (s : State), s.power = .running →
    let l := s.lane i
    (l.nozzleOut = false → exec (.nozzleHangup i) s = s.settled)
    ∧ (l.nozzleOut = true → l.state.demands = true →
      ∃ u : State, exec (.nozzleHangup i) s = u.settled
        ∧ ({ s with lanes := s.lanes.set i { l with nozzleOut := false } } : State).entersClosing u i .hangup)
    ∧ (l.nozzleOut = true → l.state = .done →
      exec (.nozzleHangup i) s =
        ({ s with
          lanes := s.lanes.set i
            { l with nozzleOut := false, state := .idle, stage := none, delivery := {}, authTimer := none } }
          : State).settled)
    ∧ (l.nozzleOut = true → l.state = .idle ∨ l.state = .authorised ∨ l.state = .closing →
      exec (.nozzleHangup i) s = ({ s with lanes := s.lanes.set i { l with nozzleOut := false } } : State).settled)
    ∧ (l.maxOpen ≠ none → l.state.demands = true →
      ∃ u : State, exec (.maxOpenExpiry i) s = u.settled ∧ s.entersClosing u i .time)
    ∧ (l.maxOpen = none ∨ l.state.demands = false → exec (.maxOpenExpiry i) s = s.settled)
    ∧ (l.pumpEnding = true → l.state.demands = true →
      ∃ u : State, exec (.pumpEnding i) s = u.settled
        ∧ ({ s with lanes := s.lanes.set i { l with pumpEnding := false } } : State).entersClosing u i .pump)
    ∧ (l.pumpEnding = false ∨ l.state.demands = false →
      exec (.pumpEnding i) s = ({ s with lanes := s.lanes.set i { l with pumpEnding := false } } : State).settled)
    ∧ (l.tankLowEnding = true → l.state.demands = true →
      ∃ u : State, exec (.tankLowEnding i) s = u.settled
        ∧ ({ s with lanes := s.lanes.set i { l with tankLowEnding := false } } : State).entersClosing u i .tankLow)
    ∧ (l.tankLowEnding = false ∨ l.state.demands = false →
      exec (.tankLowEnding i) s =
        ({ s with lanes := s.lanes.set i { l with tankLowEnding := false } } : State).settled)
    ∧ (l.state = .authorised → l.authTimer ≠ none →
      exec (.authorisationExpiry i) s =
        ({ s with
            lanes := s.lanes.set i { l with state := .idle, stage := none, delivery := {}, authTimer := none }
            journal := { s.journal with reserved := s.journal.reserved - 1 }
            link := if s.settings.maskLevel < 1 then
                s.link.offer ⟨s.period.clock, .authExpired i l.delivery.machine⟩ else s.link } : State).settled)
    ∧ (l.state ≠ .authorised ∨ l.authTimer = none → exec (.authorisationExpiry i) s = s.settled)

/-- 01 R27, R28; 02 R34, R35. That the threshold is tested at each creep sample is the model's, log 27. That the
window's expiry does nothing with no window running, and that the window counts from the clock second, are the
model's, logs 5 and 4. That a threshold lowered to the standing count or below is met at the next such sample, even
one with no pulses, is the model's, log 41. -/
def Obligations.PulsesAndCreep : Prop :=
  ∀ (i : Fin 8) (s : State), s.power = .running →
    let l := s.lane i
    let read : Lane :=
      { l with
        pulses := 0, quietRun := if l.pulses = 0 then min 5 (l.quietRun + 1) else 0
        noFlowRun := if l.pulses = 0 then l.noFlowRun else 0 }
    exec (.pulse i) s =
      ({ s with lanes := s.lanes.set i { l with pulses := min 65535 (l.pulses + 1) } } : State).settled
    ∧ (l.state = .idle ∨ l.state = .authorised ∨ l.state = .done →
      (l.record.product = none → exec (.sample i) s = ({ s with lanes := s.lanes.set i read } : State).settled)
      ∧ ∀ p, l.record.product = some p →
        let threshold := max 1 ((s.product p).creepVolume * l.record.kFactor / 100)
        (l.creepCount + l.pulses < threshold →
          exec (.sample i) s =
            ({ s with lanes := s.lanes.set i { read with creepCount := l.creepCount + l.pulses } }
              : State).settled)
        ∧ (threshold ≤ l.creepCount + l.pulses →
          exec (.sample i) s =
            ({ s with
          lanes := s.lanes.set i
                { read with creepCount := 0, creepReports := l.creepReports + 1
                            creepTimer := some ⟨s.elapsed, 60⟩ } } : State).settled))
    ∧ (l.creepTimer = none → exec (.creepWindowExpiry i) s = s.settled)
    ∧ (∀ p, l.record.product = some p → l.creepTimer ≠ none →
      exec (.creepWindowExpiry i) s =
        ({ s with lanes := s.lanes.set i { l with creepCount := 0, creepTimer := some ⟨s.elapsed, 60⟩ } }
          : State).settled)

/-- 02 R39. -/
def Obligations.InterpolatorIsLinear : Prop :=
  ∀ (points : List (Nat × Int)) (x : Nat), points.Pairwise (fun a b => a.1 < b.1) →
    (∀ p rest, points = p :: rest → x ≤ p.1 → interpolate points x = p.2)
    ∧ (∀ before p, points = before ++ [p] → p.1 ≤ x → interpolate points x = p.2)
    ∧ (∀ before p q after, points = before ++ p :: q :: after → p.1 ≤ x → x < q.1 →
      interpolate points x = p.2 + ((q.2 - p.2) * ((x : Int) - p.1)).tdiv ((q.1 : Int) - p.1)
      ∧ min p.2 q.2 ≤ interpolate points x ∧ interpolate points x ≤ max p.2 q.2)

/-- 02 R35 to R38, R40 to R42, R44, R49 to R53. A lane curve that is absent read as no points is the model's, log 9.
-/
def Obligations.ResiduesAreExact : Prop :=
  ∀ (s : State) (i : Fin 8) (n : Nat),
    let l := s.lane i
    let k := l.record.kFactor
    let m := s.metering i n
    let temperature := max (-400) (min 600 (s.temperatureOf i))
    let g := n * 100 * (1000000 + l.correction m.rate).toNat
    let factor := (1000000 - ((s.laneAlpha i : Int) * (temperature - 150)).tdiv 10).toNat
    (n = 0 → m.gross = 0 ∧ m.net = 0 ∧ m.grossResidue = l.grossResidue ∧ m.netResidue = l.netResidue
      ∧ m.t10 = none ∧ m.flags = {})
    ∧ (n ≠ 0 → 0 < k →
      m.gross * (k * 1000000) + m.grossResidue = l.grossResidue + g ∧ m.grossResidue < k * 1000000
      ∧ m.net * (k * 1000000000000) + m.netResidue = l.netResidue + g * factor
      ∧ m.netResidue < k * 1000000000000 ∧ m.t10 = some temperature)
    ∧ (n ≠ 0 → m.flags =
        { saturated := n == 65535, tempClamped := temperature != s.temperatureOf i
          tempHeld := (s.laneTank i).any fun t => (s.tank t).status != .good })
    ∧ (l.rates.length < l.record.window → m.rates = l.rates ++ [n])
    ∧ (l.rates.length = l.record.window → 0 < l.record.window → m.rates = l.rates.drop 1 ++ [n])
    ∧ m.rate = m.rates.sum * 3000 / (k * m.rates.length)
    ∧ s.laneAlpha i = ((l.record.product.map fun p => (s.product p).alpha).getD 0)
    ∧ (let curve : List CurvePoint := match l.record.curve with
        | .lane => l.curve.getD []
        | .template 0 => [⟨1, 0⟩, ⟨30000, 0⟩]
        | .template 1 => [⟨500, 3000⟩, ⟨2000, 900⟩, ⟨5000, 200⟩, ⟨9000, -150⟩, ⟨12000, -400⟩]
        | .template 2 => [⟨1000, -4500⟩, ⟨3000, -1200⟩, ⟨6000, 0⟩, ⟨10000, 350⟩, ⟨14000, 600⟩]
        | .template 3 => [⟨20, 6000⟩, ⟨80, 2000⟩, ⟨200, 500⟩, ⟨400, 0⟩, ⟨700, -300⟩]
        | .template 4 => [⟨20, 2500⟩, ⟨80, 800⟩, ⟨200, 0⟩, ⟨400, -600⟩, ⟨700, -1200⟩]
        | .template 5 => [⟨30, 1500⟩, ⟨120, 300⟩, ⟨300, 0⟩, ⟨600, -200⟩, ⟨900, -500⟩]
      l.correction m.rate = interpolate
        (curve.map fun p => (p.rate, max (-50000) (min 50000 (p.correction + l.record.spanTrim)))) m.rate)

/-- 01 R17 to R20, R29; 02 R35, R36, R49, R50, R56; 04 R88, R90 to R92; 08 R180. The order of the tests and the debit
and of the shutdown entry, one grant pass at every changed stage, also from PRIME to TRIM, and the stage of a delivery
closed before it ran any are the model's, logs 12, 13, 23 and 37; in the entry a poll still being sent and a dropped
queue entry, logs 33 and 34. The product that TANK-LOW carries, the endings as marks, timers counted from the clock
second, exact running sums, the low-band cap held in LOW-BAND and not in CUT-OFF, and a GAUGE-LOST with no reading
held are the model's, logs 39, 1, 4, 20, 24 and 9. -/
def Obligations.MeteredSampleAdds : Prop :=
  ∀ (i : Fin 8) (s : State) (p : Fin 6), s.power = .running → s.busLawful → (s.lane i).record.product = some p →
    (s.lane i).state.demands = true
      ∨ ((s.lane i).state = .closing ∧ ((s.lane i).pulses ≠ 0 ∨ (s.lane i).quietRun < 4)) →
    let l := s.lane i
    let q := s.product p
    let n := l.pulses
    let m := s.metering i n
    let d := l.delivery
    let used : State :=
      match (if n = 0 then none else s.laneTank i) with
      | none => s
      | some t => { s with tanks := s.tanks.set t (s.tank t).used, link := s.linkRaising ((s.tank t).useNotice t) }
    let sampled : Lane :=
      { l with
        pulses := 0, quietRun := if n = 0 then min 5 (l.quietRun + 1) else 0, rates := m.rates
        noFlowRun :=
          if n ≠ 0 then 0 else if l.state = .flowing ∨ l.state = .trimming then l.noFlowRun + 1 else l.noFlowRun
        grossResidue := m.grossResidue, netResidue := m.netResidue
        delivery :=
          { d with
            gross := d.gross + m.gross, net := d.net + m.net, peak := max d.peak m.rate, rate := m.rate
            firstFlow := if n ≠ 0 ∧ d.firstFlow = none then some s.period.clock else d.firstFlow
            lastT10 := if n = 0 then d.lastT10 else m.t10
            flags :=
              { d.flags with
                saturated := d.flags.saturated || m.flags.saturated
                tempHeld := d.flags.tempHeld || m.flags.tempHeld
                tempClamped := d.flags.tempClamped || m.flags.tempClamped } }
        totals :=
          { l.totals with
            gross := min 281474976710655 (l.totals.gross + m.gross)
            net := min 281474976710655 (l.totals.net + m.net), peak := max l.totals.peak m.rate } }
    let with' := fun x : Lane => ({ used with lanes := used.lanes.set i x } : State)
    let remaining := d.preset - (d.gross + m.gross)
    let stage := if l.stage = some .prime ∧ q.primeVolume ≤ d.gross + m.gross then some Stage.main else l.stage
    let trims := remaining ≤ q.trimVolume ∧ stage ≠ some .trim
    let tested : Lane :=
      { sampled with
        stage := if trims then some .trim else stage
        state := if trims ∧ l.state = .flowing then .trimming else l.state }
    let noFlow := l.state ≠ .waiting ∧ 5 * q.noFlow ≤ sampled.noFlowRun
    ∃ w v u : State,
      (l.state = .closing → w = with' sampled)
      ∧ (l.state ≠ .closing → remaining ≤ q.closeAhead →
        (with' { sampled with stage := stage }).entersClosing w i .preset)
      ∧ (l.state ≠ .closing → q.closeAhead < remaining →
        (noFlow → (with' tested).entersClosing w i .noflow)
        ∧ (¬ noFlow → tested.stage = l.stage → w = with' tested)
        ∧ (¬ noFlow → tested.stage ≠ l.stage →
          (with' tested).passOf w p ∧ w = { with' tested with lanes := w.lanes }))
      ∧ (let k := w.lane i
        let flows := k.state = .flowing ∨ k.state = .trimming
        let valveRate :=
          if k.state = .flowing ∧ k.stage = some .main ∧ k.grant = .full then q.fullRate else q.slowRate
        let hose := fun c : Nat => ({ w with lanes := w.lanes.set i { k with hoseCount := c } } : State)
        (¬ flows → v = w)
        ∧ (flows → m.rate * 4 ≤ valveRate * 5 → v = hose 0)
        ∧ (flows → valveRate * 5 < m.rate * 4 → k.hoseCount = 0 → v = hose 1)
        ∧ (flows → valveRate * 5 < m.rate * 4 → k.hoseCount ≠ 0 → (hose 0).raises v .hose (oneMember i)))
      ∧ (n = 0 ∨ s.laneTank i = none → u = v)
      ∧ (∀ t, n ≠ 0 → s.laneTank i = some t →
        let kv := v.tank t
        let debited : Tank :=
          ({ kv.booked (-m.net) with
              dispensed := kv.dispensed + m.net, sincePoll := kv.sincePoll + m.net
              periodDispensed := kv.periodDispensed + m.net } : Tank).banded
        v.lanesBanded u t kv.band
        ∧ u = { v with tanks := v.tanks.set t debited, lanes := u.lanes
                       link := v.linkRaising (debited.lowNotice t kv.band) })
      ∧ exec (.sample i) s = u.settled

/-- 01 R24, R25; 05 R116 to R120; 06 R130, R133, R134; 08 R180. The order inside the completion, the expiry's gate,
the untaken endings dropped at the commit and a commit with no product are the model's, logs 14, 5, 1 and 9. -/
def Obligations.CloseCommitsDelivery : Prop :=
  (∀ (i : Fin 8) (s : State) (cause : EndCause), s.power = .running → (s.lane i).state = .closing →
    (s.lane i).closeLimit ≠ none → (s.lane i).delivery.endCause = some cause →
    let c := s.committed i cause true (s.lane i).nozzleOut
    exec (.closeLimitExpiry i) s =
      ({ c with
        lanes := c.lanes.set i
          { c.lane i with leaveReport := true, valveReports := (s.lane i).valveReports + 1 } } : State).settled)
  ∧ (∀ (i : Fin 8) (s : State) (cause : EndCause), s.power = .running → (s.lane i).state = .closing →
    (s.lane i).delivery.endCause = some cause → (s.lane i).pulses = 0 → 4 ≤ (s.lane i).quietRun →
    let m := s.metering i 0
    let d := (s.lane i).delivery
    let sampled : Lane :=
      { s.lane i with
        pulses := 0, quietRun := 5, rates := m.rates
        totals :=
          { (s.lane i).totals with
            gross := min 281474976710655 (s.lane i).totals.gross
            net := min 281474976710655 (s.lane i).totals.net, peak := max (s.lane i).totals.peak m.rate }
        delivery := { d with peak := max d.peak m.rate, rate := m.rate } }
    let c := ({ s with lanes := s.lanes.set i sampled } : State).committed i cause false (s.lane i).nozzleOut
    exec (.sample i) s =
      ({ c with lanes := c.lanes.set i { c.lane i with leaveReport := true } } : State).settled)
  ∧ (∀ (i : Fin 8) (s : State), s.power = .running →
    (s.lane i).state ≠ .closing ∨ (s.lane i).closeLimit = none → exec (.closeLimitExpiry i) s = s.settled)

/-! ## Periods -/

/-- 08 R173 to R177, R179, R180, R182; 07 R169; 04 R88, R104. A boundary standing due until it is taken, and a next
boundary past the end of the clock, are the model's, logs 15 and 16. -/
def Obligations.PeriodCloses : Prop :=
  (∀ (tag : Byte) (s : State), s.ready →
    exec (.reportNow tag) s = (s.closedPeriod .request s.kindNow).answers 0x36 tag
      ⟨.accepted, .periods s.period.number ((s.period.number + 1) % 4294967296)⟩)
  ∧ (∀ (s : State) (kind : PeriodKind), s.power = .running → s.period.boundaryDue = some kind →
    exec .boundary s =
      (({ s with period := { s.period with boundaryDue := none } } : State).closedPeriod .boundary kind).settled)
  ∧ (∀ s : State, s.power = .running → s.period.boundaryDue = none → exec .boundary s = s.settled)
  ∧ (∀ k : Tank, k.report =
    { configured := k.configured, product := k.record.product, alarmClass := k.record.alarmClass
      opening := k.opening, receipts := k.periodReceipts, dispensed := k.periodDispensed, closing := k.estimate
      variance := k.report.variance, ppm := k.report.ppm, cls := k.report.cls
      flags :=
        if k.configured then
          { gaugeHeld := decide (k.status ≠ .good ∧ k.estimate ≠ none), lostDuring := k.lostDuring
            overfillStop := k.overfillStop, leak := k.leak, openedLate := k.openedLate
            receiptActive := decide (k.receipt ≠ none) }
        else {} }
    ∧ (k.configured = false ∨ k.status = .lost ∨ k.opening = none ∨ k.estimate = none →
      k.report.variance = none ∧ k.report.ppm = none ∧ k.report.cls = none))

/-- 08 R178. -/
def Obligations.VarianceOfTank : Prop :=
  ∀ (k : Tank) (o c : Int), k.configured = true → k.status ≠ .lost → k.opening = some o → k.estimate = some c →
    let v := c - (o + k.periodReceipts - k.periodDispensed)
    let base : Int := max (max (k.periodDispensed : Int) k.periodReceipts) 100000
    k.report.variance = some v
      ∧ ∃ ppm cls, k.report.ppm = some ppm ∧ k.report.cls = some cls
        ∧ (-base < v → v < base → ppm = (v * 1000000).tdiv base)
        ∧ (base ≤ v → ppm = 999999) ∧ (v ≤ -base → ppm = -999999)
        ∧ (ppm.natAbs ≤ 1000 → cls = .v0)
        ∧ (1001 ≤ ppm.natAbs → ppm.natAbs ≤ 2500 → cls = .v1)
        ∧ (2501 ≤ ppm.natAbs → ppm.natAbs ≤ 5000 → cls = .v2)
        ∧ (5001 ≤ ppm.natAbs → ppm.natAbs ≤ 10000 → cls = .v3)
        ∧ (10001 ≤ ppm.natAbs → ppm.natAbs ≤ 20000 → cls = .v4)
        ∧ (20001 ≤ ppm.natAbs → cls = .v5)

/-! ## The host link -/

/-- 09 R198, R195; 10 R204; 07 R170; 03 R75. The seconds left and the free-value counter are the model's, log 4. -/
def Obligations.StatusClearsFlags : Prop :=
  (∀ (tag : Byte) (n : Nat) (s : State), s.ready → 3 < n →
    exec (.status tag n) s = s.answers 0x35 tag ⟨.range, .empty⟩)
  ∧ ∀ (tag : Byte) (n : Nat) (s : State), s.ready → n ≤ 3 →
    ∃ summary part,
      exec (.status tag n) s =
        ({ s with link := { s.link with retentionLost := false, overflow := false, displaced := false }
                  freeCount := s.freeCount + 7 } : State).answers 0x35 tag ⟨.accepted, .status summary part⟩
      ∧ summary.clock = s.period.clock ∧ summary.clockSet = s.period.clockSet
      ∧ summary.period = s.period.number ∧ summary.bay = s.shutdown.bay
      ∧ summary.depth = s.shutdown.stack.length ∧ summary.retentionLost = s.link.retentionLost
      ∧ summary.overflow = s.link.overflow ∧ summary.displaced = s.link.displaced
      ∧ summary.notices = s.link.notices.length ∧ summary.maskLevel = s.settings.maskLevel
      ∧ summary.bursting = false ∧ summary.held = s.journal.records.length
      ∧ summary.reserved = s.journal.reserved
      ∧ summary.free = 2048 - s.journal.records.length - s.journal.reserved
      ∧ summary.tail = (s.journal.records.head?.map JournalRecord.seq).getD 0
      ∧ summary.head = (s.journal.records.getLast?.map JournalRecord.seq).getD 0
      ∧ summary.lastSeq = s.journal.lastSeq ∧ summary.wrapped = s.journal.wrapped
      ∧ (n = 0 → part = .summary)
      ∧ (n = 1 → part = .shutdown s.shutdown.stack s.shutdown.lockout s.shutdown.sumps s.shutdown.press
          (decide (s.shutdown.press ≠ .noPress)) s.shutdown.keySeenHigh
          (decide (s.shutdown.bay ≠ .disarmed ∧ s.shutdown.bay ≠ .armed)) s.shutdown.causes s.shutdown.laneStops
          s.shutdown.lockoutFlag)
      ∧ (n = 2 → ∃ views left, part = .headers views left ∧ views.length = 6
          ∧ (s.slot.free = true → left = 0)
          ∧ (s.slot.free = false → let full := s.slot.lastStart + s.settings.stagger - s.elapsed
              left ≤ full ∧ full ≤ left + 1)
          ∧ ∀ (h : Fin 6) (v : HeaderView), views[h.val]? = some v →
            let k := s.header h
            let full := fun t : Timer => t.start + t.seconds - s.elapsed
            v.pump = k.pump ∧ v.prove = k.prove ∧ v.granted = s.grantedRate h
            ∧ (h ∉ s.slot.queue → v.position = 0)
            ∧ (∀ before after, s.slot.queue = before ++ h :: after → h ∉ before → v.position = before.length + 1)
            ∧ (k.pump ≠ .starting → k.pump ≠ .runon → v.secondsLeft = 0)
            ∧ (∀ t, k.pump = .starting → k.proving = some t → v.secondsLeft ≤ full t ∧ full t ≤ v.secondsLeft + 1)
            ∧ (∀ t, k.pump = .runon → k.runOn = some t → v.secondsLeft ≤ full t ∧ full t ≤ v.secondsLeft + 1))
      ∧ (n = 3 → part = .settings s.settings s.link.baudHigh)

/-- 09 R185 to R191, R196; 06 R139. Some widths and codes, the row's operand and the arbiter's moment are the model's,
logs 17, 21 and 10. That a request row is the arrival of its frame is the model's, log 2. -/
def Obligations.ReceivedFrameIsItsRequest : Prop :=
  (∀ (c : Instr) (tag : Byte) (r : Request) (s : State), asRequest c = some (tag, r) → c.wellFormed = true →
    s.ready →
    exec (.frameReceived (frameBytes r.kind tag r.body)) s =
      exec c { s with link := { s.link with assembler := .hunt } })
  ∧ (∀ (bytes : List Byte) (f : HeldFrame) (s : State), checkFrame bytes = some f → 1 ≤ f.kind.toNat →
    f.kind.toNat ≤ 63 →
    let t : State := { s with link := { s.link with assembler := .hunt } }
    let u := (serveFrame f t).2
    (s.ready →
      exec (.frameReceived bytes) s =
        .next { u with link := u.link.answering ⟨f.kind, f.tag, (serveFrame f t).1⟩ })
    ∧ (s.power = .running → s.burst ≠ none ∨ s.link.reply ≠ none →
      (s.link.hold.length < 2 →
        exec (.frameReceived bytes) s = .next
          ({ t with burst := s.burst.map (Burst.endedBy (decide (f.kind = 0x29 ∧ f.body = [])))
                    link := { t.link with hold := s.link.hold ++ [f] } } : State).kick)
      ∧ (2 ≤ s.link.hold.length → exec (.frameReceived bytes) s = .next t.kick)))
  ∧ ∀ (f : HeldFrame) (s : State), 1 ≤ f.kind.toNat → f.kind.toNat ≤ 63 →
    (requestShape f.kind.toNat = none → serveFrame f s = (⟨.unknownKind, .empty⟩, s))
    ∧ ∀ widths presence, requestShape f.kind.toNat = some (widths, presence) →
      let good := f.body.length = widths.sum ∧ ∀ p ∈ presence, (f.body.getD p 0).toNat ≤ 1
      (¬ good → serveFrame f s = (⟨.malformed, .empty⟩, s))
      ∧ (good → ∃ r : Request, r.kind = f.kind ∧ r.body = absentZeroed presence f.body
        ∧ serveFrame f s = serveRequest r s)

/-- 09 R185 to R188. When the arbiter chooses within the event is the model's, log 10. The bytes as the rows' operand,
and the gap as a row of its own, are the model's, logs 21 and 22. -/
def Obligations.AssemblerTakesBytes : Prop :=
  (∀ (b : Byte) (s : State), s.power = .running →
    let with' := fun a => ({ s with link := { s.link with assembler := a } } : State)
    exec .frameGap s = (with' .hunt).settled
    ∧ (s.link.assembler = .hunt → b = 0xA5 →
      exec (.hostByteReceived b) s = (with' (.assembling [])).settled)
    ∧ (s.link.assembler = .hunt → b ≠ 0xA5 → exec (.hostByteReceived b) s = s.settled)
    ∧ (s.link.assembler = .assembling [] → b.toNat < 2 ∨ 250 < b.toNat →
      exec (.hostByteReceived b) s = (with' .hunt).settled)
    ∧ (s.link.assembler = .assembling [] → 2 ≤ b.toNat → b.toNat ≤ 250 →
      exec (.hostByteReceived b) s = (with' (.assembling [b])).settled)
    ∧ (∀ len rest, s.link.assembler = .assembling (len :: rest) → 2 ≤ len.toNat → len.toNat ≤ 250 →
      (rest.length + 1 < len.toNat + 2 →
        exec (.hostByteReceived b) s = (with' (.assembling (len :: rest ++ [b]))).settled)
      ∧ (rest.length + 1 = len.toNat + 2 →
        exec (.hostByteReceived b) s = exec (.frameReceived (len :: rest ++ [b])) s))
    ∧ (∀ bytes, checkFrame bytes = none → exec (.frameReceived bytes) s = (with' .hunt).settled)
    ∧ (∀ bytes f, checkFrame bytes = some f → f.kind = 0 ∨ 64 ≤ f.kind.toNat →
      exec (.frameReceived bytes) s = (with' .hunt).settled))
  ∧ checkFrame [] = none
  ∧ (∀ (len : Byte) (rest : List Byte), len.toNat < 2 ∨ 250 < len.toNat ∨ rest.length ≠ len.toNat + 2 →
    checkFrame (len :: rest) = none)
  ∧ (∀ (len kind tag hi lo : Byte) (body : List Byte), len.toNat ≤ 250 → body.length + 2 = len.toNat →
    let covered := len :: kind :: tag :: body
    (hi ++ lo = crcOf covered → checkFrame (covered ++ [hi, lo]) = some ⟨kind, tag, body⟩)
    ∧ (hi ++ lo ≠ crcOf covered → checkFrame (covered ++ [hi, lo]) = none))
  ∧ crcOf [0x31, 0x32, 0x33, 0x34, 0x35, 0x36, 0x37, 0x38, 0x39] = 0x29B1#16

/-- 09 R188, R190, R192; 06 R137 to R139, R141. That the arbiter chooses at the end of the event is the model's, log
10. That the row does nothing with nothing on the line is the model's, log 1. -/
def Obligations.FrameSentFreesLine : Prop :=
  ∀ s : State, s.power = .running →
    (s.link.line = none → exec .frameSent s = s.settled)
    ∧ (∀ n, s.link.line = some (.notice n) → s.link.hold = [] ∨ s.burst ≠ none ∨ s.link.reply ≠ none →
      exec .frameSent s = ({ s with link := { s.link with line := none } } : State).settled)
    ∧ (∀ r, s.link.line = some (.reply r) → s.burst = none → s.link.hold = [] →
      exec .frameSent s = ({ s with link := { s.link with line := none, reply := none } } : State).settled)
    ∧ (∀ r f rest, s.link.line = some (.reply r) → s.burst = none → s.link.hold = f :: rest →
      exec .frameSent s =
        (serveFrame f { s with link := { s.link with line := none, reply := none, hold := rest } }).2.answered
          f.kind f.tag (serveFrame f { s with link := { s.link with line := none, reply := none, hold := rest } }).1)
    ∧ (∀ r b, s.link.line = some (.reply r) → s.burst = some b → s.link.hold = [] →
      exec .frameSent s =
        ({ s with burst := some { b with started := true }
                  link := { s.link with line := none, reply := none } } : State).settled)
    ∧ (∀ r b f rest, s.link.line = some (.reply r) → s.burst = some b → s.link.hold = f :: rest →
      exec .frameSent s =
        ({ s with burst := some (({ b with started := true } : Burst).endedBy
                    (decide (f.kind = 0x29 ∧ f.body = [])))
                  link := { s.link with line := none, reply := none } } : State).settled)
    ∧ (∀ r b, s.link.line = some (.record r) → s.burst = some b → b.auto = false →
      exec .frameSent s =
        ({ s with burst := some { b with sent := b.sent + 1, last := r.seq }
                  link := { s.link with line := none } } : State).settled)
    ∧ (∀ r b, s.link.line = some (.record r) → s.burst = some b → b.auto = true →
      exec .frameSent s =
        ({ s with burst := some { b with sent := b.sent + 1, last := r.seq }
                  journal := s.journal.release r.seq
                  link := { s.link with line := none } } : State).settled)
    ∧ (∀ e, s.link.line = some (.journalEnd e) →
      let ended : State := { s with burst := none, link := { s.link with line := none } }
      (s.link.reply ≠ none ∨ s.link.hold = [] → exec .frameSent s = ended.settled)
      ∧ (∀ f rest, s.link.reply = none → s.link.hold = f :: rest →
        let taken : State := { ended with link := { ended.link with hold := rest } }
        exec .frameSent s = (serveFrame f taken).2.answered f.kind f.tag (serveFrame f taken).1))

/-- 09 R185, R186, R190 to R195; 06 R135, R137, R141. That it chooses once at the end of each event is the model's,
log 10. The bodies after a reply's status and a notice's clock time, some of whose forms are the model's (logs 17,
29), stand by name. -/
def Obligations.ArbiterOrder : Prop :=
  (∀ s : State, s.power = .running →
    (s.link.line ≠ none → s.kick = s)
    ∧ (∀ r, s.link.line = none → s.link.reply = some r →
      s.kick = { s with link := { s.link with line := some (.reply r) } })
    ∧ (∀ b, s.link.line = none → s.link.reply = none → s.burst = some b → b.started = true →
      (∀ reason, b.ending = some reason →
        s.kick = { s with link := { s.link with line := some (s.journalEnd b reason) } })
      ∧ (b.ending = none → b.count ≠ 0 → b.sent = b.count →
        s.kick = { s with burst := some { b with ending := some .countDone }
                          link := { s.link with line := some (s.journalEnd b .countDone) } })
      ∧ (∀ before r after, b.ending = none → b.count = 0 ∨ b.sent ≠ b.count →
          s.journal.records = before ++ r :: after → r.seq = b.next → (∀ x ∈ before, x.seq ≠ b.next) →
          s.kick = { s with burst := some { b with next := nextSeq b.next }
                            link := { s.link with line := some (.record r) } })
      ∧ (b.ending = none → b.count = 0 ∨ b.sent ≠ b.count → (∀ r ∈ s.journal.records, r.seq ≠ b.next) →
          s.kick = { s with burst := some { b with ending := some .noMore }
                            link := { s.link with line := some (s.journalEnd b .noMore) } }))
    ∧ (∀ n rest, s.link.line = none → s.link.reply = none → (∀ b, s.burst = some b → b.started = false) →
      s.link.notices = n :: rest →
      s.kick = { s with link := { s.link with notices := rest, line := some (.notice n) } })
    ∧ (s.link.line = none → s.link.reply = none → (∀ b, s.burst = some b → b.started = false) →
      s.link.notices = [] → s.kick = s))
  ∧ (∀ (b : NoticeBody) (s : State), s.notify b = { s with link := s.linkRaising [b] })
  ∧ (∀ (n : Notice) (k : Link),
    (k.notices.length < 32 → k.offer n = { k with notices := k.notices ++ [n] })
    ∧ (32 ≤ k.notices.length → (∀ m ∈ k.notices, n.body.level ≤ m.body.level) →
      k.offer n = { k with overflow := true })
    ∧ (∀ before m after, 32 ≤ k.notices.length → k.notices = before ++ m :: after → m.body.level < n.body.level →
      (∀ x ∈ before, m.body.level < x.body.level) → (∀ x ∈ after, m.body.level ≤ x.body.level) →
      k.offer n = { k with notices := before ++ after ++ [n], displaced := true }))
  ∧ (∀ b : NoticeBody, b.level = match b with
    | .shutdown .. | .lockout .. => 7
    | .pumpFail .. | .gaugeLost .. | .overfillStop .. | .retentionLost => 6
    | .tankLow .. | .variance .. | .burnHigh .. => 5
    | .deliveryEnd .. | .receiptEnd .. => 4
    | .reportReady .. | .serviceOverdue .. | .laneStop .. => 3
    | .laneFlow .. => 2
    | .authExpired .. => 1)
  ∧ ∀ s : State,
    (s.link.line = none → s.hostBytes = [])
    ∧ (∀ r, s.link.line = some (.reply r) →
      s.hostBytes = wholeFrame (r.kind + 0x40) r.tag (statusCode r.answer.status :: r.answer.payload.body))
    ∧ (∀ r, s.link.line = some (.record r) → s.hostBytes = wholeFrame 0x80 0 r.body ∧ r.laidOut r.body)
    ∧ (∀ e, s.link.line = some (.journalEnd e) → s.hostBytes = wholeFrame 0x81 0 e.body)
    ∧ (∀ n, s.link.line = some (.notice n) →
      s.hostBytes = wholeFrame (noticeKind n.body) 0
        ([BitVec.ofNat 8 (n.time / 16777216), BitVec.ofNat 8 (n.time / 65536), BitVec.ofNat 8 (n.time / 256),
          BitVec.ofNat 8 n.time] ++ n.body.body))

/-! ## Power -/

/-- 10 R200, R201; 08 R171, R173, R184. The elapsed seconds, the boundary standing due, the rows that act while dark,
VBAT_LOSS until the start and a fall of VBAT with VDD present are the model's, logs 4, 15, 8, 32 and 36. -/
def Obligations.PowerAndClock : Prop :=
  ∀ s : State,
    let dark := fun p : Power =>
      ({ s with power := p, burst := none, bus := { s.bus with poll := none }
                link := { s.link with line := none } } : State)
    (s.power ≠ .vddLost → exec .powerLoss s = .next (dark .vddLost))
    ∧ (s.power = .vddLost → exec .powerLoss s = .next s)
    ∧ (s.power = .running → exec .resetAssert s = .next (dark .resetHeld))
    ∧ (s.power ≠ .running → exec .resetAssert s = .next s)
    ∧ (s.power = .vddLost → exec .vbatLoss s = .next { s with marker := false })
    ∧ (s.power ≠ .vddLost → exec .vbatLoss s = .next s)
    ∧ (s.power = .running →
      ∃ u, exec .clockSecond s = .next { s with period := u, elapsed := s.elapsed + 1 }
        ∧ u.clock = (s.period.clock + 1) % 4294967296
        ∧ ((∀ b, s.period.next = some b → b.due ≠ u.clock) → u = { s.period with clock := u.clock })
        ∧ (∀ b, s.period.next = some b → b.due = u.clock →
          u = { s.period with clock := u.clock, next := some { b with reached := true }
                              boundaryDue := some b.kind }))
    ∧ (s.power ≠ .running → s.marker = true →
      let clock := (s.period.clock + 1) % 4294967296
      ((∀ b, s.period.next = some b → b.due ≠ clock) →
        exec .clockSecond s = .next { s with period := { s.period with clock := clock } })
      ∧ (∀ b, s.period.next = some b → b.due = clock →
        exec .clockSecond s = .next
          { s with period := { s.period with clock := clock, next := some { b with reached := true } } }))
    ∧ (s.power ≠ .running → s.marker = false → exec .clockSecond s = .next s)
    ∧ (s.power ≠ .running → ∀ c : Instr, c ≠ .powerLoss → c ≠ .resetAssert → c ≠ .vbatLoss → c ≠ .clockSecond →
      (∀ pins, c ≠ .coldStart pins) → (∀ pins, c ≠ .warmStart pins) → exec c s = .next s)
    ∧ (s.power ≠ .running →
      (∀ i, s.valveOutput i = .closed ∧ s.slowValvePin i = false ∧ s.fullValvePin i = false)
      ∧ (∀ h, s.pumpOutput h = false) ∧ (∀ t, s.inletOutput t = false) ∧ s.alert = false
      ∧ s.gaugeDriverEnable = false)
    ∧ ∀ p, (dark p).hostBytes = [] ∧ (dark p).gaugeBytes = []

/-- 10 R202, R205, R206; 01 R32; 06 R133; 07 R145; 03 R61; 04 R86, R99; 08 R184; 09 R199. The pins as operands, the
place of the late close, its test and the moment a queue entry is dropped are the model's, logs 7, 15 and 34; so are
the untaken endings dropped at a commit and a commit with no product, logs 1 and 9. The elapsed seconds, and when a
round with no tank left ends, are the model's, logs 4 and 38. -/
def Obligations.WarmStartRecovers : Prop :=
  ∀ (pins : StartPins) (s : State),
    (s.marker = false → exec (.warmStart pins) s = exec (.coldStart pins) s)
    ∧ (s.marker = true →
      let before := s.rested pins
      let u :=
        if pins.closeFirst then before.closedLate.lanesRecovered pins else (before.lanesRecovered pins).closedLate
      exec (.warmStart pins) s = (u.served u.bus.queue).settled
      ∧ u.marker = true ∧ u.products = s.products ∧ u.headers = before.headers ∧ u.slot = before.slot
      ∧ u.bus = before.bus ∧ u.settings = before.settings
      ∧ u.shutdown.bay = before.shutdown.bay ∧ u.shutdown.stack = s.shutdown.stack
      ∧ u.shutdown.lockout = s.shutdown.lockout
      ∧ (∀ i, (u.lane i).record = (s.lane i).record ∧ (u.lane i).curve = (s.lane i).curve
        ∧ (u.lane i).nozzleOut = true ∧ (u.lane i).grant = .hold ∧ (u.lane i).arbiterGrant = .hold
        ∧ (u.lane i).state = (match (s.lane i).state with
          | .idle | .authorised => .idle
          | .done => .done
          | .waiting | .flowing | .trimming | .closing =>
            if pins.nozzleOut.getLsbD i.val then .done else .idle))
      ∧ (∀ t, (u.tank t).record = (s.tank t).record ∧ (u.tank t).table = (s.tank t).table
        ∧ (u.tank t).status = .unpolled ∧ (u.tank t).held = (s.tank t).held
        ∧ (u.tank t).dispensed = (s.tank t).dispensed ∧ (u.tank t).sincePoll = (s.tank t).sincePoll
        ∧ (u.tank t).book = (s.tank t).book ∧ (u.tank t).bookSaturated = (s.tank t).bookSaturated
        ∧ (u.tank t).receipt = (before.tank t).receipt ∧ (u.tank t).lastReceipt = (s.tank t).lastReceipt
        ∧ (u.tank t).inlet = false)
      ∧ (∃ new, u.journal.records = s.journal.records ++ new
        ∧ new.map JournalRecord.lane = eightNumbers.filter (fun i => (s.lane i).state.metered)
        ∧ (∀ r ∈ new, r.cause = .power ∧ r.endTime = s.period.clock
          ∧ r.gross = (s.lane r.lane).delivery.gross ∧ r.net = (s.lane r.lane).delivery.net))
      ∧ (s.period.next.any NextBoundary.reached = false → u.period = { s.period with boundaryDue := none })
      ∧ (s.period.next.any NextBoundary.reached = true →
        u.period.number = (s.period.number + 1) % 4294967296
        ∧ ∃ report, u.period.report = some report ∧ report.header.reason = .late
          ∧ report.header.endTime = s.period.clock))

/-! ## The laws every step keeps -/

/-- 01 R6; 03 R63, R69; 04 R99; 07 R147, R155. -/
def Obligations.BayLawIsKept : Prop :=
  ∀ s t : State, s.bayLaw → step s = .next t →
    t.bayLaw
      ∧ (t.shutdown.bay ≠ .armed →
        (∀ i, t.valveOutput i = .closed) ∧ (∀ h, t.pumpOutput h = false) ∧ ∀ k, t.inletOutput k = false)

/-- 06 R129, R130, R131. -/
def Obligations.JournalLawIsKept : Prop :=
  ∀ s t : State, s.journalBalanced → s.journal.numbered → step s = .next t →
    t.journalBalanced ∧ t.journal.numbered

/-- 03 R70, R71, R74. -/
def Obligations.GrantLawIsKept : Prop :=
  ∀ s t : State, s.grantsLawful → s.capacityKept → step s = .next t → t.grantsLawful ∧ t.capacityKept

/-- 09 R188, R194; 04 R83, R84, R90. -/
def Obligations.FiguresLawIsKept : Prop :=
  ∀ s t : State, s.figuresLawful → step s = .next t → t.figuresLawful
end
end

