-- ==== Sys2Proof/Laws/State.lean ====
section
/-! SUPPORT. Every field of the state after each update of one field, and the units of the state after an update of one
unit: true by rfl, for simp. -/
namespace Sys2Proof.Machine

@[simp] theorem State.setPending_fields (s : State) (v) :
    (s.setPending v).pending = v ∧ (s.setPending v).power = s.power ∧ (s.setPending v).marker = s.marker
      ∧ (s.setPending v).startKind = s.startKind ∧ (s.setPending v).elapsed = s.elapsed
      ∧ (s.setPending v).freeCount = s.freeCount ∧ (s.setPending v).lanes = s.lanes
      ∧ (s.setPending v).products = s.products ∧ (s.setPending v).headers = s.headers
      ∧ (s.setPending v).slot = s.slot ∧ (s.setPending v).tanks = s.tanks ∧ (s.setPending v).bus = s.bus
      ∧ (s.setPending v).machines = s.machines ∧ (s.setPending v).pattern = s.pattern
      ∧ (s.setPending v).journal = s.journal ∧ (s.setPending v).burst = s.burst
      ∧ (s.setPending v).shutdown = s.shutdown ∧ (s.setPending v).period = s.period
      ∧ (s.setPending v).settings = s.settings ∧ (s.setPending v).link = s.link := by
  repeat' constructor

@[simp] theorem State.setPower_fields (s : State) (v) :
    (s.setPower v).pending = s.pending ∧ (s.setPower v).power = v ∧ (s.setPower v).marker = s.marker
      ∧ (s.setPower v).startKind = s.startKind ∧ (s.setPower v).elapsed = s.elapsed
      ∧ (s.setPower v).freeCount = s.freeCount ∧ (s.setPower v).lanes = s.lanes
      ∧ (s.setPower v).products = s.products ∧ (s.setPower v).headers = s.headers ∧ (s.setPower v).slot = s.slot
      ∧ (s.setPower v).tanks = s.tanks ∧ (s.setPower v).bus = s.bus ∧ (s.setPower v).machines = s.machines
      ∧ (s.setPower v).pattern = s.pattern ∧ (s.setPower v).journal = s.journal ∧ (s.setPower v).burst = s.burst
      ∧ (s.setPower v).shutdown = s.shutdown ∧ (s.setPower v).period = s.period
      ∧ (s.setPower v).settings = s.settings ∧ (s.setPower v).link = s.link := by
  repeat' constructor

@[simp] theorem State.setMarker_fields (s : State) (v) :
    (s.setMarker v).pending = s.pending ∧ (s.setMarker v).power = s.power ∧ (s.setMarker v).marker = v
      ∧ (s.setMarker v).startKind = s.startKind ∧ (s.setMarker v).elapsed = s.elapsed
      ∧ (s.setMarker v).freeCount = s.freeCount ∧ (s.setMarker v).lanes = s.lanes
      ∧ (s.setMarker v).products = s.products ∧ (s.setMarker v).headers = s.headers
      ∧ (s.setMarker v).slot = s.slot ∧ (s.setMarker v).tanks = s.tanks ∧ (s.setMarker v).bus = s.bus
      ∧ (s.setMarker v).machines = s.machines ∧ (s.setMarker v).pattern = s.pattern
      ∧ (s.setMarker v).journal = s.journal ∧ (s.setMarker v).burst = s.burst
      ∧ (s.setMarker v).shutdown = s.shutdown ∧ (s.setMarker v).period = s.period
      ∧ (s.setMarker v).settings = s.settings ∧ (s.setMarker v).link = s.link := by
  repeat' constructor

@[simp] theorem State.setStartKind_fields (s : State) (v) :
    (s.setStartKind v).pending = s.pending ∧ (s.setStartKind v).power = s.power
      ∧ (s.setStartKind v).marker = s.marker ∧ (s.setStartKind v).startKind = v
      ∧ (s.setStartKind v).elapsed = s.elapsed ∧ (s.setStartKind v).freeCount = s.freeCount
      ∧ (s.setStartKind v).lanes = s.lanes ∧ (s.setStartKind v).products = s.products
      ∧ (s.setStartKind v).headers = s.headers ∧ (s.setStartKind v).slot = s.slot
      ∧ (s.setStartKind v).tanks = s.tanks ∧ (s.setStartKind v).bus = s.bus
      ∧ (s.setStartKind v).machines = s.machines ∧ (s.setStartKind v).pattern = s.pattern
      ∧ (s.setStartKind v).journal = s.journal ∧ (s.setStartKind v).burst = s.burst
      ∧ (s.setStartKind v).shutdown = s.shutdown ∧ (s.setStartKind v).period = s.period
      ∧ (s.setStartKind v).settings = s.settings ∧ (s.setStartKind v).link = s.link := by
  repeat' constructor

@[simp] theorem State.setElapsed_fields (s : State) (v) :
    (s.setElapsed v).pending = s.pending ∧ (s.setElapsed v).power = s.power ∧ (s.setElapsed v).marker = s.marker
      ∧ (s.setElapsed v).startKind = s.startKind ∧ (s.setElapsed v).elapsed = v
      ∧ (s.setElapsed v).freeCount = s.freeCount ∧ (s.setElapsed v).lanes = s.lanes
      ∧ (s.setElapsed v).products = s.products ∧ (s.setElapsed v).headers = s.headers
      ∧ (s.setElapsed v).slot = s.slot ∧ (s.setElapsed v).tanks = s.tanks ∧ (s.setElapsed v).bus = s.bus
      ∧ (s.setElapsed v).machines = s.machines ∧ (s.setElapsed v).pattern = s.pattern
      ∧ (s.setElapsed v).journal = s.journal ∧ (s.setElapsed v).burst = s.burst
      ∧ (s.setElapsed v).shutdown = s.shutdown ∧ (s.setElapsed v).period = s.period
      ∧ (s.setElapsed v).settings = s.settings ∧ (s.setElapsed v).link = s.link := by
  repeat' constructor

@[simp] theorem State.setFreeCount_fields (s : State) (v) :
    (s.setFreeCount v).pending = s.pending ∧ (s.setFreeCount v).power = s.power
      ∧ (s.setFreeCount v).marker = s.marker ∧ (s.setFreeCount v).startKind = s.startKind
      ∧ (s.setFreeCount v).elapsed = s.elapsed ∧ (s.setFreeCount v).freeCount = v
      ∧ (s.setFreeCount v).lanes = s.lanes ∧ (s.setFreeCount v).products = s.products
      ∧ (s.setFreeCount v).headers = s.headers ∧ (s.setFreeCount v).slot = s.slot
      ∧ (s.setFreeCount v).tanks = s.tanks ∧ (s.setFreeCount v).bus = s.bus
      ∧ (s.setFreeCount v).machines = s.machines ∧ (s.setFreeCount v).pattern = s.pattern
      ∧ (s.setFreeCount v).journal = s.journal ∧ (s.setFreeCount v).burst = s.burst
      ∧ (s.setFreeCount v).shutdown = s.shutdown ∧ (s.setFreeCount v).period = s.period
      ∧ (s.setFreeCount v).settings = s.settings ∧ (s.setFreeCount v).link = s.link := by
  repeat' constructor

@[simp] theorem State.setLanes_fields (s : State) (v) :
    (s.setLanes v).pending = s.pending ∧ (s.setLanes v).power = s.power ∧ (s.setLanes v).marker = s.marker
      ∧ (s.setLanes v).startKind = s.startKind ∧ (s.setLanes v).elapsed = s.elapsed
      ∧ (s.setLanes v).freeCount = s.freeCount ∧ (s.setLanes v).lanes = v ∧ (s.setLanes v).products = s.products
      ∧ (s.setLanes v).headers = s.headers ∧ (s.setLanes v).slot = s.slot ∧ (s.setLanes v).tanks = s.tanks
      ∧ (s.setLanes v).bus = s.bus ∧ (s.setLanes v).machines = s.machines ∧ (s.setLanes v).pattern = s.pattern
      ∧ (s.setLanes v).journal = s.journal ∧ (s.setLanes v).burst = s.burst
      ∧ (s.setLanes v).shutdown = s.shutdown ∧ (s.setLanes v).period = s.period
      ∧ (s.setLanes v).settings = s.settings ∧ (s.setLanes v).link = s.link := by
  repeat' constructor

@[simp] theorem State.setProducts_fields (s : State) (v) :
    (s.setProducts v).pending = s.pending ∧ (s.setProducts v).power = s.power
      ∧ (s.setProducts v).marker = s.marker ∧ (s.setProducts v).startKind = s.startKind
      ∧ (s.setProducts v).elapsed = s.elapsed ∧ (s.setProducts v).freeCount = s.freeCount
      ∧ (s.setProducts v).lanes = s.lanes ∧ (s.setProducts v).products = v
      ∧ (s.setProducts v).headers = s.headers ∧ (s.setProducts v).slot = s.slot
      ∧ (s.setProducts v).tanks = s.tanks ∧ (s.setProducts v).bus = s.bus
      ∧ (s.setProducts v).machines = s.machines ∧ (s.setProducts v).pattern = s.pattern
      ∧ (s.setProducts v).journal = s.journal ∧ (s.setProducts v).burst = s.burst
      ∧ (s.setProducts v).shutdown = s.shutdown ∧ (s.setProducts v).period = s.period
      ∧ (s.setProducts v).settings = s.settings ∧ (s.setProducts v).link = s.link := by
  repeat' constructor

@[simp] theorem State.setHeaders_fields (s : State) (v) :
    (s.setHeaders v).pending = s.pending ∧ (s.setHeaders v).power = s.power ∧ (s.setHeaders v).marker = s.marker
      ∧ (s.setHeaders v).startKind = s.startKind ∧ (s.setHeaders v).elapsed = s.elapsed
      ∧ (s.setHeaders v).freeCount = s.freeCount ∧ (s.setHeaders v).lanes = s.lanes
      ∧ (s.setHeaders v).products = s.products ∧ (s.setHeaders v).headers = v ∧ (s.setHeaders v).slot = s.slot
      ∧ (s.setHeaders v).tanks = s.tanks ∧ (s.setHeaders v).bus = s.bus ∧ (s.setHeaders v).machines = s.machines
      ∧ (s.setHeaders v).pattern = s.pattern ∧ (s.setHeaders v).journal = s.journal
      ∧ (s.setHeaders v).burst = s.burst ∧ (s.setHeaders v).shutdown = s.shutdown
      ∧ (s.setHeaders v).period = s.period ∧ (s.setHeaders v).settings = s.settings
      ∧ (s.setHeaders v).link = s.link := by
  repeat' constructor

@[simp] theorem State.setSlot_fields (s : State) (v) :
    (s.setSlot v).pending = s.pending ∧ (s.setSlot v).power = s.power ∧ (s.setSlot v).marker = s.marker
      ∧ (s.setSlot v).startKind = s.startKind ∧ (s.setSlot v).elapsed = s.elapsed
      ∧ (s.setSlot v).freeCount = s.freeCount ∧ (s.setSlot v).lanes = s.lanes
      ∧ (s.setSlot v).products = s.products ∧ (s.setSlot v).headers = s.headers ∧ (s.setSlot v).slot = v
      ∧ (s.setSlot v).tanks = s.tanks ∧ (s.setSlot v).bus = s.bus ∧ (s.setSlot v).machines = s.machines
      ∧ (s.setSlot v).pattern = s.pattern ∧ (s.setSlot v).journal = s.journal ∧ (s.setSlot v).burst = s.burst
      ∧ (s.setSlot v).shutdown = s.shutdown ∧ (s.setSlot v).period = s.period
      ∧ (s.setSlot v).settings = s.settings ∧ (s.setSlot v).link = s.link := by
  repeat' constructor

@[simp] theorem State.setTanks_fields (s : State) (v) :
    (s.setTanks v).pending = s.pending ∧ (s.setTanks v).power = s.power ∧ (s.setTanks v).marker = s.marker
      ∧ (s.setTanks v).startKind = s.startKind ∧ (s.setTanks v).elapsed = s.elapsed
      ∧ (s.setTanks v).freeCount = s.freeCount ∧ (s.setTanks v).lanes = s.lanes
      ∧ (s.setTanks v).products = s.products ∧ (s.setTanks v).headers = s.headers ∧ (s.setTanks v).slot = s.slot
      ∧ (s.setTanks v).tanks = v ∧ (s.setTanks v).bus = s.bus ∧ (s.setTanks v).machines = s.machines
      ∧ (s.setTanks v).pattern = s.pattern ∧ (s.setTanks v).journal = s.journal ∧ (s.setTanks v).burst = s.burst
      ∧ (s.setTanks v).shutdown = s.shutdown ∧ (s.setTanks v).period = s.period
      ∧ (s.setTanks v).settings = s.settings ∧ (s.setTanks v).link = s.link := by
  repeat' constructor

@[simp] theorem State.setBus_fields (s : State) (v) :
    (s.setBus v).pending = s.pending ∧ (s.setBus v).power = s.power ∧ (s.setBus v).marker = s.marker
      ∧ (s.setBus v).startKind = s.startKind ∧ (s.setBus v).elapsed = s.elapsed
      ∧ (s.setBus v).freeCount = s.freeCount ∧ (s.setBus v).lanes = s.lanes ∧ (s.setBus v).products = s.products
      ∧ (s.setBus v).headers = s.headers ∧ (s.setBus v).slot = s.slot ∧ (s.setBus v).tanks = s.tanks
      ∧ (s.setBus v).bus = v ∧ (s.setBus v).machines = s.machines ∧ (s.setBus v).pattern = s.pattern
      ∧ (s.setBus v).journal = s.journal ∧ (s.setBus v).burst = s.burst ∧ (s.setBus v).shutdown = s.shutdown
      ∧ (s.setBus v).period = s.period ∧ (s.setBus v).settings = s.settings ∧ (s.setBus v).link = s.link := by
  repeat' constructor

@[simp] theorem State.setMachines_fields (s : State) (v) :
    (s.setMachines v).pending = s.pending ∧ (s.setMachines v).power = s.power
      ∧ (s.setMachines v).marker = s.marker ∧ (s.setMachines v).startKind = s.startKind
      ∧ (s.setMachines v).elapsed = s.elapsed ∧ (s.setMachines v).freeCount = s.freeCount
      ∧ (s.setMachines v).lanes = s.lanes ∧ (s.setMachines v).products = s.products
      ∧ (s.setMachines v).headers = s.headers ∧ (s.setMachines v).slot = s.slot
      ∧ (s.setMachines v).tanks = s.tanks ∧ (s.setMachines v).bus = s.bus ∧ (s.setMachines v).machines = v
      ∧ (s.setMachines v).pattern = s.pattern ∧ (s.setMachines v).journal = s.journal
      ∧ (s.setMachines v).burst = s.burst ∧ (s.setMachines v).shutdown = s.shutdown
      ∧ (s.setMachines v).period = s.period ∧ (s.setMachines v).settings = s.settings
      ∧ (s.setMachines v).link = s.link := by
  repeat' constructor

@[simp] theorem State.setPattern_fields (s : State) (v) :
    (s.setPattern v).pending = s.pending ∧ (s.setPattern v).power = s.power ∧ (s.setPattern v).marker = s.marker
      ∧ (s.setPattern v).startKind = s.startKind ∧ (s.setPattern v).elapsed = s.elapsed
      ∧ (s.setPattern v).freeCount = s.freeCount ∧ (s.setPattern v).lanes = s.lanes
      ∧ (s.setPattern v).products = s.products ∧ (s.setPattern v).headers = s.headers
      ∧ (s.setPattern v).slot = s.slot ∧ (s.setPattern v).tanks = s.tanks ∧ (s.setPattern v).bus = s.bus
      ∧ (s.setPattern v).machines = s.machines ∧ (s.setPattern v).pattern = v
      ∧ (s.setPattern v).journal = s.journal ∧ (s.setPattern v).burst = s.burst
      ∧ (s.setPattern v).shutdown = s.shutdown ∧ (s.setPattern v).period = s.period
      ∧ (s.setPattern v).settings = s.settings ∧ (s.setPattern v).link = s.link := by
  repeat' constructor

@[simp] theorem State.setJournal_fields (s : State) (v) :
    (s.setJournal v).pending = s.pending ∧ (s.setJournal v).power = s.power ∧ (s.setJournal v).marker = s.marker
      ∧ (s.setJournal v).startKind = s.startKind ∧ (s.setJournal v).elapsed = s.elapsed
      ∧ (s.setJournal v).freeCount = s.freeCount ∧ (s.setJournal v).lanes = s.lanes
      ∧ (s.setJournal v).products = s.products ∧ (s.setJournal v).headers = s.headers
      ∧ (s.setJournal v).slot = s.slot ∧ (s.setJournal v).tanks = s.tanks ∧ (s.setJournal v).bus = s.bus
      ∧ (s.setJournal v).machines = s.machines ∧ (s.setJournal v).pattern = s.pattern
      ∧ (s.setJournal v).journal = v ∧ (s.setJournal v).burst = s.burst ∧ (s.setJournal v).shutdown = s.shutdown
      ∧ (s.setJournal v).period = s.period ∧ (s.setJournal v).settings = s.settings
      ∧ (s.setJournal v).link = s.link := by
  repeat' constructor

@[simp] theorem State.setBurst_fields (s : State) (v) :
    (s.setBurst v).pending = s.pending ∧ (s.setBurst v).power = s.power ∧ (s.setBurst v).marker = s.marker
      ∧ (s.setBurst v).startKind = s.startKind ∧ (s.setBurst v).elapsed = s.elapsed
      ∧ (s.setBurst v).freeCount = s.freeCount ∧ (s.setBurst v).lanes = s.lanes
      ∧ (s.setBurst v).products = s.products ∧ (s.setBurst v).headers = s.headers ∧ (s.setBurst v).slot = s.slot
      ∧ (s.setBurst v).tanks = s.tanks ∧ (s.setBurst v).bus = s.bus ∧ (s.setBurst v).machines = s.machines
      ∧ (s.setBurst v).pattern = s.pattern ∧ (s.setBurst v).journal = s.journal ∧ (s.setBurst v).burst = v
      ∧ (s.setBurst v).shutdown = s.shutdown ∧ (s.setBurst v).period = s.period
      ∧ (s.setBurst v).settings = s.settings ∧ (s.setBurst v).link = s.link := by
  repeat' constructor

@[simp] theorem State.setShutdown_fields (s : State) (v) :
    (s.setShutdown v).pending = s.pending ∧ (s.setShutdown v).power = s.power
      ∧ (s.setShutdown v).marker = s.marker ∧ (s.setShutdown v).startKind = s.startKind
      ∧ (s.setShutdown v).elapsed = s.elapsed ∧ (s.setShutdown v).freeCount = s.freeCount
      ∧ (s.setShutdown v).lanes = s.lanes ∧ (s.setShutdown v).products = s.products
      ∧ (s.setShutdown v).headers = s.headers ∧ (s.setShutdown v).slot = s.slot
      ∧ (s.setShutdown v).tanks = s.tanks ∧ (s.setShutdown v).bus = s.bus
      ∧ (s.setShutdown v).machines = s.machines ∧ (s.setShutdown v).pattern = s.pattern
      ∧ (s.setShutdown v).journal = s.journal ∧ (s.setShutdown v).burst = s.burst
      ∧ (s.setShutdown v).shutdown = v ∧ (s.setShutdown v).period = s.period
      ∧ (s.setShutdown v).settings = s.settings ∧ (s.setShutdown v).link = s.link := by
  repeat' constructor

@[simp] theorem State.setPeriod_fields (s : State) (v) :
    (s.setPeriod v).pending = s.pending ∧ (s.setPeriod v).power = s.power ∧ (s.setPeriod v).marker = s.marker
      ∧ (s.setPeriod v).startKind = s.startKind ∧ (s.setPeriod v).elapsed = s.elapsed
      ∧ (s.setPeriod v).freeCount = s.freeCount ∧ (s.setPeriod v).lanes = s.lanes
      ∧ (s.setPeriod v).products = s.products ∧ (s.setPeriod v).headers = s.headers
      ∧ (s.setPeriod v).slot = s.slot ∧ (s.setPeriod v).tanks = s.tanks ∧ (s.setPeriod v).bus = s.bus
      ∧ (s.setPeriod v).machines = s.machines ∧ (s.setPeriod v).pattern = s.pattern
      ∧ (s.setPeriod v).journal = s.journal ∧ (s.setPeriod v).burst = s.burst
      ∧ (s.setPeriod v).shutdown = s.shutdown ∧ (s.setPeriod v).period = v
      ∧ (s.setPeriod v).settings = s.settings ∧ (s.setPeriod v).link = s.link := by
  repeat' constructor

@[simp] theorem State.setSettings_fields (s : State) (v) :
    (s.setSettings v).pending = s.pending ∧ (s.setSettings v).power = s.power
      ∧ (s.setSettings v).marker = s.marker ∧ (s.setSettings v).startKind = s.startKind
      ∧ (s.setSettings v).elapsed = s.elapsed ∧ (s.setSettings v).freeCount = s.freeCount
      ∧ (s.setSettings v).lanes = s.lanes ∧ (s.setSettings v).products = s.products
      ∧ (s.setSettings v).headers = s.headers ∧ (s.setSettings v).slot = s.slot
      ∧ (s.setSettings v).tanks = s.tanks ∧ (s.setSettings v).bus = s.bus
      ∧ (s.setSettings v).machines = s.machines ∧ (s.setSettings v).pattern = s.pattern
      ∧ (s.setSettings v).journal = s.journal ∧ (s.setSettings v).burst = s.burst
      ∧ (s.setSettings v).shutdown = s.shutdown ∧ (s.setSettings v).period = s.period
      ∧ (s.setSettings v).settings = v ∧ (s.setSettings v).link = s.link := by
  repeat' constructor

@[simp] theorem State.setLink_fields (s : State) (v) :
    (s.setLink v).pending = s.pending ∧ (s.setLink v).power = s.power ∧ (s.setLink v).marker = s.marker
      ∧ (s.setLink v).startKind = s.startKind ∧ (s.setLink v).elapsed = s.elapsed
      ∧ (s.setLink v).freeCount = s.freeCount ∧ (s.setLink v).lanes = s.lanes
      ∧ (s.setLink v).products = s.products ∧ (s.setLink v).headers = s.headers ∧ (s.setLink v).slot = s.slot
      ∧ (s.setLink v).tanks = s.tanks ∧ (s.setLink v).bus = s.bus ∧ (s.setLink v).machines = s.machines
      ∧ (s.setLink v).pattern = s.pattern ∧ (s.setLink v).journal = s.journal ∧ (s.setLink v).burst = s.burst
      ∧ (s.setLink v).shutdown = s.shutdown ∧ (s.setLink v).period = s.period
      ∧ (s.setLink v).settings = s.settings ∧ (s.setLink v).link = v := by
  repeat' constructor

@[simp] theorem State.modLane_fields (i : Fin 8) (f : Lane → Lane) (s : State) :
    (s.modLane i f).pending = s.pending ∧ (s.modLane i f).power = s.power ∧ (s.modLane i f).marker = s.marker
      ∧ (s.modLane i f).startKind = s.startKind ∧ (s.modLane i f).elapsed = s.elapsed
      ∧ (s.modLane i f).freeCount = s.freeCount ∧ (s.modLane i f).lanes = s.lanes.set i (f s.lanes[i])
      ∧ (s.modLane i f).products = s.products ∧ (s.modLane i f).headers = s.headers
      ∧ (s.modLane i f).slot = s.slot ∧ (s.modLane i f).tanks = s.tanks ∧ (s.modLane i f).bus = s.bus
      ∧ (s.modLane i f).machines = s.machines ∧ (s.modLane i f).pattern = s.pattern
      ∧ (s.modLane i f).journal = s.journal ∧ (s.modLane i f).burst = s.burst
      ∧ (s.modLane i f).shutdown = s.shutdown ∧ (s.modLane i f).period = s.period
      ∧ (s.modLane i f).settings = s.settings ∧ (s.modLane i f).link = s.link := by
  repeat' constructor

@[simp] theorem State.modProduct_fields (i : Fin 6) (f : Product → Product) (s : State) :
    (s.modProduct i f).pending = s.pending ∧ (s.modProduct i f).power = s.power
      ∧ (s.modProduct i f).marker = s.marker ∧ (s.modProduct i f).startKind = s.startKind
      ∧ (s.modProduct i f).elapsed = s.elapsed ∧ (s.modProduct i f).freeCount = s.freeCount
      ∧ (s.modProduct i f).lanes = s.lanes ∧ (s.modProduct i f).products = s.products.set i (f s.products[i])
      ∧ (s.modProduct i f).headers = s.headers ∧ (s.modProduct i f).slot = s.slot
      ∧ (s.modProduct i f).tanks = s.tanks ∧ (s.modProduct i f).bus = s.bus
      ∧ (s.modProduct i f).machines = s.machines ∧ (s.modProduct i f).pattern = s.pattern
      ∧ (s.modProduct i f).journal = s.journal ∧ (s.modProduct i f).burst = s.burst
      ∧ (s.modProduct i f).shutdown = s.shutdown ∧ (s.modProduct i f).period = s.period
      ∧ (s.modProduct i f).settings = s.settings ∧ (s.modProduct i f).link = s.link := by
  repeat' constructor

@[simp] theorem State.modHeader_fields (i : Fin 6) (f : Header → Header) (s : State) :
    (s.modHeader i f).pending = s.pending ∧ (s.modHeader i f).power = s.power
      ∧ (s.modHeader i f).marker = s.marker ∧ (s.modHeader i f).startKind = s.startKind
      ∧ (s.modHeader i f).elapsed = s.elapsed ∧ (s.modHeader i f).freeCount = s.freeCount
      ∧ (s.modHeader i f).lanes = s.lanes ∧ (s.modHeader i f).products = s.products
      ∧ (s.modHeader i f).headers = s.headers.set i (f s.headers[i]) ∧ (s.modHeader i f).slot = s.slot
      ∧ (s.modHeader i f).tanks = s.tanks ∧ (s.modHeader i f).bus = s.bus
      ∧ (s.modHeader i f).machines = s.machines ∧ (s.modHeader i f).pattern = s.pattern
      ∧ (s.modHeader i f).journal = s.journal ∧ (s.modHeader i f).burst = s.burst
      ∧ (s.modHeader i f).shutdown = s.shutdown ∧ (s.modHeader i f).period = s.period
      ∧ (s.modHeader i f).settings = s.settings ∧ (s.modHeader i f).link = s.link := by
  repeat' constructor

@[simp] theorem State.modTank_fields (i : Fin 8) (f : Tank → Tank) (s : State) :
    (s.modTank i f).pending = s.pending ∧ (s.modTank i f).power = s.power ∧ (s.modTank i f).marker = s.marker
      ∧ (s.modTank i f).startKind = s.startKind ∧ (s.modTank i f).elapsed = s.elapsed
      ∧ (s.modTank i f).freeCount = s.freeCount ∧ (s.modTank i f).lanes = s.lanes
      ∧ (s.modTank i f).products = s.products ∧ (s.modTank i f).headers = s.headers
      ∧ (s.modTank i f).slot = s.slot ∧ (s.modTank i f).tanks = s.tanks.set i (f s.tanks[i])
      ∧ (s.modTank i f).bus = s.bus ∧ (s.modTank i f).machines = s.machines
      ∧ (s.modTank i f).pattern = s.pattern ∧ (s.modTank i f).journal = s.journal
      ∧ (s.modTank i f).burst = s.burst ∧ (s.modTank i f).shutdown = s.shutdown
      ∧ (s.modTank i f).period = s.period ∧ (s.modTank i f).settings = s.settings
      ∧ (s.modTank i f).link = s.link := by
  repeat' constructor

@[simp] theorem State.modMachine_fields (i : Fin 512) (f : MachineRecord → MachineRecord) (s : State) :
    (s.modMachine i f).pending = s.pending ∧ (s.modMachine i f).power = s.power
      ∧ (s.modMachine i f).marker = s.marker ∧ (s.modMachine i f).startKind = s.startKind
      ∧ (s.modMachine i f).elapsed = s.elapsed ∧ (s.modMachine i f).freeCount = s.freeCount
      ∧ (s.modMachine i f).lanes = s.lanes ∧ (s.modMachine i f).products = s.products
      ∧ (s.modMachine i f).headers = s.headers ∧ (s.modMachine i f).slot = s.slot
      ∧ (s.modMachine i f).tanks = s.tanks ∧ (s.modMachine i f).bus = s.bus
      ∧ (s.modMachine i f).machines = s.machines.set i (f s.machines[i])
      ∧ (s.modMachine i f).pattern = s.pattern ∧ (s.modMachine i f).journal = s.journal
      ∧ (s.modMachine i f).burst = s.burst ∧ (s.modMachine i f).shutdown = s.shutdown
      ∧ (s.modMachine i f).period = s.period ∧ (s.modMachine i f).settings = s.settings
      ∧ (s.modMachine i f).link = s.link := by
  repeat' constructor

@[simp] theorem State.modSlot_fields (f : StartSlot → StartSlot) (s : State) :
    (s.modSlot f).pending = s.pending ∧ (s.modSlot f).power = s.power ∧ (s.modSlot f).marker = s.marker
      ∧ (s.modSlot f).startKind = s.startKind ∧ (s.modSlot f).elapsed = s.elapsed
      ∧ (s.modSlot f).freeCount = s.freeCount ∧ (s.modSlot f).lanes = s.lanes
      ∧ (s.modSlot f).products = s.products ∧ (s.modSlot f).headers = s.headers ∧ (s.modSlot f).slot = f s.slot
      ∧ (s.modSlot f).tanks = s.tanks ∧ (s.modSlot f).bus = s.bus ∧ (s.modSlot f).machines = s.machines
      ∧ (s.modSlot f).pattern = s.pattern ∧ (s.modSlot f).journal = s.journal ∧ (s.modSlot f).burst = s.burst
      ∧ (s.modSlot f).shutdown = s.shutdown ∧ (s.modSlot f).period = s.period
      ∧ (s.modSlot f).settings = s.settings ∧ (s.modSlot f).link = s.link := by
  repeat' constructor

@[simp] theorem State.modBus_fields (f : GaugeBus → GaugeBus) (s : State) :
    (s.modBus f).pending = s.pending ∧ (s.modBus f).power = s.power ∧ (s.modBus f).marker = s.marker
      ∧ (s.modBus f).startKind = s.startKind ∧ (s.modBus f).elapsed = s.elapsed
      ∧ (s.modBus f).freeCount = s.freeCount ∧ (s.modBus f).lanes = s.lanes ∧ (s.modBus f).products = s.products
      ∧ (s.modBus f).headers = s.headers ∧ (s.modBus f).slot = s.slot ∧ (s.modBus f).tanks = s.tanks
      ∧ (s.modBus f).bus = f s.bus ∧ (s.modBus f).machines = s.machines ∧ (s.modBus f).pattern = s.pattern
      ∧ (s.modBus f).journal = s.journal ∧ (s.modBus f).burst = s.burst ∧ (s.modBus f).shutdown = s.shutdown
      ∧ (s.modBus f).period = s.period ∧ (s.modBus f).settings = s.settings ∧ (s.modBus f).link = s.link := by
  repeat' constructor

@[simp] theorem State.modJournal_fields (f : Journal → Journal) (s : State) :
    (s.modJournal f).pending = s.pending ∧ (s.modJournal f).power = s.power ∧ (s.modJournal f).marker = s.marker
      ∧ (s.modJournal f).startKind = s.startKind ∧ (s.modJournal f).elapsed = s.elapsed
      ∧ (s.modJournal f).freeCount = s.freeCount ∧ (s.modJournal f).lanes = s.lanes
      ∧ (s.modJournal f).products = s.products ∧ (s.modJournal f).headers = s.headers
      ∧ (s.modJournal f).slot = s.slot ∧ (s.modJournal f).tanks = s.tanks ∧ (s.modJournal f).bus = s.bus
      ∧ (s.modJournal f).machines = s.machines ∧ (s.modJournal f).pattern = s.pattern
      ∧ (s.modJournal f).journal = f s.journal ∧ (s.modJournal f).burst = s.burst
      ∧ (s.modJournal f).shutdown = s.shutdown ∧ (s.modJournal f).period = s.period
      ∧ (s.modJournal f).settings = s.settings ∧ (s.modJournal f).link = s.link := by
  repeat' constructor

@[simp] theorem State.modShutdown_fields (f : Shutdown → Shutdown) (s : State) :
    (s.modShutdown f).pending = s.pending ∧ (s.modShutdown f).power = s.power
      ∧ (s.modShutdown f).marker = s.marker ∧ (s.modShutdown f).startKind = s.startKind
      ∧ (s.modShutdown f).elapsed = s.elapsed ∧ (s.modShutdown f).freeCount = s.freeCount
      ∧ (s.modShutdown f).lanes = s.lanes ∧ (s.modShutdown f).products = s.products
      ∧ (s.modShutdown f).headers = s.headers ∧ (s.modShutdown f).slot = s.slot
      ∧ (s.modShutdown f).tanks = s.tanks ∧ (s.modShutdown f).bus = s.bus
      ∧ (s.modShutdown f).machines = s.machines ∧ (s.modShutdown f).pattern = s.pattern
      ∧ (s.modShutdown f).journal = s.journal ∧ (s.modShutdown f).burst = s.burst
      ∧ (s.modShutdown f).shutdown = f s.shutdown ∧ (s.modShutdown f).period = s.period
      ∧ (s.modShutdown f).settings = s.settings ∧ (s.modShutdown f).link = s.link := by
  repeat' constructor

@[simp] theorem State.modPeriod_fields (f : Period → Period) (s : State) :
    (s.modPeriod f).pending = s.pending ∧ (s.modPeriod f).power = s.power ∧ (s.modPeriod f).marker = s.marker
      ∧ (s.modPeriod f).startKind = s.startKind ∧ (s.modPeriod f).elapsed = s.elapsed
      ∧ (s.modPeriod f).freeCount = s.freeCount ∧ (s.modPeriod f).lanes = s.lanes
      ∧ (s.modPeriod f).products = s.products ∧ (s.modPeriod f).headers = s.headers
      ∧ (s.modPeriod f).slot = s.slot ∧ (s.modPeriod f).tanks = s.tanks ∧ (s.modPeriod f).bus = s.bus
      ∧ (s.modPeriod f).machines = s.machines ∧ (s.modPeriod f).pattern = s.pattern
      ∧ (s.modPeriod f).journal = s.journal ∧ (s.modPeriod f).burst = s.burst
      ∧ (s.modPeriod f).shutdown = s.shutdown ∧ (s.modPeriod f).period = f s.period
      ∧ (s.modPeriod f).settings = s.settings ∧ (s.modPeriod f).link = s.link := by
  repeat' constructor

@[simp] theorem State.modLink_fields (f : Link → Link) (s : State) :
    (s.modLink f).pending = s.pending ∧ (s.modLink f).power = s.power ∧ (s.modLink f).marker = s.marker
      ∧ (s.modLink f).startKind = s.startKind ∧ (s.modLink f).elapsed = s.elapsed
      ∧ (s.modLink f).freeCount = s.freeCount ∧ (s.modLink f).lanes = s.lanes
      ∧ (s.modLink f).products = s.products ∧ (s.modLink f).headers = s.headers ∧ (s.modLink f).slot = s.slot
      ∧ (s.modLink f).tanks = s.tanks ∧ (s.modLink f).bus = s.bus ∧ (s.modLink f).machines = s.machines
      ∧ (s.modLink f).pattern = s.pattern ∧ (s.modLink f).journal = s.journal ∧ (s.modLink f).burst = s.burst
      ∧ (s.modLink f).shutdown = s.shutdown ∧ (s.modLink f).period = s.period
      ∧ (s.modLink f).settings = s.settings ∧ (s.modLink f).link = f s.link := by
  repeat' constructor

/-- The changed lane after an update of it. -/
@[simp] theorem State.lane_modLane_same (i : Fin 8) (f : Lane → Lane) (s : State) :
    (s.modLane i f).lane i = f (s.lane i) := by
  simp [State.lane]

/-- Every other lane is as before. -/
theorem State.lane_modLane_ne (i j : Fin 8) (h : j ≠ i) (f : Lane → Lane) (s : State) :
    (s.modLane i f).lane j = s.lane j := by
  have : i.val ≠ j.val := fun e => h (Fin.ext e.symm)
  simp [State.lane, Vector.getElem_set_ne, this]

/-- A lane of a state depends on the vector of them alone. -/
theorem State.lane_congr (i : Fin 8) (s t : State) (h : t.lanes = s.lanes) : t.lane i = s.lane i := by
  simp [State.lane, h]

/-- The changed product after an update of it. -/
@[simp] theorem State.product_modProduct_same (i : Fin 6) (f : Product → Product) (s : State) :
    (s.modProduct i f).product i = f (s.product i) := by
  simp [State.product]

/-- Every other product is as before. -/
theorem State.product_modProduct_ne (i j : Fin 6) (h : j ≠ i) (f : Product → Product) (s : State) :
    (s.modProduct i f).product j = s.product j := by
  have : i.val ≠ j.val := fun e => h (Fin.ext e.symm)
  simp [State.product, Vector.getElem_set_ne, this]

/-- A product of a state depends on the vector of them alone. -/
theorem State.product_congr (i : Fin 6) (s t : State) (h : t.products = s.products) : t.product i = s.product i := by
  simp [State.product, h]

/-- The changed header after an update of it. -/
@[simp] theorem State.header_modHeader_same (i : Fin 6) (f : Header → Header) (s : State) :
    (s.modHeader i f).header i = f (s.header i) := by
  simp [State.header]

/-- Every other header is as before. -/
theorem State.header_modHeader_ne (i j : Fin 6) (h : j ≠ i) (f : Header → Header) (s : State) :
    (s.modHeader i f).header j = s.header j := by
  have : i.val ≠ j.val := fun e => h (Fin.ext e.symm)
  simp [State.header, Vector.getElem_set_ne, this]

/-- A header of a state depends on the vector of them alone. -/
theorem State.header_congr (i : Fin 6) (s t : State) (h : t.headers = s.headers) : t.header i = s.header i := by
  simp [State.header, h]

/-- The changed tank after an update of it. -/
@[simp] theorem State.tank_modTank_same (i : Fin 8) (f : Tank → Tank) (s : State) :
    (s.modTank i f).tank i = f (s.tank i) := by
  simp [State.tank]

/-- Every other tank is as before. -/
theorem State.tank_modTank_ne (i j : Fin 8) (h : j ≠ i) (f : Tank → Tank) (s : State) :
    (s.modTank i f).tank j = s.tank j := by
  have : i.val ≠ j.val := fun e => h (Fin.ext e.symm)
  simp [State.tank, Vector.getElem_set_ne, this]

/-- A tank of a state depends on the vector of them alone. -/
theorem State.tank_congr (i : Fin 8) (s t : State) (h : t.tanks = s.tanks) : t.tank i = s.tank i := by
  simp [State.tank, h]

/-- The changed machine after an update of it. -/
@[simp] theorem State.machine_modMachine_same (i : Fin 512) (f : MachineRecord → MachineRecord) (s : State) :
    (s.modMachine i f).machine i = f (s.machine i) := by
  simp [State.machine]

/-- Every other machine is as before. -/
theorem State.machine_modMachine_ne (i j : Fin 512) (h : j ≠ i) (f : MachineRecord → MachineRecord) (s : State) :
    (s.modMachine i f).machine j = s.machine j := by
  have : i.val ≠ j.val := fun e => h (Fin.ext e.symm)
  simp [State.machine, Vector.getElem_set_ne, this]

/-- A machine of a state depends on the vector of them alone. -/
theorem State.machine_congr (i : Fin 512) (s t : State) (h : t.machines = s.machines) : t.machine i = s.machine i := by
  simp [State.machine, h]

end Sys2Proof.Machine
end

