-- ==== Sys2Proof/Laws/Frames.lean ====
section
/-! SUPPORT. What the shared operations of the link, the headers and the lanes' grants leave unchanged: one frame law per operation, for simp. -/
namespace Sys2Proof.Machine

@[simp] theorem State.sendOn_frame (m : TxMessage) (s : State) :
    (s.sendOn m).pending = s.pending ∧ (s.sendOn m).power = s.power ∧ (s.sendOn m).marker = s.marker
      ∧ (s.sendOn m).startKind = s.startKind ∧ (s.sendOn m).elapsed = s.elapsed
      ∧ (s.sendOn m).freeCount = s.freeCount ∧ (s.sendOn m).lanes = s.lanes ∧ (s.sendOn m).products = s.products
      ∧ (s.sendOn m).headers = s.headers ∧ (s.sendOn m).slot = s.slot ∧ (s.sendOn m).tanks = s.tanks
      ∧ (s.sendOn m).bus = s.bus ∧ (s.sendOn m).machines = s.machines ∧ (s.sendOn m).pattern = s.pattern
      ∧ (s.sendOn m).journal = s.journal ∧ (s.sendOn m).burst = s.burst ∧ (s.sendOn m).shutdown = s.shutdown
      ∧ (s.sendOn m).period = s.period ∧ (s.sendOn m).settings = s.settings := by
  unfold State.sendOn; simp

@[simp] theorem State.kick_frame (s : State) :
    (s.kick).pending = s.pending ∧ (s.kick).power = s.power ∧ (s.kick).marker = s.marker
      ∧ (s.kick).startKind = s.startKind ∧ (s.kick).elapsed = s.elapsed ∧ (s.kick).freeCount = s.freeCount
      ∧ (s.kick).lanes = s.lanes ∧ (s.kick).products = s.products ∧ (s.kick).headers = s.headers
      ∧ (s.kick).slot = s.slot ∧ (s.kick).tanks = s.tanks ∧ (s.kick).bus = s.bus
      ∧ (s.kick).machines = s.machines ∧ (s.kick).pattern = s.pattern ∧ (s.kick).journal = s.journal
      ∧ (s.kick).shutdown = s.shutdown ∧ (s.kick).period = s.period ∧ (s.kick).settings = s.settings := by
  refine ⟨?_, ?_, ?_, ?_, ?_, ?_, ?_, ?_, ?_, ?_, ?_, ?_, ?_, ?_, ?_, ?_, ?_, ?_⟩ <;>
    (unfold State.kick; try dsimp only) <;> (repeat' split) <;> simp

@[simp] theorem State.interruptBurst_frame (k : HeldFrame) (s : State) :
    (s.interruptBurst k).pending = s.pending ∧ (s.interruptBurst k).power = s.power
      ∧ (s.interruptBurst k).marker = s.marker ∧ (s.interruptBurst k).startKind = s.startKind
      ∧ (s.interruptBurst k).elapsed = s.elapsed ∧ (s.interruptBurst k).freeCount = s.freeCount
      ∧ (s.interruptBurst k).lanes = s.lanes ∧ (s.interruptBurst k).products = s.products
      ∧ (s.interruptBurst k).headers = s.headers ∧ (s.interruptBurst k).slot = s.slot
      ∧ (s.interruptBurst k).tanks = s.tanks ∧ (s.interruptBurst k).bus = s.bus
      ∧ (s.interruptBurst k).machines = s.machines ∧ (s.interruptBurst k).pattern = s.pattern
      ∧ (s.interruptBurst k).journal = s.journal ∧ (s.interruptBurst k).shutdown = s.shutdown
      ∧ (s.interruptBurst k).period = s.period ∧ (s.interruptBurst k).settings = s.settings
      ∧ (s.interruptBurst k).link = s.link := by
  unfold State.interruptBurst; simp

@[simp] theorem State.holdFrame_frame (f : HeldFrame) (s : State) :
    (s.holdFrame f).pending = s.pending ∧ (s.holdFrame f).power = s.power ∧ (s.holdFrame f).marker = s.marker
      ∧ (s.holdFrame f).startKind = s.startKind ∧ (s.holdFrame f).elapsed = s.elapsed
      ∧ (s.holdFrame f).freeCount = s.freeCount ∧ (s.holdFrame f).lanes = s.lanes
      ∧ (s.holdFrame f).products = s.products ∧ (s.holdFrame f).headers = s.headers
      ∧ (s.holdFrame f).slot = s.slot ∧ (s.holdFrame f).tanks = s.tanks ∧ (s.holdFrame f).bus = s.bus
      ∧ (s.holdFrame f).machines = s.machines ∧ (s.holdFrame f).pattern = s.pattern
      ∧ (s.holdFrame f).journal = s.journal ∧ (s.holdFrame f).shutdown = s.shutdown
      ∧ (s.holdFrame f).period = s.period ∧ (s.holdFrame f).settings = s.settings := by
  refine ⟨?_, ?_, ?_, ?_, ?_, ?_, ?_, ?_, ?_, ?_, ?_, ?_, ?_, ?_, ?_, ?_, ?_, ?_⟩ <;>
    (unfold State.holdFrame; try dsimp only) <;> (repeat' split) <;> simp

@[simp] theorem State.putReply_frame (k t : Byte) (a : Answer) (s : State) :
    (s.putReply k t a).pending = s.pending ∧ (s.putReply k t a).power = s.power
      ∧ (s.putReply k t a).marker = s.marker ∧ (s.putReply k t a).startKind = s.startKind
      ∧ (s.putReply k t a).elapsed = s.elapsed ∧ (s.putReply k t a).freeCount = s.freeCount
      ∧ (s.putReply k t a).lanes = s.lanes ∧ (s.putReply k t a).products = s.products
      ∧ (s.putReply k t a).headers = s.headers ∧ (s.putReply k t a).slot = s.slot
      ∧ (s.putReply k t a).tanks = s.tanks ∧ (s.putReply k t a).bus = s.bus
      ∧ (s.putReply k t a).machines = s.machines ∧ (s.putReply k t a).pattern = s.pattern
      ∧ (s.putReply k t a).journal = s.journal ∧ (s.putReply k t a).burst = s.burst
      ∧ (s.putReply k t a).shutdown = s.shutdown ∧ (s.putReply k t a).period = s.period
      ∧ (s.putReply k t a).settings = s.settings := by
  unfold State.putReply; simp

@[simp] theorem State.usePhases_frame (n : Nat) (s : State) :
    (s.usePhases n).pending = s.pending ∧ (s.usePhases n).power = s.power ∧ (s.usePhases n).marker = s.marker
      ∧ (s.usePhases n).startKind = s.startKind ∧ (s.usePhases n).elapsed = s.elapsed
      ∧ (s.usePhases n).lanes = s.lanes ∧ (s.usePhases n).products = s.products
      ∧ (s.usePhases n).headers = s.headers ∧ (s.usePhases n).slot = s.slot ∧ (s.usePhases n).tanks = s.tanks
      ∧ (s.usePhases n).bus = s.bus ∧ (s.usePhases n).machines = s.machines
      ∧ (s.usePhases n).pattern = s.pattern ∧ (s.usePhases n).journal = s.journal
      ∧ (s.usePhases n).burst = s.burst ∧ (s.usePhases n).shutdown = s.shutdown
      ∧ (s.usePhases n).period = s.period ∧ (s.usePhases n).settings = s.settings
      ∧ (s.usePhases n).link = s.link := by
  unfold State.usePhases; simp

@[simp] theorem State.notify_frame (b : NoticeBody) (s : State) :
    (s.notify b).pending = s.pending ∧ (s.notify b).power = s.power ∧ (s.notify b).marker = s.marker
      ∧ (s.notify b).startKind = s.startKind ∧ (s.notify b).elapsed = s.elapsed
      ∧ (s.notify b).freeCount = s.freeCount ∧ (s.notify b).lanes = s.lanes ∧ (s.notify b).products = s.products
      ∧ (s.notify b).headers = s.headers ∧ (s.notify b).slot = s.slot ∧ (s.notify b).tanks = s.tanks
      ∧ (s.notify b).bus = s.bus ∧ (s.notify b).machines = s.machines ∧ (s.notify b).pattern = s.pattern
      ∧ (s.notify b).journal = s.journal ∧ (s.notify b).burst = s.burst ∧ (s.notify b).shutdown = s.shutdown
      ∧ (s.notify b).period = s.period ∧ (s.notify b).settings = s.settings := by
  refine ⟨?_, ?_, ?_, ?_, ?_, ?_, ?_, ?_, ?_, ?_, ?_, ?_, ?_, ?_, ?_, ?_, ?_, ?_, ?_⟩ <;>
    (unfold State.notify; try dsimp only) <;> (repeat' split) <;> simp

@[simp] theorem State.useReading_frame (t : Fin 8) (s : State) :
    (s.useReading t).pending = s.pending ∧ (s.useReading t).power = s.power ∧ (s.useReading t).marker = s.marker
      ∧ (s.useReading t).startKind = s.startKind ∧ (s.useReading t).elapsed = s.elapsed
      ∧ (s.useReading t).freeCount = s.freeCount ∧ (s.useReading t).lanes = s.lanes
      ∧ (s.useReading t).products = s.products ∧ (s.useReading t).headers = s.headers
      ∧ (s.useReading t).slot = s.slot ∧ (s.useReading t).bus = s.bus ∧ (s.useReading t).machines = s.machines
      ∧ (s.useReading t).pattern = s.pattern ∧ (s.useReading t).journal = s.journal
      ∧ (s.useReading t).burst = s.burst ∧ (s.useReading t).shutdown = s.shutdown
      ∧ (s.useReading t).period = s.period ∧ (s.useReading t).settings = s.settings := by
  refine ⟨?_, ?_, ?_, ?_, ?_, ?_, ?_, ?_, ?_, ?_, ?_, ?_, ?_, ?_, ?_, ?_, ?_, ?_⟩ <;>
    (unfold State.useReading; try dsimp only) <;> (repeat' split) <;> simp

/-- A projection each unit's part preserves is preserved by the walk over eight units. -/
theorem eachOfEight_keeps {α : Type} (π : State → α) (f : Fin 8 → State → State) (h : ∀ i s, π (f i s) = π s)
    (s : State) : π (eachOfEight f s) = π s := by
  simp [eachOfEight, eightNumbers, h]

/-- The same over six units. -/
theorem eachOfSix_keeps {α : Type} (π : State → α) (f : Fin 6 → State → State) (h : ∀ i s, π (f i s) = π s)
    (s : State) : π (eachOfSix f s) = π s := by
  simp [eachOfSix, sixNumbers, h]

@[simp] theorem passLane_frame (h : Fin 6) (a : Nat × State) (i : Fin 8) :
    (passLane h a i).2.pending = a.2.pending ∧ (passLane h a i).2.power = a.2.power
      ∧ (passLane h a i).2.marker = a.2.marker ∧ (passLane h a i).2.startKind = a.2.startKind
      ∧ (passLane h a i).2.elapsed = a.2.elapsed ∧ (passLane h a i).2.freeCount = a.2.freeCount
      ∧ (passLane h a i).2.products = a.2.products ∧ (passLane h a i).2.headers = a.2.headers
      ∧ (passLane h a i).2.slot = a.2.slot ∧ (passLane h a i).2.tanks = a.2.tanks
      ∧ (passLane h a i).2.bus = a.2.bus ∧ (passLane h a i).2.machines = a.2.machines
      ∧ (passLane h a i).2.pattern = a.2.pattern ∧ (passLane h a i).2.journal = a.2.journal
      ∧ (passLane h a i).2.burst = a.2.burst ∧ (passLane h a i).2.shutdown = a.2.shutdown
      ∧ (passLane h a i).2.period = a.2.period ∧ (passLane h a i).2.settings = a.2.settings
      ∧ (passLane h a i).2.link = a.2.link := by
  unfold passLane; (repeat' split) <;> simp

@[simp] theorem State.grantPass_frame (h : Fin 6) (s : State) :
    (s.grantPass h).pending = s.pending ∧ (s.grantPass h).power = s.power ∧ (s.grantPass h).marker = s.marker
      ∧ (s.grantPass h).startKind = s.startKind ∧ (s.grantPass h).elapsed = s.elapsed
      ∧ (s.grantPass h).freeCount = s.freeCount ∧ (s.grantPass h).products = s.products
      ∧ (s.grantPass h).headers = s.headers ∧ (s.grantPass h).slot = s.slot ∧ (s.grantPass h).tanks = s.tanks
      ∧ (s.grantPass h).bus = s.bus ∧ (s.grantPass h).machines = s.machines
      ∧ (s.grantPass h).pattern = s.pattern ∧ (s.grantPass h).journal = s.journal
      ∧ (s.grantPass h).burst = s.burst ∧ (s.grantPass h).shutdown = s.shutdown
      ∧ (s.grantPass h).period = s.period ∧ (s.grantPass h).settings = s.settings
      ∧ (s.grantPass h).link = s.link := by
  simp [State.grantPass, eightNumbers]

@[simp] theorem State.setPump_frame (h : Fin 6) (p : PumpState) (a b : Option Timer) (s : State) :
    (s.setPump h p a b).pending = s.pending ∧ (s.setPump h p a b).power = s.power
      ∧ (s.setPump h p a b).marker = s.marker ∧ (s.setPump h p a b).startKind = s.startKind
      ∧ (s.setPump h p a b).elapsed = s.elapsed ∧ (s.setPump h p a b).freeCount = s.freeCount
      ∧ (s.setPump h p a b).products = s.products ∧ (s.setPump h p a b).slot = s.slot
      ∧ (s.setPump h p a b).tanks = s.tanks ∧ (s.setPump h p a b).bus = s.bus
      ∧ (s.setPump h p a b).machines = s.machines ∧ (s.setPump h p a b).pattern = s.pattern
      ∧ (s.setPump h p a b).journal = s.journal ∧ (s.setPump h p a b).burst = s.burst
      ∧ (s.setPump h p a b).shutdown = s.shutdown ∧ (s.setPump h p a b).period = s.period
      ∧ (s.setPump h p a b).settings = s.settings ∧ (s.setPump h p a b).link = s.link := by
  unfold State.setPump; simp

@[simp] theorem State.enterRunOn_frame (h : Fin 6) (s : State) :
    (s.enterRunOn h).pending = s.pending ∧ (s.enterRunOn h).power = s.power ∧ (s.enterRunOn h).marker = s.marker
      ∧ (s.enterRunOn h).startKind = s.startKind ∧ (s.enterRunOn h).elapsed = s.elapsed
      ∧ (s.enterRunOn h).freeCount = s.freeCount ∧ (s.enterRunOn h).products = s.products
      ∧ (s.enterRunOn h).slot = s.slot ∧ (s.enterRunOn h).tanks = s.tanks ∧ (s.enterRunOn h).bus = s.bus
      ∧ (s.enterRunOn h).machines = s.machines ∧ (s.enterRunOn h).pattern = s.pattern
      ∧ (s.enterRunOn h).journal = s.journal ∧ (s.enterRunOn h).burst = s.burst
      ∧ (s.enterRunOn h).shutdown = s.shutdown ∧ (s.enterRunOn h).period = s.period
      ∧ (s.enterRunOn h).settings = s.settings ∧ (s.enterRunOn h).link = s.link := by
  refine ⟨?_, ?_, ?_, ?_, ?_, ?_, ?_, ?_, ?_, ?_, ?_, ?_, ?_, ?_, ?_, ?_, ?_, ?_⟩ <;>
    (unfold State.enterRunOn; try dsimp only) <;> (repeat' split) <;> simp

@[simp] theorem State.proved_frame (h : Fin 6) (s : State) :
    (s.proved h).pending = s.pending ∧ (s.proved h).power = s.power ∧ (s.proved h).marker = s.marker
      ∧ (s.proved h).startKind = s.startKind ∧ (s.proved h).elapsed = s.elapsed
      ∧ (s.proved h).freeCount = s.freeCount ∧ (s.proved h).products = s.products ∧ (s.proved h).slot = s.slot
      ∧ (s.proved h).tanks = s.tanks ∧ (s.proved h).bus = s.bus ∧ (s.proved h).machines = s.machines
      ∧ (s.proved h).pattern = s.pattern ∧ (s.proved h).journal = s.journal ∧ (s.proved h).burst = s.burst
      ∧ (s.proved h).shutdown = s.shutdown ∧ (s.proved h).period = s.period ∧ (s.proved h).settings = s.settings
      ∧ (s.proved h).link = s.link := by
  refine ⟨?_, ?_, ?_, ?_, ?_, ?_, ?_, ?_, ?_, ?_, ?_, ?_, ?_, ?_, ?_, ?_, ?_, ?_⟩ <;>
    (unfold State.proved; try dsimp only) <;> (repeat' split) <;> simp

@[simp] theorem State.startPump_frame (h : Fin 6) (s : State) :
    (s.startPump h).pending = s.pending ∧ (s.startPump h).power = s.power ∧ (s.startPump h).marker = s.marker
      ∧ (s.startPump h).startKind = s.startKind ∧ (s.startPump h).elapsed = s.elapsed
      ∧ (s.startPump h).freeCount = s.freeCount ∧ (s.startPump h).products = s.products
      ∧ (s.startPump h).tanks = s.tanks ∧ (s.startPump h).bus = s.bus ∧ (s.startPump h).machines = s.machines
      ∧ (s.startPump h).pattern = s.pattern ∧ (s.startPump h).journal = s.journal
      ∧ (s.startPump h).burst = s.burst ∧ (s.startPump h).shutdown = s.shutdown
      ∧ (s.startPump h).period = s.period ∧ (s.startPump h).settings = s.settings
      ∧ (s.startPump h).link = s.link := by
  refine ⟨?_, ?_, ?_, ?_, ?_, ?_, ?_, ?_, ?_, ?_, ?_, ?_, ?_, ?_, ?_, ?_, ?_⟩ <;>
    (unfold State.startPump; try dsimp only) <;> (repeat' split) <;> simp

@[simp] theorem serveHeads_frame (q : List (Fin 6)) (s : State) :
    (serveHeads q s).pending = s.pending ∧ (serveHeads q s).power = s.power ∧ (serveHeads q s).marker = s.marker
      ∧ (serveHeads q s).startKind = s.startKind ∧ (serveHeads q s).elapsed = s.elapsed
      ∧ (serveHeads q s).freeCount = s.freeCount ∧ (serveHeads q s).products = s.products
      ∧ (serveHeads q s).tanks = s.tanks ∧ (serveHeads q s).bus = s.bus ∧ (serveHeads q s).machines = s.machines
      ∧ (serveHeads q s).pattern = s.pattern ∧ (serveHeads q s).journal = s.journal
      ∧ (serveHeads q s).burst = s.burst ∧ (serveHeads q s).shutdown = s.shutdown
      ∧ (serveHeads q s).period = s.period ∧ (serveHeads q s).settings = s.settings
      ∧ (serveHeads q s).link = s.link := by
  induction q generalizing s with
  | nil => simp [serveHeads]
  | cons h rest ih => unfold serveHeads; split <;> simp [ih]

@[simp] theorem State.testSlot_frame (s : State) :
    (s.testSlot).pending = s.pending ∧ (s.testSlot).power = s.power ∧ (s.testSlot).marker = s.marker
      ∧ (s.testSlot).startKind = s.startKind ∧ (s.testSlot).elapsed = s.elapsed
      ∧ (s.testSlot).freeCount = s.freeCount ∧ (s.testSlot).products = s.products ∧ (s.testSlot).tanks = s.tanks
      ∧ (s.testSlot).bus = s.bus ∧ (s.testSlot).machines = s.machines ∧ (s.testSlot).pattern = s.pattern
      ∧ (s.testSlot).journal = s.journal ∧ (s.testSlot).burst = s.burst ∧ (s.testSlot).shutdown = s.shutdown
      ∧ (s.testSlot).period = s.period ∧ (s.testSlot).settings = s.settings ∧ (s.testSlot).link = s.link := by
  unfold State.testSlot; simp

@[simp] theorem State.joinQueue_frame (h : Fin 6) (s : State) :
    (s.joinQueue h).pending = s.pending ∧ (s.joinQueue h).power = s.power ∧ (s.joinQueue h).marker = s.marker
      ∧ (s.joinQueue h).startKind = s.startKind ∧ (s.joinQueue h).elapsed = s.elapsed
      ∧ (s.joinQueue h).freeCount = s.freeCount ∧ (s.joinQueue h).products = s.products
      ∧ (s.joinQueue h).tanks = s.tanks ∧ (s.joinQueue h).bus = s.bus ∧ (s.joinQueue h).machines = s.machines
      ∧ (s.joinQueue h).pattern = s.pattern ∧ (s.joinQueue h).journal = s.journal
      ∧ (s.joinQueue h).burst = s.burst ∧ (s.joinQueue h).shutdown = s.shutdown
      ∧ (s.joinQueue h).period = s.period ∧ (s.joinQueue h).settings = s.settings
      ∧ (s.joinQueue h).link = s.link := by
  refine ⟨?_, ?_, ?_, ?_, ?_, ?_, ?_, ?_, ?_, ?_, ?_, ?_, ?_, ?_, ?_, ?_, ?_⟩ <;>
    (unfold State.joinQueue; try dsimp only) <;> (repeat' split) <;> simp

@[simp] theorem State.demandAppeared_frame (h : Fin 6) (b : Bool) (s : State) :
    (s.demandAppeared h b).pending = s.pending ∧ (s.demandAppeared h b).power = s.power
      ∧ (s.demandAppeared h b).marker = s.marker ∧ (s.demandAppeared h b).startKind = s.startKind
      ∧ (s.demandAppeared h b).elapsed = s.elapsed ∧ (s.demandAppeared h b).freeCount = s.freeCount
      ∧ (s.demandAppeared h b).products = s.products ∧ (s.demandAppeared h b).tanks = s.tanks
      ∧ (s.demandAppeared h b).bus = s.bus ∧ (s.demandAppeared h b).machines = s.machines
      ∧ (s.demandAppeared h b).pattern = s.pattern ∧ (s.demandAppeared h b).journal = s.journal
      ∧ (s.demandAppeared h b).burst = s.burst ∧ (s.demandAppeared h b).shutdown = s.shutdown
      ∧ (s.demandAppeared h b).period = s.period ∧ (s.demandAppeared h b).settings = s.settings
      ∧ (s.demandAppeared h b).link = s.link := by
  refine ⟨?_, ?_, ?_, ?_, ?_, ?_, ?_, ?_, ?_, ?_, ?_, ?_, ?_, ?_, ?_, ?_, ?_⟩ <;>
    (unfold State.demandAppeared; try dsimp only) <;> (repeat' split) <;> simp

@[simp] theorem State.demandLeft_frame (h : Fin 6) (s : State) :
    (s.demandLeft h).pending = s.pending ∧ (s.demandLeft h).power = s.power ∧ (s.demandLeft h).marker = s.marker
      ∧ (s.demandLeft h).startKind = s.startKind ∧ (s.demandLeft h).elapsed = s.elapsed
      ∧ (s.demandLeft h).freeCount = s.freeCount ∧ (s.demandLeft h).products = s.products
      ∧ (s.demandLeft h).tanks = s.tanks ∧ (s.demandLeft h).bus = s.bus ∧ (s.demandLeft h).machines = s.machines
      ∧ (s.demandLeft h).pattern = s.pattern ∧ (s.demandLeft h).journal = s.journal
      ∧ (s.demandLeft h).burst = s.burst ∧ (s.demandLeft h).shutdown = s.shutdown
      ∧ (s.demandLeft h).period = s.period ∧ (s.demandLeft h).settings = s.settings
      ∧ (s.demandLeft h).link = s.link := by
  refine ⟨?_, ?_, ?_, ?_, ?_, ?_, ?_, ?_, ?_, ?_, ?_, ?_, ?_, ?_, ?_, ?_, ?_⟩ <;>
    (unfold State.demandLeft; try dsimp only) <;> (repeat' split) <;> simp

@[simp] theorem State.sendEnding_frame (p : Fin 6) (f : Lane → Lane) (s : State) :
    (s.sendEnding p f).pending = s.pending ∧ (s.sendEnding p f).power = s.power
      ∧ (s.sendEnding p f).marker = s.marker ∧ (s.sendEnding p f).startKind = s.startKind
      ∧ (s.sendEnding p f).elapsed = s.elapsed ∧ (s.sendEnding p f).freeCount = s.freeCount
      ∧ (s.sendEnding p f).products = s.products ∧ (s.sendEnding p f).headers = s.headers
      ∧ (s.sendEnding p f).slot = s.slot ∧ (s.sendEnding p f).tanks = s.tanks ∧ (s.sendEnding p f).bus = s.bus
      ∧ (s.sendEnding p f).machines = s.machines ∧ (s.sendEnding p f).pattern = s.pattern
      ∧ (s.sendEnding p f).journal = s.journal ∧ (s.sendEnding p f).burst = s.burst
      ∧ (s.sendEnding p f).shutdown = s.shutdown ∧ (s.sendEnding p f).period = s.period
      ∧ (s.sendEnding p f).settings = s.settings ∧ (s.sendEnding p f).link = s.link := by
  refine ⟨?_, ?_, ?_, ?_, ?_, ?_, ?_, ?_, ?_, ?_, ?_, ?_, ?_, ?_, ?_, ?_, ?_, ?_, ?_⟩ <;>
    exact eachOfEight_keeps _ _ (fun _ _ => by split <;> simp) _

@[simp] theorem State.failPump_frame (h : Fin 6) (r : PumpReason) (s : State) :
    (s.failPump h r).pending = s.pending ∧ (s.failPump h r).power = s.power ∧ (s.failPump h r).marker = s.marker
      ∧ (s.failPump h r).startKind = s.startKind ∧ (s.failPump h r).elapsed = s.elapsed
      ∧ (s.failPump h r).freeCount = s.freeCount ∧ (s.failPump h r).products = s.products
      ∧ (s.failPump h r).slot = s.slot ∧ (s.failPump h r).tanks = s.tanks ∧ (s.failPump h r).bus = s.bus
      ∧ (s.failPump h r).machines = s.machines ∧ (s.failPump h r).pattern = s.pattern
      ∧ (s.failPump h r).journal = s.journal ∧ (s.failPump h r).burst = s.burst
      ∧ (s.failPump h r).shutdown = s.shutdown ∧ (s.failPump h r).period = s.period
      ∧ (s.failPump h r).settings = s.settings := by
  unfold State.failPump; simp

@[simp] theorem State.stopHeader_frame (h : Fin 6) (s : State) :
    (s.stopHeader h).pending = s.pending ∧ (s.stopHeader h).power = s.power ∧ (s.stopHeader h).marker = s.marker
      ∧ (s.stopHeader h).startKind = s.startKind ∧ (s.stopHeader h).elapsed = s.elapsed
      ∧ (s.stopHeader h).freeCount = s.freeCount ∧ (s.stopHeader h).products = s.products
      ∧ (s.stopHeader h).tanks = s.tanks ∧ (s.stopHeader h).bus = s.bus ∧ (s.stopHeader h).machines = s.machines
      ∧ (s.stopHeader h).pattern = s.pattern ∧ (s.stopHeader h).journal = s.journal
      ∧ (s.stopHeader h).burst = s.burst ∧ (s.stopHeader h).shutdown = s.shutdown
      ∧ (s.stopHeader h).period = s.period ∧ (s.stopHeader h).settings = s.settings
      ∧ (s.stopHeader h).link = s.link := by
  refine ⟨?_, ?_, ?_, ?_, ?_, ?_, ?_, ?_, ?_, ?_, ?_, ?_, ?_, ?_, ?_, ?_, ?_⟩ <;>
    (unfold State.stopHeader; try dsimp only) <;> (repeat' split) <;> simp

@[simp] theorem State.stopHeaders_frame (s : State) :
    (s.stopHeaders).pending = s.pending ∧ (s.stopHeaders).power = s.power ∧ (s.stopHeaders).marker = s.marker
      ∧ (s.stopHeaders).startKind = s.startKind ∧ (s.stopHeaders).elapsed = s.elapsed
      ∧ (s.stopHeaders).freeCount = s.freeCount ∧ (s.stopHeaders).products = s.products
      ∧ (s.stopHeaders).tanks = s.tanks ∧ (s.stopHeaders).bus = s.bus ∧ (s.stopHeaders).machines = s.machines
      ∧ (s.stopHeaders).pattern = s.pattern ∧ (s.stopHeaders).journal = s.journal
      ∧ (s.stopHeaders).burst = s.burst ∧ (s.stopHeaders).shutdown = s.shutdown
      ∧ (s.stopHeaders).period = s.period ∧ (s.stopHeaders).settings = s.settings
      ∧ (s.stopHeaders).link = s.link := by
  refine ⟨?_, ?_, ?_, ?_, ?_, ?_, ?_, ?_, ?_, ?_, ?_, ?_, ?_, ?_, ?_, ?_, ?_⟩ <;>
    exact eachOfSix_keeps _ _ (fun _ _ => by simp) _

@[simp] theorem proveChange_frame (h : Fin 6) (b : Bool) (s : State) :
    (proveChange h b s).pending = s.pending ∧ (proveChange h b s).power = s.power
      ∧ (proveChange h b s).marker = s.marker ∧ (proveChange h b s).startKind = s.startKind
      ∧ (proveChange h b s).elapsed = s.elapsed ∧ (proveChange h b s).freeCount = s.freeCount
      ∧ (proveChange h b s).products = s.products ∧ (proveChange h b s).slot = s.slot
      ∧ (proveChange h b s).tanks = s.tanks ∧ (proveChange h b s).bus = s.bus
      ∧ (proveChange h b s).machines = s.machines ∧ (proveChange h b s).pattern = s.pattern
      ∧ (proveChange h b s).journal = s.journal ∧ (proveChange h b s).burst = s.burst
      ∧ (proveChange h b s).shutdown = s.shutdown ∧ (proveChange h b s).period = s.period
      ∧ (proveChange h b s).settings = s.settings := by
  refine ⟨?_, ?_, ?_, ?_, ?_, ?_, ?_, ?_, ?_, ?_, ?_, ?_, ?_, ?_, ?_, ?_, ?_⟩ <;>
    (unfold proveChange; try dsimp only) <;> (repeat' split) <;> simp

@[simp] theorem provingTimerExpiry_frame (h : Fin 6) (s : State) :
    (provingTimerExpiry h s).pending = s.pending ∧ (provingTimerExpiry h s).power = s.power
      ∧ (provingTimerExpiry h s).marker = s.marker ∧ (provingTimerExpiry h s).startKind = s.startKind
      ∧ (provingTimerExpiry h s).elapsed = s.elapsed ∧ (provingTimerExpiry h s).freeCount = s.freeCount
      ∧ (provingTimerExpiry h s).products = s.products ∧ (provingTimerExpiry h s).slot = s.slot
      ∧ (provingTimerExpiry h s).tanks = s.tanks ∧ (provingTimerExpiry h s).bus = s.bus
      ∧ (provingTimerExpiry h s).machines = s.machines ∧ (provingTimerExpiry h s).pattern = s.pattern
      ∧ (provingTimerExpiry h s).journal = s.journal ∧ (provingTimerExpiry h s).burst = s.burst
      ∧ (provingTimerExpiry h s).shutdown = s.shutdown ∧ (provingTimerExpiry h s).period = s.period
      ∧ (provingTimerExpiry h s).settings = s.settings := by
  refine ⟨?_, ?_, ?_, ?_, ?_, ?_, ?_, ?_, ?_, ?_, ?_, ?_, ?_, ?_, ?_, ?_, ?_⟩ <;>
    (unfold provingTimerExpiry; try dsimp only) <;> (repeat' split) <;> simp

@[simp] theorem runonExpiry_frame (h : Fin 6) (s : State) :
    (runonExpiry h s).pending = s.pending ∧ (runonExpiry h s).power = s.power
      ∧ (runonExpiry h s).marker = s.marker ∧ (runonExpiry h s).startKind = s.startKind
      ∧ (runonExpiry h s).elapsed = s.elapsed ∧ (runonExpiry h s).freeCount = s.freeCount
      ∧ (runonExpiry h s).products = s.products ∧ (runonExpiry h s).slot = s.slot
      ∧ (runonExpiry h s).tanks = s.tanks ∧ (runonExpiry h s).bus = s.bus
      ∧ (runonExpiry h s).machines = s.machines ∧ (runonExpiry h s).pattern = s.pattern
      ∧ (runonExpiry h s).journal = s.journal ∧ (runonExpiry h s).burst = s.burst
      ∧ (runonExpiry h s).shutdown = s.shutdown ∧ (runonExpiry h s).period = s.period
      ∧ (runonExpiry h s).settings = s.settings ∧ (runonExpiry h s).link = s.link := by
  refine ⟨?_, ?_, ?_, ?_, ?_, ?_, ?_, ?_, ?_, ?_, ?_, ?_, ?_, ?_, ?_, ?_, ?_, ?_⟩ <;>
    (unfold runonExpiry; try dsimp only) <;> (repeat' split) <;> simp

@[simp] theorem staggerElapsed_frame (s : State) :
    (staggerElapsed s).pending = s.pending ∧ (staggerElapsed s).power = s.power
      ∧ (staggerElapsed s).marker = s.marker ∧ (staggerElapsed s).startKind = s.startKind
      ∧ (staggerElapsed s).elapsed = s.elapsed ∧ (staggerElapsed s).freeCount = s.freeCount
      ∧ (staggerElapsed s).products = s.products ∧ (staggerElapsed s).tanks = s.tanks
      ∧ (staggerElapsed s).bus = s.bus ∧ (staggerElapsed s).machines = s.machines
      ∧ (staggerElapsed s).pattern = s.pattern ∧ (staggerElapsed s).journal = s.journal
      ∧ (staggerElapsed s).burst = s.burst ∧ (staggerElapsed s).shutdown = s.shutdown
      ∧ (staggerElapsed s).period = s.period ∧ (staggerElapsed s).settings = s.settings
      ∧ (staggerElapsed s).link = s.link := by
  unfold staggerElapsed; simp

@[simp] theorem grantTaken_frame (i : Fin 8) (s : State) :
    (grantTaken i s).pending = s.pending ∧ (grantTaken i s).power = s.power ∧ (grantTaken i s).marker = s.marker
      ∧ (grantTaken i s).startKind = s.startKind ∧ (grantTaken i s).elapsed = s.elapsed
      ∧ (grantTaken i s).freeCount = s.freeCount ∧ (grantTaken i s).products = s.products
      ∧ (grantTaken i s).headers = s.headers ∧ (grantTaken i s).slot = s.slot ∧ (grantTaken i s).tanks = s.tanks
      ∧ (grantTaken i s).bus = s.bus ∧ (grantTaken i s).machines = s.machines
      ∧ (grantTaken i s).pattern = s.pattern ∧ (grantTaken i s).journal = s.journal
      ∧ (grantTaken i s).burst = s.burst ∧ (grantTaken i s).shutdown = s.shutdown
      ∧ (grantTaken i s).period = s.period ∧ (grantTaken i s).settings = s.settings := by
  refine ⟨?_, ?_, ?_, ?_, ?_, ?_, ?_, ?_, ?_, ?_, ?_, ?_, ?_, ?_, ?_, ?_, ?_, ?_⟩ <;>
    (unfold grantTaken; try dsimp only) <;> (repeat' split) <;> simp

end Sys2Proof.Machine
end

