-- ==== Sys2Proof/Laws/FramesTank.lean ====
section
/-! SUPPORT. What the operations over machine records, tanks and the gauge bus leave unchanged: one frame law per operation, for simp. -/
namespace Sys2Proof.Machine

@[simp] theorem State.hourProcessing_frame (m : Fin 512) (i : Fin 8) (r : Option Nat) (s : State) :
    (s.hourProcessing m i r).2.pending = s.pending ∧ (s.hourProcessing m i r).2.power = s.power
      ∧ (s.hourProcessing m i r).2.marker = s.marker ∧ (s.hourProcessing m i r).2.startKind = s.startKind
      ∧ (s.hourProcessing m i r).2.elapsed = s.elapsed
      ∧ (s.hourProcessing m i r).2.freeCount = s.freeCount ∧ (s.hourProcessing m i r).2.lanes = s.lanes
      ∧ (s.hourProcessing m i r).2.products = s.products ∧ (s.hourProcessing m i r).2.headers = s.headers
      ∧ (s.hourProcessing m i r).2.slot = s.slot ∧ (s.hourProcessing m i r).2.tanks = s.tanks
      ∧ (s.hourProcessing m i r).2.bus = s.bus ∧ (s.hourProcessing m i r).2.pattern = s.pattern
      ∧ (s.hourProcessing m i r).2.journal = s.journal ∧ (s.hourProcessing m i r).2.burst = s.burst
      ∧ (s.hourProcessing m i r).2.shutdown = s.shutdown ∧ (s.hourProcessing m i r).2.period = s.period
      ∧ (s.hourProcessing m i r).2.settings = s.settings := by
  refine ⟨?_, ?_, ?_, ?_, ?_, ?_, ?_, ?_, ?_, ?_, ?_, ?_, ?_, ?_, ?_, ?_, ?_, ?_⟩ <;>
    (unfold State.hourProcessing; try dsimp only) <;> (repeat' split) <;> simp

@[simp] theorem State.rollMachine_frame (m : Fin 512) (s : State) :
    (s.rollMachine m).pending = s.pending ∧ (s.rollMachine m).power = s.power
      ∧ (s.rollMachine m).marker = s.marker ∧ (s.rollMachine m).startKind = s.startKind
      ∧ (s.rollMachine m).elapsed = s.elapsed ∧ (s.rollMachine m).freeCount = s.freeCount
      ∧ (s.rollMachine m).lanes = s.lanes ∧ (s.rollMachine m).products = s.products
      ∧ (s.rollMachine m).headers = s.headers ∧ (s.rollMachine m).slot = s.slot
      ∧ (s.rollMachine m).tanks = s.tanks ∧ (s.rollMachine m).bus = s.bus
      ∧ (s.rollMachine m).pattern = s.pattern ∧ (s.rollMachine m).journal = s.journal
      ∧ (s.rollMachine m).burst = s.burst ∧ (s.rollMachine m).shutdown = s.shutdown
      ∧ (s.rollMachine m).period = s.period ∧ (s.rollMachine m).settings = s.settings
      ∧ (s.rollMachine m).link = s.link := by
  unfold State.rollMachine; simp

@[simp] theorem State.writeMachine_frame (k : Nat) (v : MachineValues) (m : Fin 512) (s : State) :
    (s.writeMachine k v m).pending = s.pending ∧ (s.writeMachine k v m).power = s.power
      ∧ (s.writeMachine k v m).marker = s.marker ∧ (s.writeMachine k v m).startKind = s.startKind
      ∧ (s.writeMachine k v m).elapsed = s.elapsed ∧ (s.writeMachine k v m).freeCount = s.freeCount
      ∧ (s.writeMachine k v m).lanes = s.lanes ∧ (s.writeMachine k v m).products = s.products
      ∧ (s.writeMachine k v m).headers = s.headers ∧ (s.writeMachine k v m).slot = s.slot
      ∧ (s.writeMachine k v m).tanks = s.tanks ∧ (s.writeMachine k v m).bus = s.bus
      ∧ (s.writeMachine k v m).pattern = s.pattern ∧ (s.writeMachine k v m).journal = s.journal
      ∧ (s.writeMachine k v m).burst = s.burst ∧ (s.writeMachine k v m).shutdown = s.shutdown
      ∧ (s.writeMachine k v m).period = s.period ∧ (s.writeMachine k v m).settings = s.settings
      ∧ (s.writeMachine k v m).link = s.link := by
  unfold State.writeMachine; simp

@[simp] theorem State.applyPattern_frame (p : PatternFields) (b n : Nat) (s : State) :
    (s.applyPattern p b n).pending = s.pending ∧ (s.applyPattern p b n).power = s.power
      ∧ (s.applyPattern p b n).marker = s.marker ∧ (s.applyPattern p b n).startKind = s.startKind
      ∧ (s.applyPattern p b n).elapsed = s.elapsed ∧ (s.applyPattern p b n).freeCount = s.freeCount
      ∧ (s.applyPattern p b n).lanes = s.lanes ∧ (s.applyPattern p b n).products = s.products
      ∧ (s.applyPattern p b n).headers = s.headers ∧ (s.applyPattern p b n).slot = s.slot
      ∧ (s.applyPattern p b n).tanks = s.tanks ∧ (s.applyPattern p b n).bus = s.bus
      ∧ (s.applyPattern p b n).pattern = s.pattern ∧ (s.applyPattern p b n).journal = s.journal
      ∧ (s.applyPattern p b n).burst = s.burst ∧ (s.applyPattern p b n).shutdown = s.shutdown
      ∧ (s.applyPattern p b n).period = s.period ∧ (s.applyPattern p b n).settings = s.settings
      ∧ (s.applyPattern p b n).link = s.link := by
  refine ⟨?_, ?_, ?_, ?_, ?_, ?_, ?_, ?_, ?_, ?_, ?_, ?_, ?_, ?_, ?_, ?_, ?_, ?_, ?_⟩ <;>
    exact eachOfEight_keeps _ _ (fun _ _ => by split <;> simp) _

@[simp] theorem State.evaluateBand_frame (t : Fin 8) (s : State) :
    (s.evaluateBand t).pending = s.pending ∧ (s.evaluateBand t).power = s.power
      ∧ (s.evaluateBand t).marker = s.marker ∧ (s.evaluateBand t).startKind = s.startKind
      ∧ (s.evaluateBand t).elapsed = s.elapsed ∧ (s.evaluateBand t).freeCount = s.freeCount
      ∧ (s.evaluateBand t).products = s.products ∧ (s.evaluateBand t).headers = s.headers
      ∧ (s.evaluateBand t).slot = s.slot ∧ (s.evaluateBand t).bus = s.bus
      ∧ (s.evaluateBand t).machines = s.machines ∧ (s.evaluateBand t).pattern = s.pattern
      ∧ (s.evaluateBand t).journal = s.journal ∧ (s.evaluateBand t).burst = s.burst
      ∧ (s.evaluateBand t).shutdown = s.shutdown ∧ (s.evaluateBand t).period = s.period
      ∧ (s.evaluateBand t).settings = s.settings := by
  refine ⟨?_, ?_, ?_, ?_, ?_, ?_, ?_, ?_, ?_, ?_, ?_, ?_, ?_, ?_, ?_, ?_, ?_⟩ <;>
    (unfold State.evaluateBand; try dsimp only) <;> (repeat' split) <;> simp

@[simp] theorem State.debitTank_frame (t : Fin 8) (n : Nat) (s : State) :
    (s.debitTank t n).pending = s.pending ∧ (s.debitTank t n).power = s.power
      ∧ (s.debitTank t n).marker = s.marker ∧ (s.debitTank t n).startKind = s.startKind
      ∧ (s.debitTank t n).elapsed = s.elapsed ∧ (s.debitTank t n).freeCount = s.freeCount
      ∧ (s.debitTank t n).products = s.products ∧ (s.debitTank t n).headers = s.headers
      ∧ (s.debitTank t n).slot = s.slot ∧ (s.debitTank t n).bus = s.bus
      ∧ (s.debitTank t n).machines = s.machines ∧ (s.debitTank t n).pattern = s.pattern
      ∧ (s.debitTank t n).journal = s.journal ∧ (s.debitTank t n).burst = s.burst
      ∧ (s.debitTank t n).shutdown = s.shutdown ∧ (s.debitTank t n).period = s.period
      ∧ (s.debitTank t n).settings = s.settings := by
  unfold State.debitTank; simp

@[simp] theorem State.completeReceipt_frame (t : Fin 8) (r : Receipt) (g : Int) (d : Nat) (b : Bool) (s : State) :
    (s.completeReceipt t r g d b).pending = s.pending ∧ (s.completeReceipt t r g d b).power = s.power
      ∧ (s.completeReceipt t r g d b).marker = s.marker ∧ (s.completeReceipt t r g d b).startKind = s.startKind
      ∧ (s.completeReceipt t r g d b).elapsed = s.elapsed
      ∧ (s.completeReceipt t r g d b).freeCount = s.freeCount ∧ (s.completeReceipt t r g d b).lanes = s.lanes
      ∧ (s.completeReceipt t r g d b).products = s.products ∧ (s.completeReceipt t r g d b).headers = s.headers
      ∧ (s.completeReceipt t r g d b).slot = s.slot ∧ (s.completeReceipt t r g d b).bus = s.bus
      ∧ (s.completeReceipt t r g d b).machines = s.machines ∧ (s.completeReceipt t r g d b).pattern = s.pattern
      ∧ (s.completeReceipt t r g d b).journal = s.journal ∧ (s.completeReceipt t r g d b).burst = s.burst
      ∧ (s.completeReceipt t r g d b).shutdown = s.shutdown ∧ (s.completeReceipt t r g d b).period = s.period
      ∧ (s.completeReceipt t r g d b).settings = s.settings := by
  unfold State.completeReceipt; simp

@[simp] theorem State.settleRound_frame (t : Fin 8) (s : State) :
    (s.settleRound t).pending = s.pending ∧ (s.settleRound t).power = s.power
      ∧ (s.settleRound t).marker = s.marker ∧ (s.settleRound t).startKind = s.startKind
      ∧ (s.settleRound t).elapsed = s.elapsed ∧ (s.settleRound t).freeCount = s.freeCount
      ∧ (s.settleRound t).lanes = s.lanes ∧ (s.settleRound t).products = s.products
      ∧ (s.settleRound t).headers = s.headers ∧ (s.settleRound t).slot = s.slot ∧ (s.settleRound t).bus = s.bus
      ∧ (s.settleRound t).machines = s.machines ∧ (s.settleRound t).pattern = s.pattern
      ∧ (s.settleRound t).journal = s.journal ∧ (s.settleRound t).burst = s.burst
      ∧ (s.settleRound t).shutdown = s.shutdown ∧ (s.settleRound t).period = s.period
      ∧ (s.settleRound t).settings = s.settings := by
  refine ⟨?_, ?_, ?_, ?_, ?_, ?_, ?_, ?_, ?_, ?_, ?_, ?_, ?_, ?_, ?_, ?_, ?_, ?_⟩ <;>
    (unfold State.settleRound; try dsimp only) <;> (repeat' split) <;> simp

@[simp] theorem State.sendPoll_frame (t : Fin 8) (s : State) :
    (s.sendPoll t).pending = s.pending ∧ (s.sendPoll t).power = s.power ∧ (s.sendPoll t).marker = s.marker
      ∧ (s.sendPoll t).startKind = s.startKind ∧ (s.sendPoll t).elapsed = s.elapsed
      ∧ (s.sendPoll t).freeCount = s.freeCount ∧ (s.sendPoll t).lanes = s.lanes
      ∧ (s.sendPoll t).products = s.products ∧ (s.sendPoll t).headers = s.headers ∧ (s.sendPoll t).slot = s.slot
      ∧ (s.sendPoll t).tanks = s.tanks ∧ (s.sendPoll t).machines = s.machines
      ∧ (s.sendPoll t).pattern = s.pattern ∧ (s.sendPoll t).journal = s.journal ∧ (s.sendPoll t).burst = s.burst
      ∧ (s.sendPoll t).shutdown = s.shutdown ∧ (s.sendPoll t).period = s.period
      ∧ (s.sendPoll t).settings = s.settings ∧ (s.sendPoll t).link = s.link := by
  unfold State.sendPoll; simp

@[simp] theorem State.endRound_frame (s : State) :
    s.endRound.pending = s.pending ∧ s.endRound.power = s.power ∧ s.endRound.marker = s.marker
      ∧ s.endRound.startKind = s.startKind ∧ s.endRound.elapsed = s.elapsed ∧ s.endRound.freeCount = s.freeCount
      ∧ s.endRound.lanes = s.lanes ∧ s.endRound.products = s.products ∧ s.endRound.headers = s.headers
      ∧ s.endRound.slot = s.slot ∧ s.endRound.machines = s.machines ∧ s.endRound.pattern = s.pattern
      ∧ s.endRound.journal = s.journal ∧ s.endRound.burst = s.burst ∧ s.endRound.shutdown = s.shutdown
      ∧ s.endRound.period = s.period ∧ s.endRound.settings = s.settings := by
  unfold State.endRound
  refine ⟨?_, ?_, ?_, ?_, ?_, ?_, ?_, ?_, ?_, ?_, ?_, ?_, ?_, ?_, ?_, ?_, ?_⟩ <;>
    exact (eachOfEight_keeps _ _ (fun _ _ => by simp) _).trans (by simp)

@[simp] theorem State.startRound_frame (s : State) :
    s.startRound.pending = s.pending ∧ s.startRound.power = s.power ∧ s.startRound.marker = s.marker
      ∧ s.startRound.startKind = s.startKind ∧ s.startRound.elapsed = s.elapsed ∧ s.startRound.freeCount = s.freeCount
      ∧ s.startRound.lanes = s.lanes ∧ s.startRound.products = s.products ∧ s.startRound.headers = s.headers
      ∧ s.startRound.slot = s.slot ∧ s.startRound.machines = s.machines ∧ s.startRound.pattern = s.pattern
      ∧ s.startRound.journal = s.journal ∧ s.startRound.burst = s.burst ∧ s.startRound.shutdown = s.shutdown
      ∧ s.startRound.period = s.period ∧ s.startRound.settings = s.settings := by
  unfold State.startRound
  split <;> simp

@[simp] theorem State.visitRound_frame (n : Nat) (s : State) :
    (s.visitRound n).pending = s.pending ∧ (s.visitRound n).power = s.power ∧ (s.visitRound n).marker = s.marker
      ∧ (s.visitRound n).startKind = s.startKind ∧ (s.visitRound n).elapsed = s.elapsed
      ∧ (s.visitRound n).freeCount = s.freeCount ∧ (s.visitRound n).lanes = s.lanes
      ∧ (s.visitRound n).products = s.products ∧ (s.visitRound n).headers = s.headers
      ∧ (s.visitRound n).slot = s.slot ∧ (s.visitRound n).machines = s.machines
      ∧ (s.visitRound n).pattern = s.pattern ∧ (s.visitRound n).journal = s.journal
      ∧ (s.visitRound n).burst = s.burst ∧ (s.visitRound n).shutdown = s.shutdown
      ∧ (s.visitRound n).period = s.period ∧ (s.visitRound n).settings = s.settings := by
  refine ⟨?_, ?_, ?_, ?_, ?_, ?_, ?_, ?_, ?_, ?_, ?_, ?_, ?_, ?_, ?_, ?_, ?_⟩ <;>
    (unfold State.visitRound; try dsimp only) <;> (repeat' split) <;> simp

@[simp] theorem State.continueRound_frame (s : State) :
    (s.continueRound).pending = s.pending ∧ (s.continueRound).power = s.power
      ∧ (s.continueRound).marker = s.marker ∧ (s.continueRound).startKind = s.startKind
      ∧ (s.continueRound).elapsed = s.elapsed ∧ (s.continueRound).freeCount = s.freeCount
      ∧ (s.continueRound).lanes = s.lanes ∧ (s.continueRound).products = s.products
      ∧ (s.continueRound).headers = s.headers ∧ (s.continueRound).slot = s.slot
      ∧ (s.continueRound).machines = s.machines ∧ (s.continueRound).pattern = s.pattern
      ∧ (s.continueRound).journal = s.journal ∧ (s.continueRound).burst = s.burst
      ∧ (s.continueRound).shutdown = s.shutdown ∧ (s.continueRound).period = s.period
      ∧ (s.continueRound).settings = s.settings := by
  refine ⟨?_, ?_, ?_, ?_, ?_, ?_, ?_, ?_, ?_, ?_, ?_, ?_, ?_, ?_, ?_, ?_, ?_⟩ <;>
    (unfold State.continueRound; try dsimp only) <;> (repeat' split) <;> simp

@[simp] theorem State.serveBus_frame (s : State) :
    (s.serveBus).pending = s.pending ∧ (s.serveBus).power = s.power ∧ (s.serveBus).marker = s.marker
      ∧ (s.serveBus).startKind = s.startKind ∧ (s.serveBus).elapsed = s.elapsed
      ∧ (s.serveBus).freeCount = s.freeCount ∧ (s.serveBus).lanes = s.lanes ∧ (s.serveBus).products = s.products
      ∧ (s.serveBus).headers = s.headers ∧ (s.serveBus).slot = s.slot ∧ (s.serveBus).machines = s.machines
      ∧ (s.serveBus).pattern = s.pattern ∧ (s.serveBus).journal = s.journal ∧ (s.serveBus).burst = s.burst
      ∧ (s.serveBus).shutdown = s.shutdown ∧ (s.serveBus).period = s.period ∧ (s.serveBus).settings = s.settings := by
  refine ⟨?_, ?_, ?_, ?_, ?_, ?_, ?_, ?_, ?_, ?_, ?_, ?_, ?_, ?_, ?_, ?_, ?_⟩ <;>
    (unfold State.serveBus; try dsimp only) <;> (repeat' split) <;> simp

@[simp] theorem State.askPoll_frame (t : Fin 8) (s : State) :
    (s.askPoll t).pending = s.pending ∧ (s.askPoll t).power = s.power ∧ (s.askPoll t).marker = s.marker
      ∧ (s.askPoll t).startKind = s.startKind ∧ (s.askPoll t).elapsed = s.elapsed
      ∧ (s.askPoll t).freeCount = s.freeCount ∧ (s.askPoll t).lanes = s.lanes
      ∧ (s.askPoll t).products = s.products ∧ (s.askPoll t).headers = s.headers ∧ (s.askPoll t).slot = s.slot
      ∧ (s.askPoll t).machines = s.machines ∧ (s.askPoll t).pattern = s.pattern
      ∧ (s.askPoll t).journal = s.journal ∧ (s.askPoll t).burst = s.burst ∧ (s.askPoll t).shutdown = s.shutdown
      ∧ (s.askPoll t).period = s.period ∧ (s.askPoll t).settings = s.settings := by
  unfold State.askPoll; simp

@[simp] theorem State.endPoll_frame (s : State) :
    (s.endPoll).pending = s.pending ∧ (s.endPoll).power = s.power ∧ (s.endPoll).marker = s.marker
      ∧ (s.endPoll).startKind = s.startKind ∧ (s.endPoll).elapsed = s.elapsed
      ∧ (s.endPoll).freeCount = s.freeCount ∧ (s.endPoll).lanes = s.lanes ∧ (s.endPoll).products = s.products
      ∧ (s.endPoll).headers = s.headers ∧ (s.endPoll).slot = s.slot ∧ (s.endPoll).machines = s.machines
      ∧ (s.endPoll).pattern = s.pattern ∧ (s.endPoll).journal = s.journal ∧ (s.endPoll).burst = s.burst
      ∧ (s.endPoll).shutdown = s.shutdown ∧ (s.endPoll).period = s.period ∧ (s.endPoll).settings = s.settings := by
  unfold State.endPoll; simp

@[simp] theorem State.roundFallsDue_frame (s : State) :
    (s.roundFallsDue).pending = s.pending ∧ (s.roundFallsDue).power = s.power
      ∧ (s.roundFallsDue).marker = s.marker ∧ (s.roundFallsDue).startKind = s.startKind
      ∧ (s.roundFallsDue).elapsed = s.elapsed ∧ (s.roundFallsDue).freeCount = s.freeCount
      ∧ (s.roundFallsDue).lanes = s.lanes ∧ (s.roundFallsDue).products = s.products
      ∧ (s.roundFallsDue).headers = s.headers ∧ (s.roundFallsDue).slot = s.slot
      ∧ (s.roundFallsDue).machines = s.machines ∧ (s.roundFallsDue).pattern = s.pattern
      ∧ (s.roundFallsDue).journal = s.journal ∧ (s.roundFallsDue).burst = s.burst
      ∧ (s.roundFallsDue).shutdown = s.shutdown ∧ (s.roundFallsDue).period = s.period
      ∧ (s.roundFallsDue).settings = s.settings := by
  unfold State.roundFallsDue
  cases s.bus.round <;> simp

@[simp] theorem State.closeReceipt_frame (t : Fin 8) (c : SettleCause) (s : State) :
    (s.closeReceipt t c).pending = s.pending ∧ (s.closeReceipt t c).power = s.power
      ∧ (s.closeReceipt t c).marker = s.marker ∧ (s.closeReceipt t c).startKind = s.startKind
      ∧ (s.closeReceipt t c).elapsed = s.elapsed ∧ (s.closeReceipt t c).freeCount = s.freeCount
      ∧ (s.closeReceipt t c).lanes = s.lanes ∧ (s.closeReceipt t c).products = s.products
      ∧ (s.closeReceipt t c).headers = s.headers ∧ (s.closeReceipt t c).slot = s.slot
      ∧ (s.closeReceipt t c).machines = s.machines ∧ (s.closeReceipt t c).pattern = s.pattern
      ∧ (s.closeReceipt t c).journal = s.journal ∧ (s.closeReceipt t c).burst = s.burst
      ∧ (s.closeReceipt t c).shutdown = s.shutdown ∧ (s.closeReceipt t c).period = s.period
      ∧ (s.closeReceipt t c).settings = s.settings := by
  refine ⟨?_, ?_, ?_, ?_, ?_, ?_, ?_, ?_, ?_, ?_, ?_, ?_, ?_, ?_, ?_, ?_, ?_⟩ <;>
    (unfold State.closeReceipt; try dsimp only) <;> (repeat' split) <;> simp

@[simp] theorem State.closeInlets_frame (s : State) :
    (s.closeInlets).pending = s.pending ∧ (s.closeInlets).power = s.power ∧ (s.closeInlets).marker = s.marker
      ∧ (s.closeInlets).startKind = s.startKind ∧ (s.closeInlets).elapsed = s.elapsed
      ∧ (s.closeInlets).freeCount = s.freeCount ∧ (s.closeInlets).lanes = s.lanes
      ∧ (s.closeInlets).products = s.products ∧ (s.closeInlets).headers = s.headers
      ∧ (s.closeInlets).slot = s.slot ∧ (s.closeInlets).machines = s.machines
      ∧ (s.closeInlets).pattern = s.pattern ∧ (s.closeInlets).journal = s.journal
      ∧ (s.closeInlets).burst = s.burst ∧ (s.closeInlets).shutdown = s.shutdown
      ∧ (s.closeInlets).period = s.period ∧ (s.closeInlets).settings = s.settings := by
  refine ⟨?_, ?_, ?_, ?_, ?_, ?_, ?_, ?_, ?_, ?_, ?_, ?_, ?_, ?_, ?_, ?_, ?_⟩ <;>
    exact eachOfEight_keeps _ _ (fun _ _ => by simp) _

@[simp] theorem State.failPoll_frame (p : Poll) (s : State) :
    (s.failPoll p).pending = s.pending ∧ (s.failPoll p).power = s.power ∧ (s.failPoll p).marker = s.marker
      ∧ (s.failPoll p).startKind = s.startKind ∧ (s.failPoll p).elapsed = s.elapsed
      ∧ (s.failPoll p).freeCount = s.freeCount ∧ (s.failPoll p).lanes = s.lanes
      ∧ (s.failPoll p).products = s.products ∧ (s.failPoll p).headers = s.headers ∧ (s.failPoll p).slot = s.slot
      ∧ (s.failPoll p).machines = s.machines ∧ (s.failPoll p).pattern = s.pattern
      ∧ (s.failPoll p).journal = s.journal ∧ (s.failPoll p).burst = s.burst
      ∧ (s.failPoll p).shutdown = s.shutdown ∧ (s.failPoll p).period = s.period
      ∧ (s.failPoll p).settings = s.settings := by
  refine ⟨?_, ?_, ?_, ?_, ?_, ?_, ?_, ?_, ?_, ?_, ?_, ?_, ?_, ?_, ?_, ?_, ?_⟩ <;>
    (unfold State.failPoll; try dsimp only) <;> (repeat' split) <;> simp

@[simp] theorem State.reconfigure_frame (t : Fin 8) (s : State) :
    (s.reconfigure t).pending = s.pending ∧ (s.reconfigure t).power = s.power
      ∧ (s.reconfigure t).marker = s.marker ∧ (s.reconfigure t).startKind = s.startKind
      ∧ (s.reconfigure t).elapsed = s.elapsed ∧ (s.reconfigure t).freeCount = s.freeCount
      ∧ (s.reconfigure t).lanes = s.lanes ∧ (s.reconfigure t).products = s.products
      ∧ (s.reconfigure t).headers = s.headers ∧ (s.reconfigure t).slot = s.slot
      ∧ (s.reconfigure t).machines = s.machines ∧ (s.reconfigure t).pattern = s.pattern
      ∧ (s.reconfigure t).journal = s.journal ∧ (s.reconfigure t).burst = s.burst
      ∧ (s.reconfigure t).shutdown = s.shutdown ∧ (s.reconfigure t).period = s.period
      ∧ (s.reconfigure t).settings = s.settings ∧ (s.reconfigure t).link = s.link := by
  unfold State.reconfigure; simp

@[simp] theorem gaugePollSent_frame (s : State) :
    (gaugePollSent s).pending = s.pending ∧ (gaugePollSent s).power = s.power
      ∧ (gaugePollSent s).marker = s.marker ∧ (gaugePollSent s).startKind = s.startKind
      ∧ (gaugePollSent s).elapsed = s.elapsed ∧ (gaugePollSent s).freeCount = s.freeCount
      ∧ (gaugePollSent s).lanes = s.lanes ∧ (gaugePollSent s).products = s.products
      ∧ (gaugePollSent s).headers = s.headers ∧ (gaugePollSent s).slot = s.slot
      ∧ (gaugePollSent s).tanks = s.tanks ∧ (gaugePollSent s).machines = s.machines
      ∧ (gaugePollSent s).pattern = s.pattern ∧ (gaugePollSent s).journal = s.journal
      ∧ (gaugePollSent s).burst = s.burst ∧ (gaugePollSent s).shutdown = s.shutdown
      ∧ (gaugePollSent s).period = s.period ∧ (gaugePollSent s).settings = s.settings
      ∧ (gaugePollSent s).link = s.link := by
  unfold gaugePollSent; simp

@[simp] theorem replyTimerExpiry_frame (s : State) :
    (replyTimerExpiry s).pending = s.pending ∧ (replyTimerExpiry s).power = s.power
      ∧ (replyTimerExpiry s).marker = s.marker ∧ (replyTimerExpiry s).startKind = s.startKind
      ∧ (replyTimerExpiry s).elapsed = s.elapsed ∧ (replyTimerExpiry s).freeCount = s.freeCount
      ∧ (replyTimerExpiry s).lanes = s.lanes ∧ (replyTimerExpiry s).products = s.products
      ∧ (replyTimerExpiry s).headers = s.headers ∧ (replyTimerExpiry s).slot = s.slot
      ∧ (replyTimerExpiry s).machines = s.machines ∧ (replyTimerExpiry s).pattern = s.pattern
      ∧ (replyTimerExpiry s).journal = s.journal ∧ (replyTimerExpiry s).burst = s.burst
      ∧ (replyTimerExpiry s).shutdown = s.shutdown ∧ (replyTimerExpiry s).period = s.period
      ∧ (replyTimerExpiry s).settings = s.settings := by
  refine ⟨?_, ?_, ?_, ?_, ?_, ?_, ?_, ?_, ?_, ?_, ?_, ?_, ?_, ?_, ?_, ?_, ?_⟩ <;>
    (unfold replyTimerExpiry; try dsimp only) <;> (repeat' split) <;> simp

end Sys2Proof.Machine
end

