-- ==== Sys2Proof/Laws/FramesLane.lean ====
section
/-! SUPPORT. What the operations over lanes, closing, shutdown, gauge replies and samples leave unchanged: one frame law per operation, for simp. Also what a sample does to the lane. -/
namespace Sys2Proof.Machine

@[simp] theorem State.withdrawLane_frame (i : Fin 8) (s : State) :
    (s.withdrawLane i).pending = s.pending ∧ (s.withdrawLane i).power = s.power
      ∧ (s.withdrawLane i).marker = s.marker ∧ (s.withdrawLane i).startKind = s.startKind
      ∧ (s.withdrawLane i).elapsed = s.elapsed ∧ (s.withdrawLane i).freeCount = s.freeCount
      ∧ (s.withdrawLane i).products = s.products ∧ (s.withdrawLane i).headers = s.headers
      ∧ (s.withdrawLane i).slot = s.slot ∧ (s.withdrawLane i).tanks = s.tanks ∧ (s.withdrawLane i).bus = s.bus
      ∧ (s.withdrawLane i).machines = s.machines ∧ (s.withdrawLane i).pattern = s.pattern
      ∧ (s.withdrawLane i).burst = s.burst ∧ (s.withdrawLane i).shutdown = s.shutdown
      ∧ (s.withdrawLane i).period = s.period ∧ (s.withdrawLane i).settings = s.settings
      ∧ (s.withdrawLane i).link = s.link := by
  unfold State.withdrawLane; simp

@[simp] theorem State.closeCore_frame (i : Fin 8) (c : EndCause) (s : State) :
    (s.closeCore i c).pending = s.pending ∧ (s.closeCore i c).power = s.power
      ∧ (s.closeCore i c).marker = s.marker ∧ (s.closeCore i c).startKind = s.startKind
      ∧ (s.closeCore i c).elapsed = s.elapsed ∧ (s.closeCore i c).freeCount = s.freeCount
      ∧ (s.closeCore i c).products = s.products ∧ (s.closeCore i c).headers = s.headers
      ∧ (s.closeCore i c).slot = s.slot ∧ (s.closeCore i c).tanks = s.tanks ∧ (s.closeCore i c).bus = s.bus
      ∧ (s.closeCore i c).machines = s.machines ∧ (s.closeCore i c).pattern = s.pattern
      ∧ (s.closeCore i c).journal = s.journal ∧ (s.closeCore i c).burst = s.burst
      ∧ (s.closeCore i c).period = s.period ∧ (s.closeCore i c).settings = s.settings
      ∧ (s.closeCore i c).link = s.link := by
  unfold State.closeCore; simp

@[simp] theorem State.laneDemandLeft_frame (i : Fin 8) (s : State) :
    (s.laneDemandLeft i).pending = s.pending ∧ (s.laneDemandLeft i).power = s.power
      ∧ (s.laneDemandLeft i).marker = s.marker ∧ (s.laneDemandLeft i).startKind = s.startKind
      ∧ (s.laneDemandLeft i).elapsed = s.elapsed ∧ (s.laneDemandLeft i).freeCount = s.freeCount
      ∧ (s.laneDemandLeft i).products = s.products ∧ (s.laneDemandLeft i).tanks = s.tanks
      ∧ (s.laneDemandLeft i).bus = s.bus ∧ (s.laneDemandLeft i).machines = s.machines
      ∧ (s.laneDemandLeft i).pattern = s.pattern ∧ (s.laneDemandLeft i).journal = s.journal
      ∧ (s.laneDemandLeft i).burst = s.burst ∧ (s.laneDemandLeft i).shutdown = s.shutdown
      ∧ (s.laneDemandLeft i).period = s.period ∧ (s.laneDemandLeft i).settings = s.settings
      ∧ (s.laneDemandLeft i).link = s.link := by
  refine ⟨?_, ?_, ?_, ?_, ?_, ?_, ?_, ?_, ?_, ?_, ?_, ?_, ?_, ?_, ?_, ?_, ?_⟩ <;>
    (unfold State.laneDemandLeft; try dsimp only) <;> (repeat' split) <;> simp

@[simp] theorem State.closeLane_frame (i : Fin 8) (c : EndCause) (s : State) :
    (s.closeLane i c).pending = s.pending ∧ (s.closeLane i c).power = s.power
      ∧ (s.closeLane i c).marker = s.marker ∧ (s.closeLane i c).startKind = s.startKind
      ∧ (s.closeLane i c).elapsed = s.elapsed ∧ (s.closeLane i c).freeCount = s.freeCount
      ∧ (s.closeLane i c).products = s.products ∧ (s.closeLane i c).tanks = s.tanks
      ∧ (s.closeLane i c).bus = s.bus ∧ (s.closeLane i c).machines = s.machines
      ∧ (s.closeLane i c).pattern = s.pattern ∧ (s.closeLane i c).journal = s.journal
      ∧ (s.closeLane i c).burst = s.burst ∧ (s.closeLane i c).period = s.period
      ∧ (s.closeLane i c).settings = s.settings ∧ (s.closeLane i c).link = s.link := by
  refine ⟨?_, ?_, ?_, ?_, ?_, ?_, ?_, ?_, ?_, ?_, ?_, ?_, ?_, ?_, ?_, ?_⟩ <;>
    (unfold State.closeLane; try dsimp only) <;> (repeat' split) <;> simp

@[simp] theorem State.creditMachine_frame (i : Fin 8) (s : State) :
    (s.creditMachine i).pending = s.pending ∧ (s.creditMachine i).power = s.power
      ∧ (s.creditMachine i).marker = s.marker ∧ (s.creditMachine i).startKind = s.startKind
      ∧ (s.creditMachine i).elapsed = s.elapsed ∧ (s.creditMachine i).freeCount = s.freeCount
      ∧ (s.creditMachine i).lanes = s.lanes ∧ (s.creditMachine i).products = s.products
      ∧ (s.creditMachine i).headers = s.headers ∧ (s.creditMachine i).slot = s.slot
      ∧ (s.creditMachine i).tanks = s.tanks ∧ (s.creditMachine i).bus = s.bus
      ∧ (s.creditMachine i).pattern = s.pattern ∧ (s.creditMachine i).journal = s.journal
      ∧ (s.creditMachine i).burst = s.burst ∧ (s.creditMachine i).shutdown = s.shutdown
      ∧ (s.creditMachine i).period = s.period ∧ (s.creditMachine i).settings = s.settings := by
  refine ⟨?_, ?_, ?_, ?_, ?_, ?_, ?_, ?_, ?_, ?_, ?_, ?_, ?_, ?_, ?_, ?_, ?_, ?_⟩ <;>
    (unfold State.creditMachine; try dsimp only) <;> (repeat' split) <;> simp

@[simp] theorem State.commitDelivery_frame (i : Fin 8) (b : Bool) (s : State) :
    (s.commitDelivery i b).pending = s.pending ∧ (s.commitDelivery i b).power = s.power
      ∧ (s.commitDelivery i b).marker = s.marker ∧ (s.commitDelivery i b).startKind = s.startKind
      ∧ (s.commitDelivery i b).elapsed = s.elapsed ∧ (s.commitDelivery i b).freeCount = s.freeCount
      ∧ (s.commitDelivery i b).products = s.products ∧ (s.commitDelivery i b).headers = s.headers
      ∧ (s.commitDelivery i b).slot = s.slot ∧ (s.commitDelivery i b).tanks = s.tanks
      ∧ (s.commitDelivery i b).bus = s.bus ∧ (s.commitDelivery i b).pattern = s.pattern
      ∧ (s.commitDelivery i b).burst = s.burst ∧ (s.commitDelivery i b).shutdown = s.shutdown
      ∧ (s.commitDelivery i b).period = s.period ∧ (s.commitDelivery i b).settings = s.settings := by
  unfold State.commitDelivery; simp

@[simp] theorem State.finishClose_frame (i : Fin 8) (b : Bool) (s : State) :
    (s.finishClose i b).pending = s.pending ∧ (s.finishClose i b).power = s.power
      ∧ (s.finishClose i b).marker = s.marker ∧ (s.finishClose i b).startKind = s.startKind
      ∧ (s.finishClose i b).elapsed = s.elapsed ∧ (s.finishClose i b).freeCount = s.freeCount
      ∧ (s.finishClose i b).products = s.products ∧ (s.finishClose i b).headers = s.headers
      ∧ (s.finishClose i b).slot = s.slot ∧ (s.finishClose i b).tanks = s.tanks
      ∧ (s.finishClose i b).bus = s.bus ∧ (s.finishClose i b).pattern = s.pattern
      ∧ (s.finishClose i b).burst = s.burst ∧ (s.finishClose i b).shutdown = s.shutdown
      ∧ (s.finishClose i b).period = s.period ∧ (s.finishClose i b).settings = s.settings := by
  unfold State.finishClose; simp

@[simp] theorem State.shutLane_frame (i : Fin 8) (s : State) :
    (s.shutLane i).pending = s.pending ∧ (s.shutLane i).power = s.power ∧ (s.shutLane i).marker = s.marker
      ∧ (s.shutLane i).startKind = s.startKind ∧ (s.shutLane i).elapsed = s.elapsed
      ∧ (s.shutLane i).freeCount = s.freeCount ∧ (s.shutLane i).products = s.products
      ∧ (s.shutLane i).headers = s.headers ∧ (s.shutLane i).slot = s.slot ∧ (s.shutLane i).tanks = s.tanks
      ∧ (s.shutLane i).bus = s.bus ∧ (s.shutLane i).machines = s.machines ∧ (s.shutLane i).pattern = s.pattern
      ∧ (s.shutLane i).burst = s.burst ∧ (s.shutLane i).period = s.period ∧ (s.shutLane i).settings = s.settings
      ∧ (s.shutLane i).link = s.link := by
  refine ⟨?_, ?_, ?_, ?_, ?_, ?_, ?_, ?_, ?_, ?_, ?_, ?_, ?_, ?_, ?_, ?_, ?_⟩ <;>
    (unfold State.shutLane; try dsimp only) <;> (repeat' split) <;> simp

@[simp] theorem State.shutdownEntry_frame (s : State) :
    s.shutdownEntry.pending = s.pending ∧ s.shutdownEntry.power = s.power ∧ s.shutdownEntry.marker = s.marker
      ∧ s.shutdownEntry.startKind = s.startKind ∧ s.shutdownEntry.elapsed = s.elapsed
      ∧ s.shutdownEntry.freeCount = s.freeCount ∧ s.shutdownEntry.products = s.products
      ∧ s.shutdownEntry.machines = s.machines ∧ s.shutdownEntry.pattern = s.pattern
      ∧ s.shutdownEntry.burst = s.burst ∧ s.shutdownEntry.period = s.period
      ∧ s.shutdownEntry.settings = s.settings := by
  have k : (eachOfEight State.shutLane (s.modShutdown fun u => { u with bay := .shutting })).pending = s.pending
      ∧ (eachOfEight State.shutLane (s.modShutdown fun u => { u with bay := .shutting })).power = s.power
      ∧ (eachOfEight State.shutLane (s.modShutdown fun u => { u with bay := .shutting })).marker = s.marker
      ∧ (eachOfEight State.shutLane (s.modShutdown fun u => { u with bay := .shutting })).startKind = s.startKind
      ∧ (eachOfEight State.shutLane (s.modShutdown fun u => { u with bay := .shutting })).elapsed = s.elapsed
      ∧ (eachOfEight State.shutLane (s.modShutdown fun u => { u with bay := .shutting })).freeCount = s.freeCount
      ∧ (eachOfEight State.shutLane (s.modShutdown fun u => { u with bay := .shutting })).products = s.products
      ∧ (eachOfEight State.shutLane (s.modShutdown fun u => { u with bay := .shutting })).machines = s.machines
      ∧ (eachOfEight State.shutLane (s.modShutdown fun u => { u with bay := .shutting })).pattern = s.pattern
      ∧ (eachOfEight State.shutLane (s.modShutdown fun u => { u with bay := .shutting })).burst = s.burst
      ∧ (eachOfEight State.shutLane (s.modShutdown fun u => { u with bay := .shutting })).period = s.period
      ∧ (eachOfEight State.shutLane (s.modShutdown fun u => { u with bay := .shutting })).settings = s.settings := by
    refine ⟨?_, ?_, ?_, ?_, ?_, ?_, ?_, ?_, ?_, ?_, ?_, ?_⟩ <;>
      exact (eachOfEight_keeps _ _ (fun _ _ => by simp) _).trans (by simp)
  refine ⟨?_, ?_, ?_, ?_, ?_, ?_, ?_, ?_, ?_, ?_, ?_, ?_⟩ <;>
    (unfold State.shutdownEntry; try dsimp only) <;> (repeat' split) <;> simp [k]

@[simp] theorem State.recordCause_frame (k : CauseKind) (d : Mask) (s : State) :
    (s.recordCause k d).pending = s.pending ∧ (s.recordCause k d).power = s.power
      ∧ (s.recordCause k d).marker = s.marker ∧ (s.recordCause k d).startKind = s.startKind
      ∧ (s.recordCause k d).elapsed = s.elapsed ∧ (s.recordCause k d).freeCount = s.freeCount
      ∧ (s.recordCause k d).lanes = s.lanes ∧ (s.recordCause k d).products = s.products
      ∧ (s.recordCause k d).headers = s.headers ∧ (s.recordCause k d).slot = s.slot
      ∧ (s.recordCause k d).tanks = s.tanks ∧ (s.recordCause k d).bus = s.bus
      ∧ (s.recordCause k d).machines = s.machines ∧ (s.recordCause k d).pattern = s.pattern
      ∧ (s.recordCause k d).journal = s.journal ∧ (s.recordCause k d).burst = s.burst
      ∧ (s.recordCause k d).period = s.period ∧ (s.recordCause k d).settings = s.settings
      ∧ (s.recordCause k d).link = s.link := by
  unfold State.recordCause; simp

@[simp] theorem State.entryIfOpen_frame (s : State) :
    (s.entryIfOpen).pending = s.pending ∧ (s.entryIfOpen).power = s.power ∧ (s.entryIfOpen).marker = s.marker
      ∧ (s.entryIfOpen).startKind = s.startKind ∧ (s.entryIfOpen).elapsed = s.elapsed
      ∧ (s.entryIfOpen).freeCount = s.freeCount ∧ (s.entryIfOpen).products = s.products
      ∧ (s.entryIfOpen).machines = s.machines ∧ (s.entryIfOpen).pattern = s.pattern
      ∧ (s.entryIfOpen).burst = s.burst ∧ (s.entryIfOpen).period = s.period
      ∧ (s.entryIfOpen).settings = s.settings := by
  refine ⟨?_, ?_, ?_, ?_, ?_, ?_, ?_, ?_, ?_, ?_, ?_, ?_⟩ <;>
    (unfold State.entryIfOpen; try dsimp only) <;> (repeat' split) <;> simp

@[simp] theorem State.raise_frame (k : CauseKind) (d : Mask) (s : State) :
    (s.raise k d).pending = s.pending ∧ (s.raise k d).power = s.power ∧ (s.raise k d).marker = s.marker
      ∧ (s.raise k d).startKind = s.startKind ∧ (s.raise k d).elapsed = s.elapsed
      ∧ (s.raise k d).freeCount = s.freeCount ∧ (s.raise k d).products = s.products
      ∧ (s.raise k d).machines = s.machines ∧ (s.raise k d).pattern = s.pattern ∧ (s.raise k d).burst = s.burst
      ∧ (s.raise k d).period = s.period ∧ (s.raise k d).settings = s.settings := by
  unfold State.raise; simp

@[simp] theorem State.laneReport_frame (i : Fin 8) (r : LockoutReason) (s : State) :
    (s.laneReport i r).pending = s.pending ∧ (s.laneReport i r).power = s.power
      ∧ (s.laneReport i r).marker = s.marker ∧ (s.laneReport i r).startKind = s.startKind
      ∧ (s.laneReport i r).elapsed = s.elapsed ∧ (s.laneReport i r).freeCount = s.freeCount
      ∧ (s.laneReport i r).products = s.products ∧ (s.laneReport i r).machines = s.machines
      ∧ (s.laneReport i r).pattern = s.pattern ∧ (s.laneReport i r).burst = s.burst
      ∧ (s.laneReport i r).period = s.period ∧ (s.laneReport i r).settings = s.settings := by
  refine ⟨?_, ?_, ?_, ?_, ?_, ?_, ?_, ?_, ?_, ?_, ?_, ?_⟩ <;>
    (unfold State.laneReport; try dsimp only) <;> (repeat' split) <;> simp

@[simp] theorem sumpActive_frame (n : Fin 4) (b : Bool) (s : State) :
    (sumpActive n b s).pending = s.pending ∧ (sumpActive n b s).power = s.power
      ∧ (sumpActive n b s).marker = s.marker ∧ (sumpActive n b s).startKind = s.startKind
      ∧ (sumpActive n b s).elapsed = s.elapsed ∧ (sumpActive n b s).freeCount = s.freeCount
      ∧ (sumpActive n b s).products = s.products ∧ (sumpActive n b s).machines = s.machines
      ∧ (sumpActive n b s).pattern = s.pattern ∧ (sumpActive n b s).burst = s.burst
      ∧ (sumpActive n b s).period = s.period ∧ (sumpActive n b s).settings = s.settings := by
  refine ⟨?_, ?_, ?_, ?_, ?_, ?_, ?_, ?_, ?_, ?_, ?_, ?_⟩ <;>
    (unfold sumpActive; try dsimp only) <;> (repeat' split) <;> simp

@[simp] theorem pressBegin_frame (s : State) :
    (pressBegin s).pending = s.pending ∧ (pressBegin s).power = s.power ∧ (pressBegin s).marker = s.marker
      ∧ (pressBegin s).startKind = s.startKind ∧ (pressBegin s).elapsed = s.elapsed
      ∧ (pressBegin s).freeCount = s.freeCount ∧ (pressBegin s).lanes = s.lanes
      ∧ (pressBegin s).products = s.products ∧ (pressBegin s).headers = s.headers ∧ (pressBegin s).slot = s.slot
      ∧ (pressBegin s).tanks = s.tanks ∧ (pressBegin s).bus = s.bus ∧ (pressBegin s).machines = s.machines
      ∧ (pressBegin s).pattern = s.pattern ∧ (pressBegin s).journal = s.journal ∧ (pressBegin s).burst = s.burst
      ∧ (pressBegin s).period = s.period ∧ (pressBegin s).settings = s.settings ∧ (pressBegin s).link = s.link := by
  refine ⟨?_, ?_, ?_, ?_, ?_, ?_, ?_, ?_, ?_, ?_, ?_, ?_, ?_, ?_, ?_, ?_, ?_, ?_, ?_⟩ <;>
    (unfold pressBegin; try dsimp only) <;> (repeat' split) <;> simp

@[simp] theorem State.stopLane_frame (i : Fin 8) (s : State) :
    (s.stopLane i).pending = s.pending ∧ (s.stopLane i).power = s.power ∧ (s.stopLane i).marker = s.marker
      ∧ (s.stopLane i).startKind = s.startKind ∧ (s.stopLane i).elapsed = s.elapsed
      ∧ (s.stopLane i).freeCount = s.freeCount ∧ (s.stopLane i).products = s.products
      ∧ (s.stopLane i).headers = s.headers ∧ (s.stopLane i).slot = s.slot ∧ (s.stopLane i).tanks = s.tanks
      ∧ (s.stopLane i).bus = s.bus ∧ (s.stopLane i).machines = s.machines ∧ (s.stopLane i).pattern = s.pattern
      ∧ (s.stopLane i).burst = s.burst ∧ (s.stopLane i).period = s.period ∧ (s.stopLane i).settings = s.settings
      ∧ (s.stopLane i).link = s.link := by
  refine ⟨?_, ?_, ?_, ?_, ?_, ?_, ?_, ?_, ?_, ?_, ?_, ?_, ?_, ?_, ?_, ?_, ?_⟩ <;>
    (unfold State.stopLane; try dsimp only) <;> (repeat' split) <;> simp

@[simp] theorem State.laneStop_frame (s : State) :
    s.laneStop.pending = s.pending ∧ s.laneStop.power = s.power ∧ s.laneStop.marker = s.marker
      ∧ s.laneStop.startKind = s.startKind ∧ s.laneStop.elapsed = s.elapsed ∧ s.laneStop.freeCount = s.freeCount
      ∧ s.laneStop.products = s.products ∧ s.laneStop.tanks = s.tanks ∧ s.laneStop.bus = s.bus
      ∧ s.laneStop.machines = s.machines ∧ s.laneStop.pattern = s.pattern ∧ s.laneStop.burst = s.burst
      ∧ s.laneStop.period = s.period ∧ s.laneStop.settings = s.settings ∧ s.laneStop.link = s.link := by
  unfold State.laneStop
  refine ⟨?_, ?_, ?_, ?_, ?_, ?_, ?_, ?_, ?_, ?_, ?_, ?_, ?_, ?_, ?_⟩ <;>
    exact (eachOfSix_keeps _ _ (fun _ _ => by split <;> simp) _).trans
      (eachOfEight_keeps _ _ (fun _ _ => by simp) _)

@[simp] theorem State.shortPress_frame (n : Nat) (s : State) :
    (s.shortPress n).pending = s.pending ∧ (s.shortPress n).power = s.power ∧ (s.shortPress n).marker = s.marker
      ∧ (s.shortPress n).startKind = s.startKind ∧ (s.shortPress n).elapsed = s.elapsed
      ∧ (s.shortPress n).freeCount = s.freeCount ∧ (s.shortPress n).products = s.products
      ∧ (s.shortPress n).tanks = s.tanks ∧ (s.shortPress n).bus = s.bus ∧ (s.shortPress n).machines = s.machines
      ∧ (s.shortPress n).pattern = s.pattern ∧ (s.shortPress n).burst = s.burst
      ∧ (s.shortPress n).period = s.period ∧ (s.shortPress n).settings = s.settings := by
  refine ⟨?_, ?_, ?_, ?_, ?_, ?_, ?_, ?_, ?_, ?_, ?_, ?_, ?_, ?_⟩ <;>
    (unfold State.shortPress; try dsimp only) <;> (repeat' split) <;> simp

@[simp] theorem pressRelease_frame (n : Nat) (s : State) :
    (pressRelease n s).pending = s.pending ∧ (pressRelease n s).power = s.power
      ∧ (pressRelease n s).marker = s.marker ∧ (pressRelease n s).startKind = s.startKind
      ∧ (pressRelease n s).elapsed = s.elapsed ∧ (pressRelease n s).freeCount = s.freeCount
      ∧ (pressRelease n s).products = s.products ∧ (pressRelease n s).tanks = s.tanks
      ∧ (pressRelease n s).bus = s.bus ∧ (pressRelease n s).machines = s.machines
      ∧ (pressRelease n s).pattern = s.pattern ∧ (pressRelease n s).burst = s.burst
      ∧ (pressRelease n s).period = s.period ∧ (pressRelease n s).settings = s.settings := by
  refine ⟨?_, ?_, ?_, ?_, ?_, ?_, ?_, ?_, ?_, ?_, ?_, ?_, ?_, ?_⟩ <;>
    (unfold pressRelease; try dsimp only) <;> (repeat' split) <;> simp

@[simp] theorem longPress_frame (s : State) :
    (longPress s).pending = s.pending ∧ (longPress s).power = s.power ∧ (longPress s).marker = s.marker
      ∧ (longPress s).startKind = s.startKind ∧ (longPress s).elapsed = s.elapsed
      ∧ (longPress s).freeCount = s.freeCount ∧ (longPress s).products = s.products
      ∧ (longPress s).machines = s.machines ∧ (longPress s).pattern = s.pattern ∧ (longPress s).burst = s.burst
      ∧ (longPress s).period = s.period ∧ (longPress s).settings = s.settings := by
  refine ⟨?_, ?_, ?_, ?_, ?_, ?_, ?_, ?_, ?_, ?_, ?_, ?_⟩ <;>
    (unfold longPress; try dsimp only) <;> (repeat' split) <;> simp

@[simp] theorem valveFailureReport_frame (i : Fin 8) (s : State) :
    (valveFailureReport i s).pending = s.pending ∧ (valveFailureReport i s).power = s.power
      ∧ (valveFailureReport i s).marker = s.marker ∧ (valveFailureReport i s).startKind = s.startKind
      ∧ (valveFailureReport i s).elapsed = s.elapsed ∧ (valveFailureReport i s).freeCount = s.freeCount
      ∧ (valveFailureReport i s).products = s.products ∧ (valveFailureReport i s).machines = s.machines
      ∧ (valveFailureReport i s).pattern = s.pattern ∧ (valveFailureReport i s).burst = s.burst
      ∧ (valveFailureReport i s).period = s.period ∧ (valveFailureReport i s).settings = s.settings := by
  refine ⟨?_, ?_, ?_, ?_, ?_, ?_, ?_, ?_, ?_, ?_, ?_, ?_⟩ <;>
    (unfold valveFailureReport; try dsimp only) <;> (repeat' split) <;> simp

@[simp] theorem creepReport_frame (i : Fin 8) (s : State) :
    (creepReport i s).pending = s.pending ∧ (creepReport i s).power = s.power
      ∧ (creepReport i s).marker = s.marker ∧ (creepReport i s).startKind = s.startKind
      ∧ (creepReport i s).elapsed = s.elapsed ∧ (creepReport i s).freeCount = s.freeCount
      ∧ (creepReport i s).products = s.products ∧ (creepReport i s).machines = s.machines
      ∧ (creepReport i s).pattern = s.pattern ∧ (creepReport i s).burst = s.burst
      ∧ (creepReport i s).period = s.period ∧ (creepReport i s).settings = s.settings := by
  refine ⟨?_, ?_, ?_, ?_, ?_, ?_, ?_, ?_, ?_, ?_, ?_, ?_⟩ <;>
    (unfold creepReport; try dsimp only) <;> (repeat' split) <;> simp

@[simp] theorem closingReport_frame (i : Fin 8) (s : State) :
    (closingReport i s).pending = s.pending ∧ (closingReport i s).power = s.power
      ∧ (closingReport i s).marker = s.marker ∧ (closingReport i s).startKind = s.startKind
      ∧ (closingReport i s).elapsed = s.elapsed ∧ (closingReport i s).freeCount = s.freeCount
      ∧ (closingReport i s).products = s.products ∧ (closingReport i s).headers = s.headers
      ∧ (closingReport i s).slot = s.slot ∧ (closingReport i s).tanks = s.tanks
      ∧ (closingReport i s).bus = s.bus ∧ (closingReport i s).machines = s.machines
      ∧ (closingReport i s).pattern = s.pattern ∧ (closingReport i s).journal = s.journal
      ∧ (closingReport i s).burst = s.burst ∧ (closingReport i s).period = s.period
      ∧ (closingReport i s).settings = s.settings ∧ (closingReport i s).link = s.link := by
  refine ⟨?_, ?_, ?_, ?_, ?_, ?_, ?_, ?_, ?_, ?_, ?_, ?_, ?_, ?_, ?_, ?_, ?_, ?_⟩ <;>
    (unfold closingReport; try dsimp only) <;> (repeat' split) <;> simp

@[simp] theorem keyTurn_frame (s : State) :
    (keyTurn s).pending = s.pending ∧ (keyTurn s).power = s.power ∧ (keyTurn s).marker = s.marker
      ∧ (keyTurn s).startKind = s.startKind ∧ (keyTurn s).elapsed = s.elapsed
      ∧ (keyTurn s).freeCount = s.freeCount ∧ (keyTurn s).lanes = s.lanes ∧ (keyTurn s).products = s.products
      ∧ (keyTurn s).headers = s.headers ∧ (keyTurn s).slot = s.slot ∧ (keyTurn s).tanks = s.tanks
      ∧ (keyTurn s).bus = s.bus ∧ (keyTurn s).machines = s.machines ∧ (keyTurn s).pattern = s.pattern
      ∧ (keyTurn s).journal = s.journal ∧ (keyTurn s).burst = s.burst ∧ (keyTurn s).period = s.period
      ∧ (keyTurn s).settings = s.settings ∧ (keyTurn s).link = s.link := by
  refine ⟨?_, ?_, ?_, ?_, ?_, ?_, ?_, ?_, ?_, ?_, ?_, ?_, ?_, ?_, ?_, ?_, ?_, ?_, ?_⟩ <;>
    (unfold keyTurn; try dsimp only) <;> (repeat' split) <;> simp

@[simp] theorem State.leakCheck_frame (t : Fin 8) (n : Int) (s : State) :
    (s.leakCheck t n).pending = s.pending ∧ (s.leakCheck t n).power = s.power
      ∧ (s.leakCheck t n).marker = s.marker ∧ (s.leakCheck t n).startKind = s.startKind
      ∧ (s.leakCheck t n).elapsed = s.elapsed ∧ (s.leakCheck t n).freeCount = s.freeCount
      ∧ (s.leakCheck t n).products = s.products ∧ (s.leakCheck t n).machines = s.machines
      ∧ (s.leakCheck t n).pattern = s.pattern ∧ (s.leakCheck t n).burst = s.burst
      ∧ (s.leakCheck t n).period = s.period ∧ (s.leakCheck t n).settings = s.settings := by
  refine ⟨?_, ?_, ?_, ?_, ?_, ?_, ?_, ?_, ?_, ?_, ?_, ?_⟩ <;>
    (unfold State.leakCheck; try dsimp only) <;> (repeat' split) <;> simp

@[simp] theorem State.overfillNotice_frame (t : Fin 8) (n : Nat) (s : State) :
    (s.overfillNotice t n).pending = s.pending ∧ (s.overfillNotice t n).power = s.power
      ∧ (s.overfillNotice t n).marker = s.marker ∧ (s.overfillNotice t n).startKind = s.startKind
      ∧ (s.overfillNotice t n).elapsed = s.elapsed ∧ (s.overfillNotice t n).freeCount = s.freeCount
      ∧ (s.overfillNotice t n).lanes = s.lanes ∧ (s.overfillNotice t n).products = s.products
      ∧ (s.overfillNotice t n).headers = s.headers ∧ (s.overfillNotice t n).slot = s.slot
      ∧ (s.overfillNotice t n).bus = s.bus ∧ (s.overfillNotice t n).machines = s.machines
      ∧ (s.overfillNotice t n).pattern = s.pattern ∧ (s.overfillNotice t n).journal = s.journal
      ∧ (s.overfillNotice t n).burst = s.burst ∧ (s.overfillNotice t n).shutdown = s.shutdown
      ∧ (s.overfillNotice t n).period = s.period ∧ (s.overfillNotice t n).settings = s.settings := by
  unfold State.overfillNotice; simp

@[simp] theorem State.highHighCheck_frame (t : Fin 8) (n : Nat) (s : State) :
    (s.highHighCheck t n).pending = s.pending ∧ (s.highHighCheck t n).power = s.power
      ∧ (s.highHighCheck t n).marker = s.marker ∧ (s.highHighCheck t n).startKind = s.startKind
      ∧ (s.highHighCheck t n).elapsed = s.elapsed ∧ (s.highHighCheck t n).freeCount = s.freeCount
      ∧ (s.highHighCheck t n).lanes = s.lanes ∧ (s.highHighCheck t n).products = s.products
      ∧ (s.highHighCheck t n).headers = s.headers ∧ (s.highHighCheck t n).slot = s.slot
      ∧ (s.highHighCheck t n).machines = s.machines ∧ (s.highHighCheck t n).pattern = s.pattern
      ∧ (s.highHighCheck t n).journal = s.journal ∧ (s.highHighCheck t n).burst = s.burst
      ∧ (s.highHighCheck t n).shutdown = s.shutdown ∧ (s.highHighCheck t n).period = s.period
      ∧ (s.highHighCheck t n).settings = s.settings := by
  refine ⟨?_, ?_, ?_, ?_, ?_, ?_, ?_, ?_, ?_, ?_, ?_, ?_, ?_, ?_, ?_, ?_, ?_⟩ <;>
    (unfold State.highHighCheck; try dsimp only) <;> (repeat' split) <;> simp

@[simp] theorem State.watchCheck_frame (t : Fin 8) (n : Nat) (s : State) :
    (s.watchCheck t n).pending = s.pending ∧ (s.watchCheck t n).power = s.power
      ∧ (s.watchCheck t n).marker = s.marker ∧ (s.watchCheck t n).startKind = s.startKind
      ∧ (s.watchCheck t n).elapsed = s.elapsed ∧ (s.watchCheck t n).freeCount = s.freeCount
      ∧ (s.watchCheck t n).products = s.products ∧ (s.watchCheck t n).machines = s.machines
      ∧ (s.watchCheck t n).pattern = s.pattern ∧ (s.watchCheck t n).burst = s.burst
      ∧ (s.watchCheck t n).period = s.period ∧ (s.watchCheck t n).settings = s.settings := by
  refine ⟨?_, ?_, ?_, ?_, ?_, ?_, ?_, ?_, ?_, ?_, ?_, ?_⟩ <;>
    (unfold State.watchCheck; try dsimp only) <;> (repeat' split) <;> simp

@[simp] theorem State.settleOnReply_frame (t : Fin 8) (p : Poll) (n : Int) (s : State) :
    (s.settleOnReply t p n).pending = s.pending ∧ (s.settleOnReply t p n).power = s.power
      ∧ (s.settleOnReply t p n).marker = s.marker ∧ (s.settleOnReply t p n).startKind = s.startKind
      ∧ (s.settleOnReply t p n).elapsed = s.elapsed ∧ (s.settleOnReply t p n).freeCount = s.freeCount
      ∧ (s.settleOnReply t p n).lanes = s.lanes ∧ (s.settleOnReply t p n).products = s.products
      ∧ (s.settleOnReply t p n).headers = s.headers ∧ (s.settleOnReply t p n).slot = s.slot
      ∧ (s.settleOnReply t p n).bus = s.bus ∧ (s.settleOnReply t p n).machines = s.machines
      ∧ (s.settleOnReply t p n).pattern = s.pattern ∧ (s.settleOnReply t p n).journal = s.journal
      ∧ (s.settleOnReply t p n).burst = s.burst ∧ (s.settleOnReply t p n).shutdown = s.shutdown
      ∧ (s.settleOnReply t p n).period = s.period ∧ (s.settleOnReply t p n).settings = s.settings := by
  refine ⟨?_, ?_, ?_, ?_, ?_, ?_, ?_, ?_, ?_, ?_, ?_, ?_, ?_, ?_, ?_, ?_, ?_, ?_⟩ <;>
    (unfold State.settleOnReply; try dsimp only) <;> (repeat' split) <;> simp

@[simp] theorem State.goodReply_frame (p : Poll) (r : GaugeReading) (s : State) :
    (s.goodReply p r).pending = s.pending ∧ (s.goodReply p r).power = s.power
      ∧ (s.goodReply p r).marker = s.marker ∧ (s.goodReply p r).startKind = s.startKind
      ∧ (s.goodReply p r).elapsed = s.elapsed ∧ (s.goodReply p r).freeCount = s.freeCount
      ∧ (s.goodReply p r).products = s.products ∧ (s.goodReply p r).machines = s.machines
      ∧ (s.goodReply p r).pattern = s.pattern ∧ (s.goodReply p r).burst = s.burst
      ∧ (s.goodReply p r).period = s.period ∧ (s.goodReply p r).settings = s.settings := by
  unfold State.goodReply; simp

@[simp] theorem gaugeReply_frame (b : List Byte) (s : State) :
    (gaugeReply b s).pending = s.pending ∧ (gaugeReply b s).power = s.power ∧ (gaugeReply b s).marker = s.marker
      ∧ (gaugeReply b s).startKind = s.startKind ∧ (gaugeReply b s).elapsed = s.elapsed
      ∧ (gaugeReply b s).freeCount = s.freeCount ∧ (gaugeReply b s).products = s.products
      ∧ (gaugeReply b s).machines = s.machines ∧ (gaugeReply b s).pattern = s.pattern
      ∧ (gaugeReply b s).burst = s.burst ∧ (gaugeReply b s).period = s.period
      ∧ (gaugeReply b s).settings = s.settings := by
  refine ⟨?_, ?_, ?_, ?_, ?_, ?_, ?_, ?_, ?_, ?_, ?_, ?_⟩ <;>
    (unfold gaugeReply; try dsimp only) <;> (repeat' split) <;> simp

@[simp] theorem State.cancelLane_frame (i : Fin 8) (s : State) :
    (s.cancelLane i).pending = s.pending ∧ (s.cancelLane i).power = s.power ∧ (s.cancelLane i).marker = s.marker
      ∧ (s.cancelLane i).startKind = s.startKind ∧ (s.cancelLane i).elapsed = s.elapsed
      ∧ (s.cancelLane i).freeCount = s.freeCount ∧ (s.cancelLane i).products = s.products
      ∧ (s.cancelLane i).tanks = s.tanks ∧ (s.cancelLane i).bus = s.bus ∧ (s.cancelLane i).machines = s.machines
      ∧ (s.cancelLane i).pattern = s.pattern ∧ (s.cancelLane i).burst = s.burst
      ∧ (s.cancelLane i).period = s.period ∧ (s.cancelLane i).settings = s.settings
      ∧ (s.cancelLane i).link = s.link := by
  refine ⟨?_, ?_, ?_, ?_, ?_, ?_, ?_, ?_, ?_, ?_, ?_, ?_, ?_, ?_, ?_⟩ <;>
    (unfold State.cancelLane; try dsimp only) <;> (repeat' split) <;> simp

@[simp] theorem State.liftExceptions_frame (i : Fin 8) (p : Fin 6) (s : State) :
    (s.liftExceptions i p).pending = s.pending ∧ (s.liftExceptions i p).power = s.power
      ∧ (s.liftExceptions i p).marker = s.marker ∧ (s.liftExceptions i p).startKind = s.startKind
      ∧ (s.liftExceptions i p).elapsed = s.elapsed ∧ (s.liftExceptions i p).freeCount = s.freeCount
      ∧ (s.liftExceptions i p).products = s.products ∧ (s.liftExceptions i p).tanks = s.tanks
      ∧ (s.liftExceptions i p).bus = s.bus ∧ (s.liftExceptions i p).machines = s.machines
      ∧ (s.liftExceptions i p).pattern = s.pattern ∧ (s.liftExceptions i p).journal = s.journal
      ∧ (s.liftExceptions i p).burst = s.burst ∧ (s.liftExceptions i p).period = s.period
      ∧ (s.liftExceptions i p).settings = s.settings ∧ (s.liftExceptions i p).link = s.link := by
  refine ⟨?_, ?_, ?_, ?_, ?_, ?_, ?_, ?_, ?_, ?_, ?_, ?_, ?_, ?_, ?_, ?_⟩ <;>
    (unfold State.liftExceptions; try dsimp only) <;> (repeat' split) <;> simp

@[simp] theorem State.startDelivery_frame (i : Fin 8) (s : State) :
    (s.startDelivery i).pending = s.pending ∧ (s.startDelivery i).power = s.power
      ∧ (s.startDelivery i).marker = s.marker ∧ (s.startDelivery i).startKind = s.startKind
      ∧ (s.startDelivery i).elapsed = s.elapsed ∧ (s.startDelivery i).freeCount = s.freeCount
      ∧ (s.startDelivery i).products = s.products ∧ (s.startDelivery i).tanks = s.tanks
      ∧ (s.startDelivery i).bus = s.bus ∧ (s.startDelivery i).machines = s.machines
      ∧ (s.startDelivery i).pattern = s.pattern ∧ (s.startDelivery i).journal = s.journal
      ∧ (s.startDelivery i).burst = s.burst ∧ (s.startDelivery i).period = s.period
      ∧ (s.startDelivery i).settings = s.settings ∧ (s.startDelivery i).link = s.link := by
  refine ⟨?_, ?_, ?_, ?_, ?_, ?_, ?_, ?_, ?_, ?_, ?_, ?_, ?_, ?_, ?_, ?_⟩ <;>
    (unfold State.startDelivery; try dsimp only) <;> (repeat' split) <;> simp

@[simp] theorem nozzleLift_frame (i : Fin 8) (s : State) :
    (nozzleLift i s).pending = s.pending ∧ (nozzleLift i s).power = s.power ∧ (nozzleLift i s).marker = s.marker
      ∧ (nozzleLift i s).startKind = s.startKind ∧ (nozzleLift i s).elapsed = s.elapsed
      ∧ (nozzleLift i s).freeCount = s.freeCount ∧ (nozzleLift i s).products = s.products
      ∧ (nozzleLift i s).tanks = s.tanks ∧ (nozzleLift i s).bus = s.bus ∧ (nozzleLift i s).machines = s.machines
      ∧ (nozzleLift i s).pattern = s.pattern ∧ (nozzleLift i s).journal = s.journal
      ∧ (nozzleLift i s).burst = s.burst ∧ (nozzleLift i s).period = s.period
      ∧ (nozzleLift i s).settings = s.settings ∧ (nozzleLift i s).link = s.link := by
  refine ⟨?_, ?_, ?_, ?_, ?_, ?_, ?_, ?_, ?_, ?_, ?_, ?_, ?_, ?_, ?_, ?_⟩ <;>
    (unfold nozzleLift; try dsimp only) <;> (repeat' split) <;> simp

@[simp] theorem nozzleHangup_frame (i : Fin 8) (s : State) :
    (nozzleHangup i s).pending = s.pending ∧ (nozzleHangup i s).power = s.power
      ∧ (nozzleHangup i s).marker = s.marker ∧ (nozzleHangup i s).startKind = s.startKind
      ∧ (nozzleHangup i s).elapsed = s.elapsed ∧ (nozzleHangup i s).freeCount = s.freeCount
      ∧ (nozzleHangup i s).products = s.products ∧ (nozzleHangup i s).tanks = s.tanks
      ∧ (nozzleHangup i s).bus = s.bus ∧ (nozzleHangup i s).machines = s.machines
      ∧ (nozzleHangup i s).pattern = s.pattern ∧ (nozzleHangup i s).journal = s.journal
      ∧ (nozzleHangup i s).burst = s.burst ∧ (nozzleHangup i s).period = s.period
      ∧ (nozzleHangup i s).settings = s.settings ∧ (nozzleHangup i s).link = s.link := by
  refine ⟨?_, ?_, ?_, ?_, ?_, ?_, ?_, ?_, ?_, ?_, ?_, ?_, ?_, ?_, ?_, ?_⟩ <;>
    (unfold nozzleHangup; try dsimp only) <;> (repeat' split) <;> simp

@[simp] theorem authorisationExpiry_frame (i : Fin 8) (s : State) :
    (authorisationExpiry i s).pending = s.pending ∧ (authorisationExpiry i s).power = s.power
      ∧ (authorisationExpiry i s).marker = s.marker ∧ (authorisationExpiry i s).startKind = s.startKind
      ∧ (authorisationExpiry i s).elapsed = s.elapsed ∧ (authorisationExpiry i s).freeCount = s.freeCount
      ∧ (authorisationExpiry i s).products = s.products ∧ (authorisationExpiry i s).headers = s.headers
      ∧ (authorisationExpiry i s).slot = s.slot ∧ (authorisationExpiry i s).tanks = s.tanks
      ∧ (authorisationExpiry i s).bus = s.bus ∧ (authorisationExpiry i s).machines = s.machines
      ∧ (authorisationExpiry i s).pattern = s.pattern ∧ (authorisationExpiry i s).burst = s.burst
      ∧ (authorisationExpiry i s).shutdown = s.shutdown ∧ (authorisationExpiry i s).period = s.period
      ∧ (authorisationExpiry i s).settings = s.settings := by
  refine ⟨?_, ?_, ?_, ?_, ?_, ?_, ?_, ?_, ?_, ?_, ?_, ?_, ?_, ?_, ?_, ?_, ?_⟩ <;>
    (unfold authorisationExpiry; try dsimp only) <;> (repeat' split) <;> simp

@[simp] theorem maxOpenExpiry_frame (i : Fin 8) (s : State) :
    (maxOpenExpiry i s).pending = s.pending ∧ (maxOpenExpiry i s).power = s.power
      ∧ (maxOpenExpiry i s).marker = s.marker ∧ (maxOpenExpiry i s).startKind = s.startKind
      ∧ (maxOpenExpiry i s).elapsed = s.elapsed ∧ (maxOpenExpiry i s).freeCount = s.freeCount
      ∧ (maxOpenExpiry i s).products = s.products ∧ (maxOpenExpiry i s).tanks = s.tanks
      ∧ (maxOpenExpiry i s).bus = s.bus ∧ (maxOpenExpiry i s).machines = s.machines
      ∧ (maxOpenExpiry i s).pattern = s.pattern ∧ (maxOpenExpiry i s).journal = s.journal
      ∧ (maxOpenExpiry i s).burst = s.burst ∧ (maxOpenExpiry i s).period = s.period
      ∧ (maxOpenExpiry i s).settings = s.settings ∧ (maxOpenExpiry i s).link = s.link := by
  refine ⟨?_, ?_, ?_, ?_, ?_, ?_, ?_, ?_, ?_, ?_, ?_, ?_, ?_, ?_, ?_, ?_⟩ <;>
    (unfold maxOpenExpiry; try dsimp only) <;> (repeat' split) <;> simp

@[simp] theorem closeLimitExpiry_frame (i : Fin 8) (s : State) :
    (closeLimitExpiry i s).pending = s.pending ∧ (closeLimitExpiry i s).power = s.power
      ∧ (closeLimitExpiry i s).marker = s.marker ∧ (closeLimitExpiry i s).startKind = s.startKind
      ∧ (closeLimitExpiry i s).elapsed = s.elapsed ∧ (closeLimitExpiry i s).freeCount = s.freeCount
      ∧ (closeLimitExpiry i s).products = s.products ∧ (closeLimitExpiry i s).headers = s.headers
      ∧ (closeLimitExpiry i s).slot = s.slot ∧ (closeLimitExpiry i s).tanks = s.tanks
      ∧ (closeLimitExpiry i s).bus = s.bus ∧ (closeLimitExpiry i s).pattern = s.pattern
      ∧ (closeLimitExpiry i s).burst = s.burst ∧ (closeLimitExpiry i s).shutdown = s.shutdown
      ∧ (closeLimitExpiry i s).period = s.period ∧ (closeLimitExpiry i s).settings = s.settings := by
  refine ⟨?_, ?_, ?_, ?_, ?_, ?_, ?_, ?_, ?_, ?_, ?_, ?_, ?_, ?_, ?_, ?_⟩ <;>
    (unfold closeLimitExpiry; try dsimp only) <;> (repeat' split) <;> simp

@[simp] theorem creepWindowExpiry_frame (i : Fin 8) (s : State) :
    (creepWindowExpiry i s).pending = s.pending ∧ (creepWindowExpiry i s).power = s.power
      ∧ (creepWindowExpiry i s).marker = s.marker ∧ (creepWindowExpiry i s).startKind = s.startKind
      ∧ (creepWindowExpiry i s).elapsed = s.elapsed ∧ (creepWindowExpiry i s).freeCount = s.freeCount
      ∧ (creepWindowExpiry i s).products = s.products ∧ (creepWindowExpiry i s).headers = s.headers
      ∧ (creepWindowExpiry i s).slot = s.slot ∧ (creepWindowExpiry i s).tanks = s.tanks
      ∧ (creepWindowExpiry i s).bus = s.bus ∧ (creepWindowExpiry i s).machines = s.machines
      ∧ (creepWindowExpiry i s).pattern = s.pattern ∧ (creepWindowExpiry i s).journal = s.journal
      ∧ (creepWindowExpiry i s).burst = s.burst ∧ (creepWindowExpiry i s).shutdown = s.shutdown
      ∧ (creepWindowExpiry i s).period = s.period ∧ (creepWindowExpiry i s).settings = s.settings
      ∧ (creepWindowExpiry i s).link = s.link := by
  refine ⟨?_, ?_, ?_, ?_, ?_, ?_, ?_, ?_, ?_, ?_, ?_, ?_, ?_, ?_, ?_, ?_, ?_, ?_, ?_⟩ <;>
    (unfold creepWindowExpiry; try dsimp only) <;> (repeat' split) <;> simp

@[simp] theorem pumpEnding_frame (i : Fin 8) (s : State) :
    (pumpEnding i s).pending = s.pending ∧ (pumpEnding i s).power = s.power ∧ (pumpEnding i s).marker = s.marker
      ∧ (pumpEnding i s).startKind = s.startKind ∧ (pumpEnding i s).elapsed = s.elapsed
      ∧ (pumpEnding i s).freeCount = s.freeCount ∧ (pumpEnding i s).products = s.products
      ∧ (pumpEnding i s).tanks = s.tanks ∧ (pumpEnding i s).bus = s.bus ∧ (pumpEnding i s).machines = s.machines
      ∧ (pumpEnding i s).pattern = s.pattern ∧ (pumpEnding i s).journal = s.journal
      ∧ (pumpEnding i s).burst = s.burst ∧ (pumpEnding i s).period = s.period
      ∧ (pumpEnding i s).settings = s.settings ∧ (pumpEnding i s).link = s.link := by
  refine ⟨?_, ?_, ?_, ?_, ?_, ?_, ?_, ?_, ?_, ?_, ?_, ?_, ?_, ?_, ?_, ?_⟩ <;>
    (unfold pumpEnding; try dsimp only) <;> (repeat' split) <;> simp

@[simp] theorem tankLowEnding_frame (i : Fin 8) (s : State) :
    (tankLowEnding i s).pending = s.pending ∧ (tankLowEnding i s).power = s.power
      ∧ (tankLowEnding i s).marker = s.marker ∧ (tankLowEnding i s).startKind = s.startKind
      ∧ (tankLowEnding i s).elapsed = s.elapsed ∧ (tankLowEnding i s).freeCount = s.freeCount
      ∧ (tankLowEnding i s).products = s.products ∧ (tankLowEnding i s).tanks = s.tanks
      ∧ (tankLowEnding i s).bus = s.bus ∧ (tankLowEnding i s).machines = s.machines
      ∧ (tankLowEnding i s).pattern = s.pattern ∧ (tankLowEnding i s).journal = s.journal
      ∧ (tankLowEnding i s).burst = s.burst ∧ (tankLowEnding i s).period = s.period
      ∧ (tankLowEnding i s).settings = s.settings ∧ (tankLowEnding i s).link = s.link := by
  refine ⟨?_, ?_, ?_, ?_, ?_, ?_, ?_, ?_, ?_, ?_, ?_, ?_, ?_, ?_, ?_, ?_⟩ <;>
    (unfold tankLowEnding; try dsimp only) <;> (repeat' split) <;> simp

@[simp] theorem State.applyTests_frame (i : Fin 8) (h : Fin 6) (s : State) :
    (s.applyTests i h).pending = s.pending ∧ (s.applyTests i h).power = s.power
      ∧ (s.applyTests i h).marker = s.marker ∧ (s.applyTests i h).startKind = s.startKind
      ∧ (s.applyTests i h).elapsed = s.elapsed ∧ (s.applyTests i h).freeCount = s.freeCount
      ∧ (s.applyTests i h).products = s.products ∧ (s.applyTests i h).tanks = s.tanks
      ∧ (s.applyTests i h).bus = s.bus ∧ (s.applyTests i h).machines = s.machines
      ∧ (s.applyTests i h).pattern = s.pattern ∧ (s.applyTests i h).journal = s.journal
      ∧ (s.applyTests i h).burst = s.burst ∧ (s.applyTests i h).period = s.period
      ∧ (s.applyTests i h).settings = s.settings ∧ (s.applyTests i h).link = s.link := by
  refine ⟨?_, ?_, ?_, ?_, ?_, ?_, ?_, ?_, ?_, ?_, ?_, ?_, ?_, ?_, ?_, ?_⟩ <;>
    (unfold State.applyTests; try dsimp only) <;> (repeat' split) <;> simp

@[simp] theorem State.hoseTest_frame (i : Fin 8) (h : Fin 6) (s : State) :
    (s.hoseTest i h).pending = s.pending ∧ (s.hoseTest i h).power = s.power ∧ (s.hoseTest i h).marker = s.marker
      ∧ (s.hoseTest i h).startKind = s.startKind ∧ (s.hoseTest i h).elapsed = s.elapsed
      ∧ (s.hoseTest i h).freeCount = s.freeCount ∧ (s.hoseTest i h).products = s.products
      ∧ (s.hoseTest i h).machines = s.machines ∧ (s.hoseTest i h).pattern = s.pattern
      ∧ (s.hoseTest i h).burst = s.burst ∧ (s.hoseTest i h).period = s.period
      ∧ (s.hoseTest i h).settings = s.settings := by
  refine ⟨?_, ?_, ?_, ?_, ?_, ?_, ?_, ?_, ?_, ?_, ?_, ?_⟩ <;>
    (unfold State.hoseTest; try dsimp only) <;> (repeat' split) <;> simp

@[simp] theorem State.closeTest_frame (i : Fin 8) (s : State) :
    (s.closeTest i).pending = s.pending ∧ (s.closeTest i).power = s.power ∧ (s.closeTest i).marker = s.marker
      ∧ (s.closeTest i).startKind = s.startKind ∧ (s.closeTest i).elapsed = s.elapsed
      ∧ (s.closeTest i).freeCount = s.freeCount ∧ (s.closeTest i).products = s.products
      ∧ (s.closeTest i).headers = s.headers ∧ (s.closeTest i).slot = s.slot ∧ (s.closeTest i).tanks = s.tanks
      ∧ (s.closeTest i).bus = s.bus ∧ (s.closeTest i).pattern = s.pattern ∧ (s.closeTest i).burst = s.burst
      ∧ (s.closeTest i).shutdown = s.shutdown ∧ (s.closeTest i).period = s.period
      ∧ (s.closeTest i).settings = s.settings := by
  refine ⟨?_, ?_, ?_, ?_, ?_, ?_, ?_, ?_, ?_, ?_, ?_, ?_, ?_, ?_, ?_, ?_⟩ <;>
    (unfold State.closeTest; try dsimp only) <;> (repeat' split) <;> simp

@[simp] theorem State.laneTests_frame (i : Fin 8) (s : State) :
    (s.laneTests i).pending = s.pending ∧ (s.laneTests i).power = s.power
      ∧ (s.laneTests i).marker = s.marker ∧ (s.laneTests i).startKind = s.startKind
      ∧ (s.laneTests i).elapsed = s.elapsed ∧ (s.laneTests i).freeCount = s.freeCount
      ∧ (s.laneTests i).products = s.products ∧ (s.laneTests i).pattern = s.pattern
      ∧ (s.laneTests i).burst = s.burst ∧ (s.laneTests i).period = s.period
      ∧ (s.laneTests i).settings = s.settings := by
  refine ⟨?_, ?_, ?_, ?_, ?_, ?_, ?_, ?_, ?_, ?_, ?_⟩ <;>
    (unfold State.laneTests; try dsimp only) <;> (repeat' split) <;> simp

@[simp] theorem State.useLaneReading_frame (i : Fin 8) (s : State) :
    (s.useLaneReading i).pending = s.pending ∧ (s.useLaneReading i).power = s.power
      ∧ (s.useLaneReading i).marker = s.marker ∧ (s.useLaneReading i).startKind = s.startKind
      ∧ (s.useLaneReading i).elapsed = s.elapsed ∧ (s.useLaneReading i).freeCount = s.freeCount
      ∧ (s.useLaneReading i).lanes = s.lanes ∧ (s.useLaneReading i).products = s.products
      ∧ (s.useLaneReading i).headers = s.headers ∧ (s.useLaneReading i).slot = s.slot
      ∧ (s.useLaneReading i).bus = s.bus ∧ (s.useLaneReading i).machines = s.machines
      ∧ (s.useLaneReading i).pattern = s.pattern ∧ (s.useLaneReading i).journal = s.journal
      ∧ (s.useLaneReading i).burst = s.burst ∧ (s.useLaneReading i).shutdown = s.shutdown
      ∧ (s.useLaneReading i).period = s.period ∧ (s.useLaneReading i).settings = s.settings := by
  refine ⟨?_, ?_, ?_, ?_, ?_, ?_, ?_, ?_, ?_, ?_, ?_, ?_, ?_, ?_, ?_, ?_, ?_, ?_⟩ <;>
    (unfold State.useLaneReading; try dsimp only) <;> (repeat' split) <;> simp

@[simp] theorem State.debitLane_frame (i : Fin 8) (n : Nat) (s : State) :
    (s.debitLane i n).pending = s.pending ∧ (s.debitLane i n).power = s.power
      ∧ (s.debitLane i n).marker = s.marker ∧ (s.debitLane i n).startKind = s.startKind
      ∧ (s.debitLane i n).elapsed = s.elapsed ∧ (s.debitLane i n).freeCount = s.freeCount
      ∧ (s.debitLane i n).products = s.products ∧ (s.debitLane i n).headers = s.headers
      ∧ (s.debitLane i n).slot = s.slot ∧ (s.debitLane i n).bus = s.bus
      ∧ (s.debitLane i n).machines = s.machines ∧ (s.debitLane i n).pattern = s.pattern
      ∧ (s.debitLane i n).journal = s.journal ∧ (s.debitLane i n).burst = s.burst
      ∧ (s.debitLane i n).shutdown = s.shutdown ∧ (s.debitLane i n).period = s.period
      ∧ (s.debitLane i n).settings = s.settings := by
  refine ⟨?_, ?_, ?_, ?_, ?_, ?_, ?_, ?_, ?_, ?_, ?_, ?_, ?_, ?_, ?_, ?_, ?_⟩ <;>
    (unfold State.debitLane; try dsimp only) <;> (repeat' split) <;> simp

@[simp] theorem State.meteredSample_frame (i : Fin 8) (n : Nat) (s : State) :
    (s.meteredSample i n).pending = s.pending ∧ (s.meteredSample i n).power = s.power
      ∧ (s.meteredSample i n).marker = s.marker ∧ (s.meteredSample i n).startKind = s.startKind
      ∧ (s.meteredSample i n).elapsed = s.elapsed ∧ (s.meteredSample i n).freeCount = s.freeCount
      ∧ (s.meteredSample i n).products = s.products ∧ (s.meteredSample i n).pattern = s.pattern
      ∧ (s.meteredSample i n).burst = s.burst ∧ (s.meteredSample i n).period = s.period
      ∧ (s.meteredSample i n).settings = s.settings := by
  refine ⟨?_, ?_, ?_, ?_, ?_, ?_, ?_, ?_, ?_, ?_, ?_⟩ <;>
    (unfold State.meteredSample; try dsimp only) <;> (repeat' split) <;> simp

@[simp] theorem sample_frame (i : Fin 8) (s : State) :
    (sample i s).pending = s.pending ∧ (sample i s).power = s.power ∧ (sample i s).marker = s.marker
      ∧ (sample i s).startKind = s.startKind ∧ (sample i s).elapsed = s.elapsed
      ∧ (sample i s).freeCount = s.freeCount ∧ (sample i s).products = s.products
      ∧ (sample i s).pattern = s.pattern ∧ (sample i s).burst = s.burst ∧ (sample i s).period = s.period
      ∧ (sample i s).settings = s.settings := by
  refine ⟨?_, ?_, ?_, ?_, ?_, ?_, ?_, ?_, ?_, ?_, ?_⟩ <;>
    (unfold sample; try dsimp only) <;> (repeat' split) <;> simp

/-- What a sample's read does to the lane. -/
theorem Lane.readCount_eq (l : Lane) : l.readCount =
    { l with
      pulses := 0, quietRun := if l.pulses = 0 then min 5 (l.quietRun + 1) else 0
      noFlowRun :=
        if l.pulses ≠ 0 then 0
        else if l.state = .flowing ∨ l.state = .trimming then l.noFlowRun + 1 else l.noFlowRun } := by
  unfold Lane.readCount Lane.noFlowStep satAdd
  cases l.state <;> simp [LaneState.flows]

/-- What the tests of a metered sample do to a demanding lane, and the ending they give. -/
theorem Lane.sampleTests_eq (q : Product) (l : Lane) (h : l.state.demands = true) :
    let stage := if l.stage = some .prime ∧ q.primeVolume ≤ l.delivery.gross then some Stage.main else l.stage
    let trims := l.delivery.remaining ≤ q.trimVolume ∧ stage ≠ some .trim
    let tested : Lane :=
      { l with
        stage := if trims then some .trim else stage
        state := if trims ∧ l.state = .flowing then .trimming else l.state }
    let noFlow := l.state ≠ .waiting ∧ 5 * q.noFlow ≤ l.noFlowRun
    l.sampleTests q =
      if l.delivery.remaining ≤ q.closeAhead then ({ l with stage := stage }, some .preset)
      else (tested, if noFlow then some .noflow else none) := by
  have hp : l.primeTest q =
      { l with
        stage :=
          if l.stage = some .prime ∧ q.primeVolume ≤ l.delivery.gross then some Stage.main else l.stage } := by
    unfold Lane.primeTest
    split <;> rfl
  intro stage trims tested noFlow
  have ht : l.stageTests q = tested := by
    unfold Lane.stageTests Lane.trimTest
    rw [hp]
    by_cases hx : trims
    · simp only [tested, if_pos hx]
      rw [if_pos hx]
      by_cases hf : l.state = .flowing <;> simp [hf, hx]
    · simp only [tested, if_neg hx]
      rw [if_neg hx]
      simp [hx, stage]
  unfold Lane.sampleTests
  rw [ht, hp]
  by_cases hc : l.delivery.remaining ≤ q.closeAhead
  · rw [if_pos hc, if_pos hc]
  · rw [if_neg hc, if_neg hc]
    have flows : tested.state.flows = true ↔ l.state ≠ .waiting := by
      simp only [tested]
      revert h
      by_cases hx : trims <;> cases l.state <;> simp [LaneState.demands, LaneState.flows, hx]
    simp [noFlow, flows, tested]

end Sys2Proof.Machine
end

