-- ==== Sys2Proof/Laws/FramesPeriod.lean ====
section
/-! SUPPORT. What the operations over periods, bursts and starts leave unchanged: one frame law per operation, for simp. -/
namespace Sys2Proof.Machine

@[simp] theorem State.findBoundary_frame (s : State) :
    (s.findBoundary).pending = s.pending ∧ (s.findBoundary).power = s.power ∧ (s.findBoundary).marker = s.marker
      ∧ (s.findBoundary).startKind = s.startKind ∧ (s.findBoundary).elapsed = s.elapsed
      ∧ (s.findBoundary).freeCount = s.freeCount ∧ (s.findBoundary).lanes = s.lanes
      ∧ (s.findBoundary).products = s.products ∧ (s.findBoundary).headers = s.headers
      ∧ (s.findBoundary).slot = s.slot ∧ (s.findBoundary).tanks = s.tanks ∧ (s.findBoundary).bus = s.bus
      ∧ (s.findBoundary).machines = s.machines ∧ (s.findBoundary).pattern = s.pattern
      ∧ (s.findBoundary).journal = s.journal ∧ (s.findBoundary).burst = s.burst
      ∧ (s.findBoundary).shutdown = s.shutdown ∧ (s.findBoundary).settings = s.settings
      ∧ (s.findBoundary).link = s.link := by
  unfold State.findBoundary; simp

@[simp] theorem State.useTanks_frame (s : State) :
    (s.useTanks).pending = s.pending ∧ (s.useTanks).power = s.power ∧ (s.useTanks).marker = s.marker
      ∧ (s.useTanks).startKind = s.startKind ∧ (s.useTanks).elapsed = s.elapsed
      ∧ (s.useTanks).freeCount = s.freeCount ∧ (s.useTanks).lanes = s.lanes ∧ (s.useTanks).products = s.products
      ∧ (s.useTanks).headers = s.headers ∧ (s.useTanks).slot = s.slot ∧ (s.useTanks).bus = s.bus
      ∧ (s.useTanks).machines = s.machines ∧ (s.useTanks).pattern = s.pattern ∧ (s.useTanks).journal = s.journal
      ∧ (s.useTanks).burst = s.burst ∧ (s.useTanks).shutdown = s.shutdown ∧ (s.useTanks).period = s.period
      ∧ (s.useTanks).settings = s.settings := by
  refine ⟨?_, ?_, ?_, ?_, ?_, ?_, ?_, ?_, ?_, ?_, ?_, ?_, ?_, ?_, ?_, ?_, ?_, ?_⟩ <;>
    exact eachOfEight_keeps _ _ (fun _ _ => by split <;> simp) _

@[simp] theorem State.varianceNotice_frame (t : Fin 8) (s : State) :
    (s.varianceNotice t).pending = s.pending ∧ (s.varianceNotice t).power = s.power
      ∧ (s.varianceNotice t).marker = s.marker ∧ (s.varianceNotice t).startKind = s.startKind
      ∧ (s.varianceNotice t).elapsed = s.elapsed ∧ (s.varianceNotice t).freeCount = s.freeCount
      ∧ (s.varianceNotice t).lanes = s.lanes ∧ (s.varianceNotice t).products = s.products
      ∧ (s.varianceNotice t).headers = s.headers ∧ (s.varianceNotice t).slot = s.slot
      ∧ (s.varianceNotice t).tanks = s.tanks ∧ (s.varianceNotice t).bus = s.bus
      ∧ (s.varianceNotice t).machines = s.machines ∧ (s.varianceNotice t).pattern = s.pattern
      ∧ (s.varianceNotice t).journal = s.journal ∧ (s.varianceNotice t).burst = s.burst
      ∧ (s.varianceNotice t).shutdown = s.shutdown ∧ (s.varianceNotice t).period = s.period
      ∧ (s.varianceNotice t).settings = s.settings := by
  refine ⟨?_, ?_, ?_, ?_, ?_, ?_, ?_, ?_, ?_, ?_, ?_, ?_, ?_, ?_, ?_, ?_, ?_, ?_, ?_⟩ <;>
    (unfold State.varianceNotice; try dsimp only) <;> (repeat' split) <;> simp

@[simp] theorem State.closeNotices_frame (s : State) :
    s.closeNotices.pending = s.pending ∧ s.closeNotices.power = s.power ∧ s.closeNotices.marker = s.marker
      ∧ s.closeNotices.startKind = s.startKind ∧ s.closeNotices.elapsed = s.elapsed
      ∧ s.closeNotices.freeCount = s.freeCount ∧ s.closeNotices.lanes = s.lanes
      ∧ s.closeNotices.products = s.products ∧ s.closeNotices.headers = s.headers ∧ s.closeNotices.slot = s.slot
      ∧ s.closeNotices.tanks = s.tanks ∧ s.closeNotices.bus = s.bus ∧ s.closeNotices.machines = s.machines
      ∧ s.closeNotices.pattern = s.pattern ∧ s.closeNotices.journal = s.journal ∧ s.closeNotices.burst = s.burst
      ∧ s.closeNotices.shutdown = s.shutdown ∧ s.closeNotices.period = s.period
      ∧ s.closeNotices.settings = s.settings := by
  simp only [State.closeNotices, State.notify_frame, and_true, true_and]
  refine ⟨?_, ?_, ?_, ?_, ?_, ?_, ?_, ?_, ?_, ?_, ?_, ?_, ?_, ?_, ?_, ?_, ?_, ?_, ?_⟩ <;>
    exact eachOfEight_keeps _ _ (fun _ _ => by simp) _

@[simp] theorem State.resetFigures_frame (s : State) :
    s.resetFigures.pending = s.pending ∧ s.resetFigures.power = s.power ∧ s.resetFigures.marker = s.marker
      ∧ s.resetFigures.startKind = s.startKind ∧ s.resetFigures.elapsed = s.elapsed
      ∧ s.resetFigures.freeCount = s.freeCount ∧ s.resetFigures.products = s.products
      ∧ s.resetFigures.headers = s.headers ∧ s.resetFigures.slot = s.slot ∧ s.resetFigures.bus = s.bus
      ∧ s.resetFigures.machines = s.machines ∧ s.resetFigures.pattern = s.pattern
      ∧ s.resetFigures.journal = s.journal ∧ s.resetFigures.burst = s.burst ∧ s.resetFigures.period = s.period
      ∧ s.resetFigures.settings = s.settings ∧ s.resetFigures.link = s.link := by
  simp only [State.resetFigures, State.modShutdown_fields, and_true, true_and]
  refine ⟨?_, ?_, ?_, ?_, ?_, ?_, ?_, ?_, ?_, ?_, ?_, ?_, ?_, ?_, ?_, ?_, ?_⟩ <;>
    exact eachOfEight_keeps _ _ (fun _ _ => by simp) _

@[simp] theorem State.openPeriod_frame (k : Option PeriodKind) (s : State) :
    (s.openPeriod k).pending = s.pending ∧ (s.openPeriod k).power = s.power ∧ (s.openPeriod k).marker = s.marker
      ∧ (s.openPeriod k).startKind = s.startKind ∧ (s.openPeriod k).elapsed = s.elapsed
      ∧ (s.openPeriod k).freeCount = s.freeCount ∧ (s.openPeriod k).lanes = s.lanes
      ∧ (s.openPeriod k).products = s.products ∧ (s.openPeriod k).headers = s.headers
      ∧ (s.openPeriod k).slot = s.slot ∧ (s.openPeriod k).tanks = s.tanks ∧ (s.openPeriod k).bus = s.bus
      ∧ (s.openPeriod k).machines = s.machines ∧ (s.openPeriod k).pattern = s.pattern
      ∧ (s.openPeriod k).journal = s.journal ∧ (s.openPeriod k).burst = s.burst
      ∧ (s.openPeriod k).shutdown = s.shutdown ∧ (s.openPeriod k).settings = s.settings
      ∧ (s.openPeriod k).link = s.link := by
  unfold State.openPeriod; simp

@[simp] theorem State.closePeriod_frame (r : CloseReason) (k : Option PeriodKind) (s : State) :
    (s.closePeriod r k).pending = s.pending ∧ (s.closePeriod r k).power = s.power
      ∧ (s.closePeriod r k).marker = s.marker ∧ (s.closePeriod r k).startKind = s.startKind
      ∧ (s.closePeriod r k).elapsed = s.elapsed ∧ (s.closePeriod r k).freeCount = s.freeCount
      ∧ (s.closePeriod r k).products = s.products ∧ (s.closePeriod r k).headers = s.headers
      ∧ (s.closePeriod r k).slot = s.slot ∧ (s.closePeriod r k).bus = s.bus
      ∧ (s.closePeriod r k).machines = s.machines ∧ (s.closePeriod r k).pattern = s.pattern
      ∧ (s.closePeriod r k).journal = s.journal ∧ (s.closePeriod r k).burst = s.burst
      ∧ (s.closePeriod r k).settings = s.settings := by
  unfold State.closePeriod; simp

@[simp] theorem boundary_frame (s : State) :
    (boundary s).pending = s.pending ∧ (boundary s).power = s.power ∧ (boundary s).marker = s.marker
      ∧ (boundary s).startKind = s.startKind ∧ (boundary s).elapsed = s.elapsed
      ∧ (boundary s).freeCount = s.freeCount ∧ (boundary s).products = s.products
      ∧ (boundary s).headers = s.headers ∧ (boundary s).slot = s.slot ∧ (boundary s).bus = s.bus
      ∧ (boundary s).machines = s.machines ∧ (boundary s).pattern = s.pattern ∧ (boundary s).journal = s.journal
      ∧ (boundary s).burst = s.burst ∧ (boundary s).settings = s.settings := by
  refine ⟨?_, ?_, ?_, ?_, ?_, ?_, ?_, ?_, ?_, ?_, ?_, ?_, ?_, ?_, ?_⟩ <;>
    (unfold boundary; try dsimp only) <;> (repeat' split) <;> simp

@[simp] theorem State.retimeRound_frame (a b : Nat) (p : Bool) (s : State) :
    (s.retimeRound a b p).pending = s.pending ∧ (s.retimeRound a b p).power = s.power
      ∧ (s.retimeRound a b p).marker = s.marker ∧ (s.retimeRound a b p).startKind = s.startKind
      ∧ (s.retimeRound a b p).elapsed = s.elapsed ∧ (s.retimeRound a b p).freeCount = s.freeCount
      ∧ (s.retimeRound a b p).lanes = s.lanes ∧ (s.retimeRound a b p).products = s.products
      ∧ (s.retimeRound a b p).headers = s.headers ∧ (s.retimeRound a b p).slot = s.slot
      ∧ (s.retimeRound a b p).machines = s.machines ∧ (s.retimeRound a b p).pattern = s.pattern
      ∧ (s.retimeRound a b p).journal = s.journal ∧ (s.retimeRound a b p).burst = s.burst
      ∧ (s.retimeRound a b p).shutdown = s.shutdown ∧ (s.retimeRound a b p).period = s.period
      ∧ (s.retimeRound a b p).settings = s.settings := by
  refine ⟨?_, ?_, ?_, ?_, ?_, ?_, ?_, ?_, ?_, ?_, ?_, ?_, ?_, ?_, ?_, ?_, ?_⟩ <;>
    (unfold State.retimeRound; try dsimp only) <;> (repeat' split) <;> simp

@[simp] theorem State.beginBurst_frame (s : State) :
    (s.beginBurst).pending = s.pending ∧ (s.beginBurst).power = s.power ∧ (s.beginBurst).marker = s.marker
      ∧ (s.beginBurst).startKind = s.startKind ∧ (s.beginBurst).elapsed = s.elapsed
      ∧ (s.beginBurst).freeCount = s.freeCount ∧ (s.beginBurst).lanes = s.lanes
      ∧ (s.beginBurst).products = s.products ∧ (s.beginBurst).headers = s.headers ∧ (s.beginBurst).slot = s.slot
      ∧ (s.beginBurst).tanks = s.tanks ∧ (s.beginBurst).bus = s.bus ∧ (s.beginBurst).machines = s.machines
      ∧ (s.beginBurst).pattern = s.pattern ∧ (s.beginBurst).journal = s.journal
      ∧ (s.beginBurst).shutdown = s.shutdown ∧ (s.beginBurst).period = s.period
      ∧ (s.beginBurst).settings = s.settings ∧ (s.beginBurst).link = s.link := by
  refine ⟨?_, ?_, ?_, ?_, ?_, ?_, ?_, ?_, ?_, ?_, ?_, ?_, ?_, ?_, ?_, ?_, ?_, ?_, ?_⟩ <;>
    (unfold State.beginBurst; try dsimp only) <;> (repeat' split) <;> simp

@[simp] theorem State.recordSent_frame (r : JournalRecord) (s : State) :
    (s.recordSent r).pending = s.pending ∧ (s.recordSent r).power = s.power ∧ (s.recordSent r).marker = s.marker
      ∧ (s.recordSent r).startKind = s.startKind ∧ (s.recordSent r).elapsed = s.elapsed
      ∧ (s.recordSent r).freeCount = s.freeCount ∧ (s.recordSent r).lanes = s.lanes
      ∧ (s.recordSent r).products = s.products ∧ (s.recordSent r).headers = s.headers
      ∧ (s.recordSent r).slot = s.slot ∧ (s.recordSent r).tanks = s.tanks ∧ (s.recordSent r).bus = s.bus
      ∧ (s.recordSent r).machines = s.machines ∧ (s.recordSent r).pattern = s.pattern
      ∧ (s.recordSent r).shutdown = s.shutdown ∧ (s.recordSent r).period = s.period
      ∧ (s.recordSent r).settings = s.settings ∧ (s.recordSent r).link = s.link := by
  refine ⟨?_, ?_, ?_, ?_, ?_, ?_, ?_, ?_, ?_, ?_, ?_, ?_, ?_, ?_, ?_, ?_, ?_, ?_⟩ <;>
    (unfold State.recordSent; try dsimp only) <;> (repeat' split) <;> simp

@[simp] theorem State.messageSent_frame (m : TxMessage) (s : State) :
    (s.messageSent m).pending = s.pending ∧ (s.messageSent m).power = s.power
      ∧ (s.messageSent m).marker = s.marker ∧ (s.messageSent m).startKind = s.startKind
      ∧ (s.messageSent m).elapsed = s.elapsed ∧ (s.messageSent m).freeCount = s.freeCount
      ∧ (s.messageSent m).lanes = s.lanes ∧ (s.messageSent m).products = s.products
      ∧ (s.messageSent m).headers = s.headers ∧ (s.messageSent m).slot = s.slot
      ∧ (s.messageSent m).tanks = s.tanks ∧ (s.messageSent m).bus = s.bus
      ∧ (s.messageSent m).machines = s.machines ∧ (s.messageSent m).pattern = s.pattern
      ∧ (s.messageSent m).shutdown = s.shutdown ∧ (s.messageSent m).period = s.period
      ∧ (s.messageSent m).settings = s.settings := by
  refine ⟨?_, ?_, ?_, ?_, ?_, ?_, ?_, ?_, ?_, ?_, ?_, ?_, ?_, ?_, ?_, ?_, ?_⟩ <;>
    (unfold State.messageSent; try dsimp only) <;> (repeat' split) <;> simp

@[simp] theorem State.powerCommit_frame (i : Fin 8) (b : Bool) (s : State) :
    (s.powerCommit i b).pending = s.pending ∧ (s.powerCommit i b).power = s.power
      ∧ (s.powerCommit i b).marker = s.marker ∧ (s.powerCommit i b).startKind = s.startKind
      ∧ (s.powerCommit i b).elapsed = s.elapsed ∧ (s.powerCommit i b).freeCount = s.freeCount
      ∧ (s.powerCommit i b).products = s.products ∧ (s.powerCommit i b).headers = s.headers
      ∧ (s.powerCommit i b).slot = s.slot ∧ (s.powerCommit i b).tanks = s.tanks
      ∧ (s.powerCommit i b).bus = s.bus ∧ (s.powerCommit i b).pattern = s.pattern
      ∧ (s.powerCommit i b).burst = s.burst ∧ (s.powerCommit i b).shutdown = s.shutdown
      ∧ (s.powerCommit i b).period = s.period ∧ (s.powerCommit i b).settings = s.settings := by
  unfold State.powerCommit; simp

@[simp] theorem recoverLane_frame (m : Mask) (i : Fin 8) (s : State) :
    (recoverLane m i s).pending = s.pending ∧ (recoverLane m i s).power = s.power
      ∧ (recoverLane m i s).marker = s.marker ∧ (recoverLane m i s).startKind = s.startKind
      ∧ (recoverLane m i s).elapsed = s.elapsed ∧ (recoverLane m i s).freeCount = s.freeCount
      ∧ (recoverLane m i s).products = s.products ∧ (recoverLane m i s).headers = s.headers
      ∧ (recoverLane m i s).slot = s.slot ∧ (recoverLane m i s).tanks = s.tanks
      ∧ (recoverLane m i s).bus = s.bus ∧ (recoverLane m i s).pattern = s.pattern
      ∧ (recoverLane m i s).burst = s.burst ∧ (recoverLane m i s).shutdown = s.shutdown
      ∧ (recoverLane m i s).period = s.period ∧ (recoverLane m i s).settings = s.settings := by
  refine ⟨?_, ?_, ?_, ?_, ?_, ?_, ?_, ?_, ?_, ?_, ?_, ?_, ?_, ?_, ?_, ?_⟩ <;>
    (unfold recoverLane; try dsimp only) <;> (repeat' split) <;> simp

@[simp] theorem State.recoverLanes_frame (m : Mask) (s : State) :
    (s.recoverLanes m).pending = s.pending ∧ (s.recoverLanes m).power = s.power
      ∧ (s.recoverLanes m).marker = s.marker ∧ (s.recoverLanes m).startKind = s.startKind
      ∧ (s.recoverLanes m).elapsed = s.elapsed ∧ (s.recoverLanes m).freeCount = s.freeCount
      ∧ (s.recoverLanes m).products = s.products ∧ (s.recoverLanes m).headers = s.headers
      ∧ (s.recoverLanes m).slot = s.slot ∧ (s.recoverLanes m).tanks = s.tanks ∧ (s.recoverLanes m).bus = s.bus
      ∧ (s.recoverLanes m).pattern = s.pattern ∧ (s.recoverLanes m).burst = s.burst
      ∧ (s.recoverLanes m).shutdown = s.shutdown ∧ (s.recoverLanes m).period = s.period
      ∧ (s.recoverLanes m).settings = s.settings := by
  refine ⟨?_, ?_, ?_, ?_, ?_, ?_, ?_, ?_, ?_, ?_, ?_, ?_, ?_, ?_, ?_, ?_⟩ <;>
    exact eachOfEight_keeps _ _ (fun _ _ => by simp) _

@[simp] theorem State.lateClose_frame (s : State) :
    (s.lateClose).pending = s.pending ∧ (s.lateClose).power = s.power ∧ (s.lateClose).marker = s.marker
      ∧ (s.lateClose).startKind = s.startKind ∧ (s.lateClose).elapsed = s.elapsed
      ∧ (s.lateClose).freeCount = s.freeCount ∧ (s.lateClose).products = s.products
      ∧ (s.lateClose).headers = s.headers ∧ (s.lateClose).slot = s.slot ∧ (s.lateClose).bus = s.bus
      ∧ (s.lateClose).machines = s.machines ∧ (s.lateClose).pattern = s.pattern
      ∧ (s.lateClose).journal = s.journal ∧ (s.lateClose).burst = s.burst ∧ (s.lateClose).settings = s.settings := by
  refine ⟨?_, ?_, ?_, ?_, ?_, ?_, ?_, ?_, ?_, ?_, ?_, ?_, ?_, ?_, ?_⟩ <;>
    (unfold State.lateClose; try dsimp only) <;> (repeat' split) <;> simp

@[simp] theorem State.recover_frame (p : StartPins) (s : State) :
    (s.recover p).pending = s.pending ∧ (s.recover p).power = s.power ∧ (s.recover p).marker = s.marker
      ∧ (s.recover p).startKind = s.startKind ∧ (s.recover p).elapsed = s.elapsed
      ∧ (s.recover p).freeCount = s.freeCount ∧ (s.recover p).products = s.products
      ∧ (s.recover p).headers = s.headers ∧ (s.recover p).slot = s.slot ∧ (s.recover p).bus = s.bus
      ∧ (s.recover p).pattern = s.pattern ∧ (s.recover p).burst = s.burst ∧ (s.recover p).settings = s.settings := by
  refine ⟨?_, ?_, ?_, ?_, ?_, ?_, ?_, ?_, ?_, ?_, ?_, ?_, ?_⟩ <;>
    (unfold State.recover; try dsimp only) <;> (repeat' split) <;> simp

end Sys2Proof.Machine
end

