-- ==== Sys2Proof/Laws/Requests.lean ====
section
/-! SUPPORT. What a request answers: a ready part hands it to its owner at once; an owner that does not look at the
link answers with the new part and the answer on its link. -/
namespace Sys2Proof.Machine

/-- A ready part hands the request to its owner, puts the reply and lets the arbiter choose. -/
theorem event_request_of_ready {s : State} (h : s.ready) (f : HeldFrame) (owner : State → Answer × State) :
    event (State.request f owner) s = (owner s).2.answered f.kind f.tag (owner s).1 := by
  obtain ⟨hp, hb, hh, hr⟩ := h
  simp [event, hp, State.request, hb, hh, hr, State.answered]

/-- The answer of a running part goes to its link and nowhere else. -/
theorem State.answered_eq {u : State} (hp : u.power = .running) (kind tag : Byte) (a : Answer) :
    u.answered kind tag a = u.answers kind tag a := by
  simp only [State.answered, State.answers, Link.answering, State.putReply, State.kick, State.modLink, State.setLink, hp]
  rcases hs : u.link with ⟨as, ho, re, li, no, ov, di, rl, ba⟩
  cases li <;> simp [State.sendOn, State.modLink, State.setLink]

/-- A ready request is what its owner answers. -/
theorem event_request_exact {s : State} (h : s.ready) (f : HeldFrame) (owner : State → Answer × State) (a : Answer)
    (u : State) (hp : u.power = .running) (ho : owner s = (a, u)) :
    event (State.request f owner) s = u.answers f.kind f.tag a := by
  rw [event_request_of_ready h, ho, State.answered_eq hp]

/-- A part that is not ready puts the request in its hold. -/
theorem event_request_held {s : State} (hp : s.power = .running) (h : ¬ s.ready) (f : HeldFrame)
    (owner : State → Answer × State) : event (State.request f owner) s = (s.holdFrame f).settled := by
  have hb : (s.burst.isSome || !s.link.hold.isEmpty || s.link.reply.isSome) = true := by
    by_contra hc
    apply h
    refine ⟨hp, ?_⟩
    simpa [and_assoc] using hc
  simp only [event, hp, State.request, hb, State.settled, if_true]

/-! ## Readings that do not look at the link -/

@[simp] theorem State.lane_setLink (s : State) (k) (i) : (s.setLink k).lane i = s.lane i := rfl
@[simp] theorem State.tank_setLink (s : State) (k) (i) : (s.setLink k).tank i = s.tank i := rfl
@[simp] theorem State.header_setLink (s : State) (k) (i) : (s.setLink k).header i = s.header i := rfl
@[simp] theorem State.product_setLink (s : State) (k) (i) : (s.setLink k).product i = s.product i := rfl
@[simp] theorem State.machine_setLink (s : State) (k) (i) : (s.setLink k).machine i = s.machine i := rfl
@[simp] theorem State.feedTank_setLink (s : State) (k) (i) : (s.setLink k).feedTank i = s.feedTank i := rfl
@[simp] theorem State.fedProduct_setLink (s : State) (k) (i) : (s.setLink k).fedProduct i = s.fedProduct i := rfl
@[simp] theorem State.productBusy_setLink (s : State) (k) (i) : (s.setLink k).productBusy i = s.productBusy i := rfl
@[simp] theorem State.tankBusy_setLink (s : State) (k) (i) : (s.setLink k).tankBusy i = s.tankBusy i := rfl
@[simp] theorem State.engaged_setLink (s : State) (k) (i) : (s.setLink k).engaged i = s.engaged i := rfl
@[simp] theorem State.now_setLink (s : State) (k) : (s.setLink k).now = s.now := rfl
@[simp] theorem State.configuredLane_setLink (s : State) (k) (i) :
    (s.setLink k).configuredLane i = s.configuredLane i := rfl
@[simp] theorem State.feedNamed_setLink (s : State) (k) (i o) : (s.setLink k).feedNamed i o = s.feedNamed i o := by
  cases o <;> rfl
@[simp] theorem State.addressTaken_setLink (s : State) (k) (i o) :
    (s.setLink k).addressTaken i o = s.addressTaken i o := by
  cases o <;> rfl

/-! ## Notices -/

/-- A notice raised moves the link alone (09 R193, R194). -/
theorem State.notify_linkRaising (b : NoticeBody) (s : State) :
    s.notify b = { s with link := s.linkRaising [b] } := by
  unfold State.notify State.linkRaising noticeAdmitted
  simp only [List.foldl_cons, List.foldl_nil, Link.raised, Bool.or_eq_true, beq_iff_eq, decide_eq_true_eq]
  by_cases h : b.level = 7 ∨ s.settings.maskLevel < b.level
  · rw [if_pos h, if_pos h]; rfl
  · rw [if_neg h, if_neg h]

@[simp] theorem State.linkRaising_nil (s : State) : s.linkRaising [] = s.link := rfl

/-- Notices raised one after another. -/
theorem State.linkRaising_append (s : State) (a b : List NoticeBody) :
    s.linkRaising (a ++ b) = ({ s with link := s.linkRaising a } : State).linkRaising b := by
  unfold State.linkRaising
  rw [List.foldl_append]

/-! ## The operand codes -/

theorem mem_eightNumbers (i : Fin 8) : i ∈ eightNumbers := by revert i; decide
theorem mem_sixNumbers (i : Fin 6) : i ∈ sixNumbers := by revert i; decide
@[simp] theorem eightNumber_val (i : Fin 8) : eightNumber i.val = some i := by simp [eightNumber]
@[simp] theorem sixNumber_val (i : Fin 6) : sixNumber i.val = some i := by simp [sixNumber]
@[simp] theorem machineNumber_val (i : Fin 512) : machineNumber i.val = some i := by simp [machineNumber]
@[simp] theorem flagCode_toNat (b : Bool) : flagCode b.toNat = some b := by cases b <;> rfl
@[simp] theorem causeCode_code (k : CauseKind) : causeCode k.code = some k := by cases k <;> rfl
@[simp] theorem tankCode_indexCode (o : Option (Fin 8)) : tankCode (indexCode o) = some o := by
  rcases o with _ | i
  · rfl
  · revert i; decide
@[simp] theorem productCode_indexCode (o : Option (Fin 6)) : productCode (indexCode o) = some o := by
  rcases o with _ | i
  · rfl
  · revert i; decide
@[simp] theorem curveCode_code (c : CurveSource) : curveCode c.code = some c := by
  rcases c with n | _
  · revert n; decide
  · rfl

theorem State.productBusy_iff (s : State) (p : Fin 6) :
    s.productBusy p = true ↔ ∃ i, (s.lane i).record.product = some p ∧ (s.lane i).state ≠ .idle := by
  simp [State.productBusy, State.laneOn, mem_eightNumbers]

theorem State.headerDemand_iff (s : State) (h : Fin 6) :
    s.headerDemand h = true ↔ ∃ i, (s.lane i).record.product = some h ∧ (s.lane i).state.demands = true := by
  simp [State.headerDemand, State.laneOn, mem_eightNumbers]

theorem State.engaged_iff (s : State) (m : Fin 512) :
    s.engaged m = true ↔ ∃ i, (s.lane i).state.holdsReservation = true ∧ (s.lane i).delivery.machine = m := by
  simp [State.engaged, mem_eightNumbers]

theorem State.feedTank_iff_fedProduct (s : State) (p : Fin 6) (t : Fin 8) :
    s.feedTank p = some t ↔ s.fedProduct t = some p := by
  simp only [State.feedTank, State.fedProduct]
  constructor
  · intro h; split at h
    · simp at h
    · split at h
      · simp at h; subst h; simp_all
      · simp at h
  · intro h; split at h
    · simp at h
    · split at h
      · simp at h; subst h; simp_all
      · simp at h

theorem State.tankFree_iff (s : State) (t : Fin 8) : s.tankFree t ↔ s.tankBusy t = false := by
  have key : (match s.fedProduct t with | some p => s.productBusy p | none => false) = false ↔
      ∀ p, s.feedTank p = some t → ∀ i, (s.lane i).record.product = some p → (s.lane i).state = .idle := by
    cases hf : s.fedProduct t with
    | none => simp [State.feedTank_iff_fedProduct, hf]
    | some p =>
      simp only [State.feedTank_iff_fedProduct, hf]
      rw [Bool.eq_false_iff, Ne, State.productBusy_iff]
      simp
  exact ⟨fun h => by simp [State.tankBusy, h.1]; exact key.2 h.2,
    fun h => ⟨by simpa using (Bool.or_eq_false_iff.1 h).2, key.1 (Bool.or_eq_false_iff.1 h).1⟩⟩

/-- Eight values as a function of the number. -/
def eightBits (b0 b1 b2 b3 b4 b5 b6 b7 : Bool) (i : Fin 8) : Bool :=
  match i with
  | 0 => b0
  | 1 => b1
  | 2 => b2
  | 3 => b3
  | 4 => b4
  | 5 => b5
  | 6 => b6
  | 7 => b7

theorem maskOf_eightBits : ∀ (b0 b1 b2 b3 b4 b5 b6 b7 : Bool) (i : Fin 8),
    (maskOf (eightBits b0 b1 b2 b3 b4 b5 b6 b7)).getLsbD i.val = eightBits b0 b1 b2 b3 b4 b5 b6 b7 i := by
  decide

@[simp] theorem maskOf_getLsbD (p : Fin 8 → Bool) (i : Fin 8) : (maskOf p).getLsbD i.val = p i := by
  have h : p = eightBits (p 0) (p 1) (p 2) (p 3) (p 4) (p 5) (p 6) (p 7) := by
    funext i
    match i with
    | 0 | 1 | 2 | 3 | 4 | 5 | 6 | 7 => rfl
  rw [h]
  exact maskOf_eightBits ..

theorem Mask.ext_members {a b : Mask} (h : ∀ i : Fin 8, a.getLsbD i.val = b.getLsbD i.val) : a = b :=
  BitVec.eq_of_getLsbD_eq fun i hi => h ⟨i, hi⟩

end Sys2Proof.Machine
end

