-- ==== Sys2Proof/Laws/Grants.lean ====
section
/-! SUPPORT. What a grant pass can do: it moves only the Arbiter's grants and RATE-CAPPED of its own product's lanes,
gives HOLD wherever no grant may stand, and shares out no more than the pump's capacity. -/
namespace Sys2Proof.Machine

/-! ## The same lane but for its grant -/

theorem Lane.sameButGrant_refl (a : Lane) : a.sameButGrant a := rfl

theorem Lane.sameButGrant.trans {a b c : Lane} (h : a.sameButGrant b) (k : b.sameButGrant c) : a.sameButGrant c := by
  unfold Lane.sameButGrant at *
  rw [k, h]

theorem Lane.given_sameButGrant (g : Grant) (capped : Bool) (l : Lane) : l.sameButGrant (l.given g capped) := rfl

theorem Lane.sameButGrant.state_eq {a b : Lane} (h : a.sameButGrant b) : b.state = a.state := by rw [h]
theorem Lane.sameButGrant.record_eq {a b : Lane} (h : a.sameButGrant b) : b.record = a.record := by rw [h]
theorem Lane.sameButGrant.stage_eq {a b : Lane} (h : a.sameButGrant b) : b.stage = a.stage := by rw [h]
theorem Lane.sameButGrant.grant_eq {a b : Lane} (h : a.sameButGrant b) : b.grant = a.grant := by rw [h]

/-! ## States that differ in their lanes' grants only -/

/-- From s to t only grants have moved. -/
def State.grantsMoved (s t : State) : Prop :=
  t = s.setLanes t.lanes ∧ ∀ i, (s.lane i).sameButGrant (t.lane i)

theorem State.grantsMoved_refl (s : State) : s.grantsMoved s := ⟨rfl, fun _ => rfl⟩

theorem State.grantsMoved.trans {s t u : State} (h : s.grantsMoved t) (k : t.grantsMoved u) : s.grantsMoved u := by
  refine ⟨?_, fun i => (h.2 i).trans (k.2 i)⟩
  rw [k.1, h.1]
  rfl

theorem State.grantsMoved_given (s : State) (i : Fin 8) (g : Grant) (c : Bool) :
    s.grantsMoved (s.modLane i (Lane.given g c)) := by
  refine ⟨rfl, fun j => ?_⟩
  by_cases h : j = i
  · subst h; simp; exact Lane.given_sameButGrant ..
  · rw [State.lane_modLane_ne _ _ h]; exact Lane.sameButGrant_refl _

theorem passLane_grantsMoved (h : Fin 6) (acc : Nat × State) (i : Fin 8) :
    acc.2.grantsMoved (passLane h acc i).2 := by
  unfold passLane
  split
  · split
    · exact State.grantsMoved_given ..
    · exact State.grantsMoved_given ..
  · exact State.grantsMoved_refl _

theorem passLanes_grantsMoved (h : Fin 6) (l : List (Fin 8)) (acc : Nat × State) :
    acc.2.grantsMoved (l.foldl (passLane h) acc).2 := by
  induction l generalizing acc with
  | nil => exact State.grantsMoved_refl _
  | cons i l ih => exact (passLane_grantsMoved h acc i).trans (ih _)

theorem State.grantPass_grantsMoved (h : Fin 6) (s : State) : s.grantsMoved (s.grantPass h) := by
  unfold State.grantPass
  exact passLanes_grantsMoved h eightNumbers ((s.product h).pumpCapacity, s)

/-- The pass leaves a lane that is not on its list, or not of its product, alone. -/
theorem passLanes_other (h : Fin 6) (l : List (Fin 8)) (acc : Nat × State) (i : Fin 8)
    (hi : i ∉ l ∨ (acc.2.lane i).record.product ≠ some h) : (l.foldl (passLane h) acc).2.lane i = acc.2.lane i := by
  induction l generalizing acc with
  | nil => rfl
  | cons j l ih =>
    have step : (passLane h acc j).2.lane i = acc.2.lane i := by
      unfold passLane
      split
      · rename_i hj
        have : i ≠ j := by
          rintro rfl
          rcases hi with hi | hi
          · simp at hi
          · simp [State.laneOn] at hj; exact hi hj
        split <;> simp [State.lane_modLane_ne _ _ this]
      · rfl
    rw [List.foldl_cons, ih, step]
    rcases hi with hi | hi
    · left; simp at hi; exact hi.2
    · right; rw [step]; exact hi

theorem State.lane_grantPass_of_ne (h : Fin 6) (s : State) (i : Fin 8) (hi : (s.lane i).record.product ≠ some h) :
    (s.grantPass h).lane i = s.lane i := by
  unfold State.grantPass
  exact passLanes_other h eightNumbers ((s.product h).pumpCapacity, s) i (Or.inr hi)

/-- A lane of the product that may hold no grant is given HOLD. -/
theorem passLanes_hold (h : Fin 6) (l : List (Fin 8)) (acc : Nat × State) (i : Fin 8) (hi : i ∈ l)
    (hn : l.Nodup) (hp : (acc.2.lane i).record.product = some h)
    (hd : (acc.2.lane i).state.demands = false ∨ (acc.2.header h).pump ≠ .running) :
    ((l.foldl (passLane h) acc).2.lane i).arbiterGrant = .hold := by
  induction l generalizing acc with
  | nil => simp at hi
  | cons j l ih =>
    rw [List.foldl_cons]
    have hn' := List.nodup_cons.1 hn
    by_cases hij : i = j
    · subst hij
      rw [passLanes_other _ _ _ _ (Or.inl hn'.1)]
      unfold passLane
      have : acc.2.laneOn h i = true := by simp [State.laneOn, hp]
      rw [if_pos this, if_neg (by rcases hd with hd | hd <;> simp [hd])]
      simp [Lane.given]
    · have hm := passLane_grantsMoved h acc j
      refine ih _ (by simpa [hij] using hi) hn'.2 ?_ ?_
      · rw [(hm.2 i).record_eq]; exact hp
      · rw [(hm.2 i).state_eq]
        have : (passLane h acc j).2.header h = acc.2.header h := by rw [hm.1]; rfl
        rw [this]; exact hd

theorem eightNumbers_nodup : eightNumbers.Nodup := by decide

theorem State.grantPass_hold (h : Fin 6) (s : State) (i : Fin 8) (hp : (s.lane i).record.product = some h)
    (hd : (s.lane i).state.demands = false ∨ (s.header h).pump ≠ .running) :
    ((s.grantPass h).lane i).arbiterGrant = .hold := by
  unfold State.grantPass
  exact passLanes_hold h eightNumbers ((s.product h).pumpCapacity, s) i (mem_eightNumbers i) eightNumbers_nodup hp hd

/-- A grant other than HOLD after a pass of the lane's own header stands on a demand over a RUNNING pump. -/
theorem State.grantPass_lawful (h : Fin 6) (s : State) (i : Fin 8) (hp : (s.lane i).record.product = some h)
    (hg : ((s.grantPass h).lane i).arbiterGrant ≠ .hold) :
    (s.lane i).state.demands = true ∧ (s.header h).pump = .running := by
  cases hd : (s.lane i).state.demands
  · exact absurd (s.grantPass_hold h i hp (Or.inl hd)) hg
  · refine ⟨rfl, ?_⟩
    by_cases hr : (s.header h).pump = .running
    · exact hr
    · exact absurd (s.grantPass_hold h i hp (Or.inr hr)) hg

/-! ## The capacity -/

/-- The rate granted to the lanes of a list on a header. -/
def State.grantedOn (s : State) (h : Fin 6) (l : List (Fin 8)) : Nat :=
  (l.map fun i => if s.laneOn h i then (s.product h).rateOf (s.lane i).arbiterGrant else 0).sum

theorem State.grantedOn_congr {s t : State} (h : Fin 6) (l : List (Fin 8)) (hp : t.product h = s.product h)
    (hl : ∀ i ∈ l, t.lane i = s.lane i) : t.grantedOn h l = s.grantedOn h l := by
  unfold State.grantedOn
  congr 1
  apply List.map_congr_left
  intro i hi
  simp [State.laneOn, hl i hi, hp]

theorem grantOf_rate (p : Product) (full : Bool) (n : Nat) :
    p.rateOf (grantOf p full n).1 + (grantOf p full n).2 = n := by
  unfold grantOf
  split
  · rename_i h; simp at h; simp [Product.rateOf]; omega
  · split
    · simp [Product.rateOf]; omega
    · simp [Product.rateOf]

theorem passLanes_capacity (h : Fin 6) (l : List (Fin 8)) (acc : Nat × State) (hn : l.Nodup) :
    (l.foldl (passLane h) acc).2.grantedOn h l + (l.foldl (passLane h) acc).1 = acc.1 := by
  induction l generalizing acc with
  | nil => simp [State.grantedOn]
  | cons i l ih =>
    have hn' := List.nodup_cons.1 hn
    have key := ih (passLane h acc i) hn'.2
    rw [List.foldl_cons]
    have hl : (l.foldl (passLane h) (passLane h acc i)).2.lane i = (passLane h acc i).2.lane i :=
      passLanes_other _ _ _ _ (Or.inl hn'.1)
    have hm := passLanes_grantsMoved h l (passLane h acc i)
    have hm' := passLane_grantsMoved h acc i
    have hprod : (l.foldl (passLane h) (passLane h acc i)).2.product h = acc.2.product h := by
      rw [hm.1, hm'.1]; rfl
    have split : (l.foldl (passLane h) (passLane h acc i)).2.grantedOn h (i :: l) =
        (if acc.2.laneOn h i then (acc.2.product h).rateOf ((passLane h acc i).2.lane i).arbiterGrant else 0)
          + (l.foldl (passLane h) (passLane h acc i)).2.grantedOn h l := by
      simp only [State.grantedOn, List.map_cons, List.sum_cons]
      rw [hprod]
      congr 1
      have : (List.foldl (passLane h) (passLane h acc i) l).2.laneOn h i = acc.2.laneOn h i := by
        unfold State.laneOn
        rw [hl, (hm'.2 i).record_eq]
      rw [this, hl]
    rw [split]
    have step : (if acc.2.laneOn h i then (acc.2.product h).rateOf ((passLane h acc i).2.lane i).arbiterGrant else 0)
        + (passLane h acc i).1 = acc.1 := by
      unfold passLane
      split
      · split
        · simp [Lane.given]; exact grantOf_rate _ _ _
        · simp [Lane.given, Product.rateOf]
      · simp
    omega

/-- After a pass of a header its grants sum to no more than the pump's capacity. -/
theorem State.grantPass_capacity (h : Fin 6) (s : State) :
    (s.grantPass h).grantedRate h ≤ (s.product h).pumpCapacity := by
  have := passLanes_capacity h eightNumbers ((s.product h).pumpCapacity, s) eightNumbers_nodup
  have e : (s.grantPass h).grantedRate h
      = (eightNumbers.foldl (passLane h) ((s.product h).pumpCapacity, s)).2.grantedOn h eightNumbers := by
    unfold State.grantPass State.grantedRate State.grantedOn
    rfl
  rw [e]
  simp only at this
  omega

theorem State.grantedRate_congr {s t : State} (h : Fin 6) (e : ∀ i, (if t.laneOn h i then
    (t.product h).rateOf (t.lane i).arbiterGrant else 0) = if s.laneOn h i then
    (s.product h).rateOf (s.lane i).arbiterGrant else 0) : t.grantedRate h = s.grantedRate h := by
  unfold State.grantedRate
  exact congrArg List.sum (List.map_congr_left fun i _ => e i)

theorem State.grantedRate_grantPass_of_ne (h k : Fin 6) (hk : k ≠ h) (s : State) :
    (s.grantPass h).grantedRate k = s.grantedRate k := by
  have hm := (s.grantPass_grantsMoved h).2
  have hl := s.lane_grantPass_of_ne h
  have hp : (s.grantPass h).product k = s.product k := State.product_congr _ _ _ (by simp)
  generalize s.grantPass h = t at hm hl hp
  refine State.grantedRate_congr k fun i => ?_
  rw [hp]
  by_cases hi : (s.lane i).record.product = some k
  · have : (s.lane i).record.product ≠ some h := by rw [hi]; simpa using hk
    unfold State.laneOn
    rw [hl i this]
  · have h1 : t.laneOn k i = false := by
      unfold State.laneOn
      rw [(hm i).record_eq]
      simpa using hi
    have h2 : s.laneOn k i = false := by simpa [State.laneOn] using hi
    rw [h1, h2]
    rfl

/-! ## The pass as a whole -/

/-- What one visit gives the lane it visits, from what remains of the capacity. -/
theorem passLane_visits (h : Fin 6) (acc : Nat × State) (i : Fin 8) :
    (passLane h acc i).2.lane i =
      if (acc.2.lane i).record.product = some h then
        (acc.2.lane i).withGrant acc.2 h (acc.2.grantFor h acc.1 (acc.2.lane i))
      else acc.2.lane i := by
  have hc : acc.2.lowBand h = acc.2.capped h := by
    unfold State.lowBand State.capped; cases acc.2.feedTank h <;> rfl
  unfold passLane
  by_cases hp : (acc.2.lane i).record.product = some h
  · rw [if_pos (show acc.2.laneOn h i = true by simp [State.laneOn, hp]), if_pos hp]
    by_cases hd : (acc.2.lane i).state.demands = true ∧ (acc.2.header h).pump = .running
    · rw [if_pos hd]
      simp only [State.lane_modLane_same, hc]
      unfold Lane.given Lane.withGrant State.grantFor grantOf Lane.demandsFull
      rw [if_pos hd]
      cases h1 : acc.2.capped h <;> by_cases h2 : (acc.2.lane i).stage = some Stage.main <;>
        by_cases h3 : (acc.2.product h).fullRate ≤ acc.1 <;> by_cases h4 : (acc.2.product h).slowRate ≤ acc.1 <;>
        simp [h1, h2, h3, h4, hd.1]
    · rw [if_neg hd]
      simp only [State.lane_modLane_same]
      unfold Lane.given Lane.withGrant State.grantFor
      rw [if_neg hd]
      simp
  · rw [if_neg (show ¬ acc.2.laneOn h i = true by simp [State.laneOn, hp]), if_neg hp]

/-- The lanes below a lane, those above it, and that they are all. -/
theorem eightNumbers_around (i : Fin 8) : ∃ before after, eightNumbers = before ++ i :: after
    ∧ (∀ j ∈ before, j < i) ∧ ∀ j ∈ after, ¬ j < i :=
  ⟨eightNumbers.take i.val, eightNumbers.drop (i.val + 1), by revert i; decide⟩

/-- A pass reaches lane i with what the lanes below it have left of the capacity, and leaves the lanes below as they
then are. -/
theorem State.grantPass_reaches (h : Fin 6) (s : State) (i : Fin 8) (before after : List (Fin 8))
    (e : eightNumbers = before ++ i :: after) :
    ∃ acc : Nat × State, s.grantsMoved acc.2 ∧ acc.2.lane i = s.lane i
      ∧ acc.2.grantedOn h before + acc.1 = (s.product h).pumpCapacity
      ∧ (s.grantPass h).lane i = (passLane h acc i).2.lane i
      ∧ ∀ j ∈ before, (s.grantPass h).lane j = acc.2.lane j := by
  have hn := eightNumbers_nodup
  rw [e] at hn
  have hn1 := List.nodup_append.1 hn
  have hi : i ∉ before := fun c => hn1.2.2 i c i (by simp) rfl
  have hi' : i ∉ after := (List.nodup_cons.1 hn1.2.1).1
  refine ⟨before.foldl (passLane h) ((s.product h).pumpCapacity, s), passLanes_grantsMoved h before _,
    passLanes_other h before _ i (Or.inl hi), passLanes_capacity h before _ hn1.1, ?_, ?_⟩
  · unfold State.grantPass
    rw [e, List.foldl_append, List.foldl_cons]
    exact passLanes_other h after _ i (Or.inl hi')
  · intro j hj
    have hji : j ≠ i := fun c => hi (c ▸ hj)
    have hj' : j ∉ after := fun c => hn1.2.2 j hj j (by simp [c]) rfl
    unfold State.grantPass
    rw [e, List.foldl_append, List.foldl_cons, passLanes_other h after _ j (Or.inl hj')]
    exact passLanes_other h [i] _ j (Or.inl (by simpa using hji))

theorem State.grantsMoved.product {s t : State} (m : s.grantsMoved t) (h : Fin 6) : t.product h = s.product h := by
  rw [m.1]; rfl

theorem State.grantsMoved.header {s t : State} (m : s.grantsMoved t) (h : Fin 6) : t.header h = s.header h := by
  rw [m.1]; rfl

theorem State.grantsMoved.capped {s t : State} (m : s.grantsMoved t) (h : Fin 6) : t.capped h = s.capped h := by
  rw [m.1]; rfl

theorem State.grantsMoved.withGrant {s t : State} (m : s.grantsMoved t) (h : Fin 6) (g : Grant) (l : Lane) :
    l.withGrant t h g = l.withGrant s h g := by
  unfold Lane.withGrant
  rw [m.capped]

theorem State.grantsMoved.grantFor {s t : State} (m : s.grantsMoved t) (h : Fin 6) (n : Nat) (l : Lane) :
    t.grantFor h n l = s.grantFor h n l := by
  unfold State.grantFor
  rw [m.product, m.header, m.capped]

/-- A pass gives every lane of its product the grant the rules give (03 R70, R71, R73). -/
theorem State.grantPass_passOf (h : Fin 6) (s : State) : s.passOf (s.grantPass h) h := by
  intro i
  obtain ⟨before, after, e, hlt, hge⟩ := eightNumbers_around i
  obtain ⟨acc, hb, lane, cap, fin, below⟩ := s.grantPass_reaches h i before after e
  have hm := s.grantPass_grantsMoved h
  generalize s.grantPass h = u at hm fin below
  have left : u.capacityLeft h i = acc.1 := by
    have sum : (eightNumbers.map fun j => if j < i ∧ (u.lane j).record.product = some h then
        (u.product h).rateOf (u.lane j).arbiterGrant else 0).sum = acc.2.grantedOn h before := by
      rw [e, List.map_append, List.sum_append, List.map_cons, List.sum_cons, if_neg fun c => lt_irrefl i c.1,
        List.map_congr_left (l := after) (g := fun _ => 0) fun j hj => if_neg fun c => hge j hj c.1]
      simp only [List.map_const', List.sum_replicate, smul_eq_mul, Nat.mul_zero, Nat.add_zero, State.grantedOn]
      congr 1
      apply List.map_congr_left
      intro j hj
      simp [hlt j hj, below j hj, hm.product, hb.product, State.laneOn]
    unfold State.capacityLeft
    rw [sum, hm.product]
    omega
  rw [fin, passLane_visits, lane, left, hb.withGrant, hb.grantFor, hm.withGrant, hm.grantFor]

end Sys2Proof.Machine
end

