-- ==== Sys2Proof/Laws/Closing.lean ====
section
/-! SUPPORT. What the pumps' operations and a lane's entry to CLOSING can do, each said once. -/
namespace Sys2Proof.Machine

theorem State.ext_fields {s t : State} (h0 : s.pending = t.pending) (h1 : s.power = t.power)
    (h2 : s.marker = t.marker) (h3 : s.startKind = t.startKind) (h4 : s.elapsed = t.elapsed)
    (h5 : s.freeCount = t.freeCount) (h6 : s.lanes = t.lanes) (h7 : s.products = t.products)
    (h8 : s.headers = t.headers) (h9 : s.slot = t.slot) (h10 : s.tanks = t.tanks) (h11 : s.bus = t.bus)
    (h12 : s.machines = t.machines) (h13 : s.pattern = t.pattern) (h14 : s.journal = t.journal)
    (h15 : s.burst = t.burst) (h16 : s.shutdown = t.shutdown) (h17 : s.period = t.period)
    (h18 : s.settings = t.settings) (h19 : s.link = t.link) : s = t := by
  cases s; cases t; simp only at *; subst_vars; rfl

/-- From s to t only headers, the start slot and the grants of the lanes have moved; the headers but h are as before,
and a lane of h without demand has HOLD. -/
structure State.headerMoved (h : Fin 6) (s t : State) : Prop where
  rest : t = { s with lanes := t.lanes, headers := t.headers, slot := t.slot }
  lanes : ∀ i, (s.lane i).sameButGrant (t.lane i)
  others : ∀ k, k ≠ h → t.header k = s.header k
  prove : (t.header h).prove = (s.header h).prove
  away : ∀ i, (s.lane i).record.product ≠ some h → t.lane i = s.lane i

theorem State.headerMoved_refl (h : Fin 6) (s : State) : s.headerMoved h s :=
  ⟨rfl, fun _ => rfl, fun _ _ => rfl, rfl, fun _ _ => rfl⟩

theorem State.headerMoved.trans {h : Fin 6} {s t u : State} (a : s.headerMoved h t) (b : t.headerMoved h u) :
    s.headerMoved h u where
  rest := by rw [b.rest, a.rest]
  lanes i := (a.lanes i).trans (b.lanes i)
  others k hk := (b.others k hk).trans (a.others k hk)
  prove := b.prove.trans a.prove
  away i hi := by rw [b.away i (by rw [(a.lanes i).record_eq]; exact hi), a.away i hi]

theorem State.grantPass_headerMoved (h : Fin 6) (s : State) : s.headerMoved h (s.grantPass h) where
  rest := by apply State.ext_fields <;> simp
  lanes := (s.grantPass_grantsMoved h).2
  others k _ := State.header_congr k _ _ (by simp)
  prove := by rw [State.header_congr h s (s.grantPass h) (by simp)]
  away := s.lane_grantPass_of_ne h

theorem State.modSlot_headerMoved (h : Fin 6) (f : StartSlot → StartSlot) (s : State) :
    s.headerMoved h (s.modSlot f) := ⟨rfl, fun _ => rfl, fun _ _ => rfl, rfl, fun _ _ => rfl⟩

theorem State.modHeader_headerMoved (h : Fin 6) (f : Header → Header) (s : State)
    (hf : (f (s.header h)).prove = (s.header h).prove) : s.headerMoved h (s.modHeader h f) :=
  ⟨rfl, fun _ => rfl, fun k hk => State.header_modHeader_ne h k hk f s, by simp [hf], fun _ _ => rfl⟩

theorem State.setPump_headerMoved (h : Fin 6) (p : PumpState) (a b : Option Timer) (s : State) :
    s.headerMoved h (s.setPump h p a b) := by
  unfold State.setPump
  exact (State.modHeader_headerMoved h _ s rfl).trans (State.grantPass_headerMoved h _)

@[simp] theorem State.header_setPump_same (h : Fin 6) (p : PumpState) (a b : Option Timer) (s : State) :
    (s.setPump h p a b).header h = { s.header h with pump := p, proving := a, runOn := b } := by
  unfold State.setPump
  rw [State.header_congr h (s.modHeader h fun k => { k with pump := p, proving := a, runOn := b }) _ (by simp)]
  simp

theorem State.setPump_hold (h : Fin 6) (p : PumpState) (a b : Option Timer) (s : State) (i : Fin 8)
    (hp : (s.lane i).record.product = some h) (hd : (s.lane i).state.demands = false ∨ p ≠ .running) :
    ((s.setPump h p a b).lane i).arbiterGrant = .hold := by
  unfold State.setPump
  refine State.grantPass_hold h _ i hp ?_
  rcases hd with hd | hd
  · exact Or.inl hd
  · right; simpa using hd

theorem State.enterRunOn_headerMoved (h : Fin 6) (s : State) : s.headerMoved h (s.enterRunOn h) := by
  unfold State.enterRunOn
  split <;> exact State.setPump_headerMoved ..

theorem State.enterRunOn_hold (h : Fin 6) (s : State) (i : Fin 8) (hp : (s.lane i).record.product = some h) :
    ((s.enterRunOn h).lane i).arbiterGrant = .hold := by
  unfold State.enterRunOn
  split <;> exact State.setPump_hold h _ _ _ s i hp (Or.inr (by simp))

theorem State.demandLeft_headerMoved (h : Fin 6) (s : State) : s.headerMoved h (s.demandLeft h) := by
  unfold State.demandLeft
  split
  · exact State.grantPass_headerMoved ..
  · split
    · exact (State.modSlot_headerMoved h _ s).trans (State.setPump_headerMoved ..)
    · exact State.enterRunOn_headerMoved ..
    all_goals exact State.grantPass_headerMoved ..

theorem State.demandLeft_hold (h : Fin 6) (s : State) (i : Fin 8) (hp : (s.lane i).record.product = some h)
    (hd : (s.lane i).state.demands = false) : ((s.demandLeft h).lane i).arbiterGrant = .hold := by
  unfold State.demandLeft
  split
  · exact State.grantPass_hold h s i hp (Or.inl hd)
  · split
    · exact State.setPump_hold h _ _ _ _ i hp (Or.inl hd)
    · exact State.enterRunOn_hold h s i hp
    all_goals exact State.grantPass_hold h s i hp (Or.inl hd)

/-- A pass from a state with the same lanes is a pass. -/
theorem State.passOf_of_lanes {s t u : State} {h : Fin 6} (e : t.lanes = s.lanes) (p : t.passOf u h) :
    s.passOf u h := by
  intro i
  rw [← State.lane_congr i s t e]
  exact p i

theorem State.setPump_passOf (h : Fin 6) (p : PumpState) (a b : Option Timer) (s : State) :
    s.passOf (s.setPump h p a b) h :=
  State.passOf_of_lanes (t := s.modHeader h fun k => { k with pump := p, proving := a, runOn := b }) rfl
    (State.grantPass_passOf h _)

@[simp] theorem State.slot_setPump (h : Fin 6) (p : PumpState) (a b : Option Timer) (s : State) :
    (s.setPump h p a b).slot = s.slot := by
  unfold State.setPump
  simp

/-- A demand that leaves: its header hears of it (03 R62, R63, R66, R72). -/
theorem State.demandLeft_demandLeaves (h : Fin 6) (i : Fin 8) (s : State)
    (hp : (s.lane i).record.product = some h) : s.demandLeaves (s.demandLeft h) i := by
  have m := State.demandLeft_headerMoved h s
  have e : ∀ t : State, t.headers = s.headers → t.header h = s.header h := fun t k => State.header_congr h _ _ k
  have key : (s.demandLeft h).header h =
        (if s.headerDemand h = false then (s.header h).demandEnded (s.product h) s.elapsed else s.header h)
      ∧ (s.demandLeft h).slot = (if s.headerDemand h = false ∧ (s.header h).pump = .queued then
        { s.slot with queue := s.slot.queue.erase h } else s.slot)
      ∧ s.passOf (s.demandLeft h) h := by
    unfold State.demandLeft
    cases hd : s.headerDemand h
    · simp only [Bool.false_eq_true, if_false, if_true, true_and, Header.demandEnded]
      cases hs : (s.header h).pump
      case queued =>
        refine ⟨?_, by simp, State.passOf_of_lanes (t := s.modSlot _) rfl (State.setPump_passOf h _ _ _ _)⟩
        rw [State.header_setPump_same, e _ (by simp)]
        rfl
      case running =>
        unfold State.enterRunOn
        dsimp only
        split
        · exact ⟨by rw [State.header_setPump_same]; rfl, by simp, State.setPump_passOf h _ _ _ _⟩
        · exact ⟨by rw [State.header_setPump_same]; rfl, by simp, State.setPump_passOf h _ _ _ _⟩
      all_goals exact ⟨e _ (by simp), by simp, State.grantPass_passOf h s⟩
    · simpa using ⟨e _ (by simp), State.grantPass_passOf h s⟩
  unfold State.demandLeaves
  rw [hp]
  refine ⟨fun k => ?_, key.2.1, key.2.2, m.rest⟩
  by_cases hk : k = h
  · subst hk
    rw [key.1]
    simp
  · rw [m.others k hk, if_neg fun c => hk c.1]

/-- The stage a lane shows in CLOSING (01 R33). -/
theorem Lane.lastStage_eq (l : Lane) :
    l.lastStage = if l.state = .waiting ∧ l.delivery.lastRun ≠ none then l.delivery.lastRun else l.stage := by
  unfold Lane.lastStage
  cases l.state <;> cases l.delivery.lastRun <;> simp

theorem Lane.enterClosing_eq (cause : EndCause) (elapsed : Nat) (l : Lane) :
    l.enterClosing cause ⟨elapsed, 5⟩ = l.closingOn cause elapsed := by
  unfold Lane.enterClosing Lane.closingOn
  rw [Lane.lastStage_eq]

/-- A lane that demands enters CLOSING with the cause (01 R23). -/
theorem State.closeLane_entersClosing (i : Fin 8) (c : EndCause) (s : State) (hd : (s.lane i).state.demands = true) :
    s.entersClosing (s.closeLane i c) i c := by
  have hc : s.closeCore i c =
      { s with lanes := s.lanes.set i ((s.lane i).closingOn c s.elapsed)
               shutdown := { s.shutdown with closing := s.shutdown.closing ||| oneMember i } } := by
    rw [← Lane.enterClosing_eq]; rfl
  unfold State.closeLane State.entersClosing
  rw [if_pos hd, ← hc]
  unfold State.laneDemandLeft
  cases hp : ((s.closeCore i c).lane i).record.product with
  | none => unfold State.demandLeaves; rw [hp]
  | some h => exact State.demandLeft_demandLeaves h i _ hp

theorem State.closeLane_of_not_demands (i : Fin 8) (c : EndCause) (s : State)
    (hd : (s.lane i).state.demands = false) : s.closeLane i c = s := by
  unfold State.closeLane
  rw [if_neg (by simp [hd])]

end Sys2Proof.Machine
end

