-- ==== Sys2Proof/Laws/Pumps.lean ====
section
/-! SUPPORT. What the pump start queue, proving, failing and stopping of a header can do, each said once. -/
namespace Sys2Proof.Machine

/-- An event of a running part is its effect and the arbiter's choice. -/
theorem event_of_running {s : State} (h : s.power = .running) (f : State → State) : event f s = (f s).settled := by
  simp [event, h, State.settled]

theorem State.proved_headerMoved (h : Fin 6) (s : State) : s.headerMoved h (s.proved h) := by
  unfold State.proved
  split
  · exact State.setPump_headerMoved ..
  · exact State.enterRunOn_headerMoved ..

theorem State.startPump_headerMoved (h : Fin 6) (s : State) : s.headerMoved h (s.startPump h) := by
  have a := (State.modSlot_headerMoved h (fun k => { queue := k.queue.erase h, free := s.settings.stagger == 0
                                                     lastStart := s.elapsed }) s).trans
    (State.setPump_headerMoved h .starting (some (s.startTimer 10)) none _)
  unfold State.startPump
  simp only
  split
  · exact a.trans (State.proved_headerMoved ..)
  · exact a

/-- A pump that is not already proved starts into STARTING, and occupies the slot. -/
theorem State.startPump_starting (h : Fin 6) (s : State) (hp : (s.header h).prove = false) :
    (s.startPump h).header h = { s.header h with pump := .starting, proving := some ⟨s.elapsed, 10⟩, runOn := none }
      ∧ (s.startPump h).slot =
        { queue := s.slot.queue.erase h, free := s.settings.stagger == 0, lastStart := s.elapsed } := by
  unfold State.startPump
  have e : ∀ f, (s.modSlot f).header h = s.header h := fun f => State.header_congr h _ _ (by simp)
  rw [if_neg (by simp [e, hp])]
  refine ⟨by simp [e]; rfl, by simp⟩

/-- An ending is sent to the demanding lanes of a product (03 R67, 04 R91). -/
theorem State.sendEnding_lane (p : Fin 6) (mark : Lane → Lane) (s : State) (i : Fin 8) :
    (s.sendEnding p mark).lane i =
      if (s.lane i).record.product = some p ∧ (s.lane i).state.demands = true then mark (s.lane i)
      else s.lane i := by
  have key : ∀ (l : List (Fin 8)) (t : State), l.Nodup →
      (l.foldl (fun t i => if t.laneOn p i ∧ (t.lane i).state.demands then t.modLane i mark else t) t).lane i =
        if i ∈ l ∧ (t.lane i).record.product = some p ∧ (t.lane i).state.demands = true then mark (t.lane i)
        else t.lane i := by
    intro l
    induction l with
    | nil => intro t _; simp
    | cons j l ih =>
      intro t hn
      have hn' := List.nodup_cons.1 hn
      rw [List.foldl_cons, ih _ hn'.2]
      by_cases hij : i = j
      · subst hij
        simp only [hn'.1, false_and, if_false, List.mem_cons, true_or, true_and]
        simp only [State.laneOn, beq_iff_eq]
        split <;> simp
      · have : (if t.laneOn p j ∧ (t.lane j).state.demands then t.modLane j mark else t).lane i = t.lane i := by
          split
          · exact State.lane_modLane_ne _ _ hij _ _
          · rfl
        simp [this, hij]
  unfold State.sendEnding eachOfEight
  rw [key eightNumbers s eightNumbers_nodup]
  simp [mem_eightNumbers]

theorem State.stopHeader_headerMoved (h : Fin 6) (s : State) : s.headerMoved h (s.stopHeader h) := by
  unfold State.stopHeader
  cases (s.header h).pump
  case stopped | failed => exact State.grantPass_headerMoved ..
  all_goals exact (State.modSlot_headerMoved h _ s).trans (State.setPump_headerMoved ..)

theorem State.stopHeader_pump (h : Fin 6) (s : State) :
    ((s.stopHeader h).header h).pump = if (s.header h).pump = .failed then .failed else .stopped := by
  have e : (s.grantPass h).header h = s.header h := State.header_congr h _ _ (by simp)
  unfold State.stopHeader
  cases hp : (s.header h).pump <;> simp [e, hp]

end Sys2Proof.Machine
end

