-- ==== Sys2Proof/Laws/Served.lean ====
section
/-! SUPPORT. What a use of a tank's reading, the end of a round and the serving of the gauge bus do, each said as one
state (04 R83, R84, R88, R97). -/
namespace Sys2Proof.Machine

/-! ## The tanks one after another -/

/-- An update of each tank with its notices, the tanks taken one after another, is one update. -/
theorem eachOfEight_tanks (g : Tank → Tank) (b : Fin 8 → Tank → List NoticeBody) (f : Fin 8 → State → State)
    (hf : ∀ t s, f t s = { s with tanks := s.tanks.set t (g (s.tank t)), link := s.linkRaising (b t (s.tank t)) })
    (s : State) :
    eachOfEight f s = { s with tanks := Vector.ofFn fun t => g (s.tank t)
                               link := s.linkRaising (eightNumbers.flatMap fun t => b t (s.tank t)) } := by
  have key : ∀ (l : List (Fin 8)) (s : State), l.Nodup → l.foldl (fun t i => f i t) s =
      { s with tanks := Vector.ofFn fun t => if t ∈ l then g (s.tank t) else s.tank t
               link := s.linkRaising (l.flatMap fun t => b t (s.tank t)) } := by
    intro l
    induction l with
    | nil =>
      intro s _
      have e : (Vector.ofFn fun t : Fin 8 => s.tank t) = s.tanks := by
        ext j hj; simp [State.tank]
      simp [e]
    | cons j l ih =>
      intro s hn
      have hn' := List.nodup_cons.1 hn
      have same : (f j s).tank j = g (s.tank j) := by rw [hf]; exact State.tank_modTank_same j (fun _ => g (s.tank j)) s
      have other : ∀ t, t ≠ j → (f j s).tank t = s.tank t := by
        intro t ht; rw [hf]; exact State.tank_modTank_ne j t ht g s
      have tanks : (Vector.ofFn fun t => if t ∈ l then g ((f j s).tank t) else (f j s).tank t)
          = Vector.ofFn fun t => if t ∈ j :: l then g (s.tank t) else s.tank t := by
        congr 1
        funext t
        by_cases ht : t = j
        · subst ht; simp only [hn'.1, if_false, same, List.mem_cons, true_or, if_true]
        · simp only [other t ht, List.mem_cons, ht, false_or]
      have notes : (l.flatMap fun t => b t ((f j s).tank t)) = l.flatMap fun t => b t (s.tank t) :=
        List.flatMap_congr fun t ht => by rw [other t fun c => hn'.1 (c ▸ ht)]
      rw [List.foldl_cons, ih _ hn'.2, tanks, notes, List.flatMap_cons, State.linkRaising_append, hf]
      rfl
  unfold eachOfEight
  rw [key eightNumbers s (by decide)]
  simp [mem_eightNumbers]

/-- A tank put back as it is. -/
theorem State.tanks_set_self (s : State) (t : Fin 8) : s.tanks.set t (s.tank t) = s.tanks := by
  ext j hj
  simp only [State.tank, Vector.getElem_set]
  split
  · rename_i h; subst h; rfl
  · rfl

/-! ## A use of a reading (04 R88) -/

/-- A use of a tank's reading marks the first of a LOST episode and raises its notice. -/
theorem State.useReading_used (t : Fin 8) (s : State) :
    s.useReading t =
      { s with tanks := s.tanks.set t (s.tank t).used, link := s.linkRaising ((s.tank t).useNotice t) } := by
  unfold State.useReading Tank.useNotice Tank.used
  by_cases h : (s.tank t).status = .lost ∧ (s.tank t).noticed = false
  · have e : ((s.tank t).noticed || (s.tank t).status == .lost) = true := by rw [h.1]; exact Bool.or_true _
    rw [if_pos h, if_pos h, State.notify_linkRaising, e]
    rfl
  · rw [if_neg h, if_neg h]
    have e : ({ s.tank t with noticed := (s.tank t).noticed || (s.tank t).status == .lost } : Tank) = s.tank t := by
      cases hn : (s.tank t).noticed
      · have : (s.tank t).status ≠ .lost := fun c => h ⟨c, hn⟩
        cases hk : s.tank t
        rw [hk] at hn this
        simp_all
      · cases hk : s.tank t
        rw [hk] at hn
        simp_all
    rw [e, State.tanks_set_self]
    rfl

/-! ## The end of a round (04 R97) -/

theorem Tank.moveBook_booked (v : Int) (k : Tank) : k.moveBook v = k.booked v := by
  unfold Tank.moveBook Tank.booked clampInt bookLimit
  cases k
  simp [Bool.or_assoc]

theorem Receipt.result_resultOn (r : Receipt) (g1 : Int) (d1 : Nat) (held : Bool) :
    r.result g1 d1 held = r.resultOn g1 d1 held := by
  unfold Receipt.result Receipt.resultOn
  cases r.docket <;> rfl

theorem Tank.receivedOn (k : Tank) (r : ReceiptResult) :
    ({ k.moveBook r.credited with
        periodReceipts := k.periodReceipts + r.credited, receipt := none, lastReceipt := some r } : Tank)
      = k.received r := by
  rw [Tank.moveBook_booked]; rfl

theorem State.completeReceipt_received (t : Fin 8) (r : Receipt) (g1 : Int) (d1 : Nat) (held : Bool) (s : State) :
    s.completeReceipt t r g1 d1 held =
      { s with tanks := s.tanks.set t ((s.tank t).received (r.resultOn g1 d1 held))
               link := s.linkRaising [.receiptEnd t (r.resultOn g1 d1 held)] } := by
  unfold State.completeReceipt
  simp only [Tank.receivedOn, Receipt.result_resultOn, State.notify_linkRaising]
  rfl

/-- A tank whose receipt is not completed by the round's end: a SETTLING one has its round counted or its mid-round
closing forgotten. -/
theorem Tank.roundEnded_waits (t : Fin 8) (k : Tank) (r : Receipt) (hr : k.receipt = some r) (hs : r.state = .settling)
    (hm : r.roundsOut = false) :
    k.roundEnded = { k with receipt := some { r with rounds := if r.midRound then r.rounds else 1, midRound := false } }
      ∧ k.roundNotices t = [] := by
  obtain ⟨_, _, _, _, _, _, held, _, _, _, _, _, receipt, _⟩ := k
  obtain rfl : receipt = some r := hr
  unfold Tank.roundEnded Tank.roundNotices
  cases held <;> simp [hs, hm]

theorem State.settleRound_ended (t : Fin 8) (s : State) :
    s.settleRound t =
      { s with tanks := s.tanks.set t (s.tank t).roundEnded, link := s.linkRaising ((s.tank t).roundNotices t) } := by
  have keep : ({ s with tanks := s.tanks.set t (s.tank t), link := s.linkRaising [] } : State) = s := by
    rw [State.tanks_set_self]; rfl
  unfold State.settleRound
  cases hr : (s.tank t).receipt with
  | none => unfold Tank.roundEnded Tank.roundNotices; rw [hr]; exact keep.symm
  | some r =>
    obtain ⟨state, docket, g0, d0, openTime, closeTime, cause, rounds, midRound⟩ := r
    cases state with
    | opened =>
      unfold Tank.roundEnded Tank.roundNotices
      rw [hr]
      cases (s.tank t).held <;> exact keep.symm
    | settling =>
      cases midRound with
      | true =>
        obtain ⟨e, n⟩ := Tank.roundEnded_waits t (s.tank t) _ hr rfl rfl
        rw [e, n]
        rfl
      | false =>
        cases rounds with
        | zero =>
          obtain ⟨e, n⟩ := Tank.roundEnded_waits t (s.tank t) _ hr rfl rfl
          rw [e, n]
          rfl
        | succ n =>
          unfold Tank.roundEnded Tank.roundNotices
          rw [hr]
          cases hh : (s.tank t).held with
          | none => exact keep.symm
          | some h =>
            have e : ({ s with tanks := s.tanks.set t (s.tank t).used, link := s.linkRaising ((s.tank t).useNotice t) }
                : State).tank t = (s.tank t).used := State.tank_modTank_same t (fun _ => (s.tank t).used) s
            show (s.useReading t).completeReceipt t ⟨.settling, docket, g0, d0, openTime, closeTime, cause, n + 1, false⟩
                h.net h.counter true = { s with
                  tanks := s.tanks.set t ((s.tank t).used.received (Receipt.resultOn
                    ⟨.settling, docket, g0, d0, openTime, closeTime, cause, n + 1, false⟩ h.net h.counter true))
                  link := s.linkRaising ((s.tank t).useNotice t ++ [.receiptEnd t (Receipt.resultOn
                    ⟨.settling, docket, g0, d0, openTime, closeTime, cause, n + 1, false⟩ h.net h.counter true)]) }
            rw [State.useReading_used, State.completeReceipt_received, State.linkRaising_append, e]
            simp only [Vector.set_set]
            rfl

/-- At the end of a round every tank's receipt counts it or completes. -/
theorem State.endRound_over (s : State) :
    s.endRound = ({ s with bus := { s.bus with round := none } } : State).roundOver := by
  unfold State.endRound
  rw [eachOfEight_tanks Tank.roundEnded (fun t k => k.roundNotices t) State.settleRound State.settleRound_ended]
  rfl

/-! ## The bus is served (04 R83, R84) -/

/-- The end of a round keeps each tank's record and table. -/
theorem Tank.roundEnded_record (k : Tank) : k.roundEnded.record = k.record ∧ k.roundEnded.table = k.table := by
  unfold Tank.roundEnded Tank.received Tank.booked Tank.used
  cases k.receipt with
  | none => exact ⟨rfl, rfl⟩
  | some r =>
    cases k.held with
    | none => dsimp only; split <;> exact ⟨rfl, rfl⟩
    | some h => dsimp only; split; exact ⟨rfl, rfl⟩; split <;> exact ⟨rfl, rfl⟩

theorem State.tank_roundOver (s : State) (t : Fin 8) : s.roundOver.tank t = (s.tank t).roundEnded := by
  simp [State.roundOver, State.tank]

theorem State.configured_roundOver (s : State) (t : Fin 8) : (s.roundOver.tank t).configured = (s.tank t).configured := by
  rw [State.tank_roundOver]
  unfold Tank.configured
  rw [(Tank.roundEnded_record _).1, (Tank.roundEnded_record _).2]

/-- A poll that begins after the end of a round is the same poll. -/
theorem State.polling_roundOver (s : State) (t : Fin 8) : s.roundOver.polling t = s.polling t := by
  unfold State.polling
  rw [State.tank_roundOver, (Tank.roundEnded_record _).1]

/-- The round polls the tank it finds. -/
theorem State.visitRound_some (n : Nat) (s : State) (t : Fin 8)
    (h : eightNumbers.find? (fun t => decide (n ≤ t.val) && (s.tank t).configured) = some t) :
    s.visitRound n = { s with bus := { s.bus with poll := some (s.polling t), round := some (t.val + 1) } } := by
  unfold State.visitRound
  rw [h]
  rfl

/-- The round that finds no tank is over. -/
theorem State.visitRound_none (n : Nat) (s : State)
    (h : eightNumbers.find? (fun t => decide (n ≤ t.val) && (s.tank t).configured) = none) :
    s.visitRound n = ({ s with bus := { s.bus with round := none } } : State).roundOver := by
  unfold State.visitRound
  rw [h]
  exact s.endRound_over

/-- A round that goes on, on a bus with no poll and no tank waiting. -/
theorem State.continueRound_served (base : State) (round : Option Nat) (pending : Bool) (due : Nat) :
    ({ base with bus := ⟨none, [], round, pending, due⟩ } : State).continueRound =
      ({ base with bus := ⟨none, [], round, pending, due⟩ } : State).served [] := by
  unfold State.continueRound State.served
  cases round with
  | none => rfl
  | some n =>
    dsimp only [List.dropWhile_nil]
    cases hf : eightNumbers.find? (fun t => decide (n ≤ t.val) && (base.tank t).configured) with
    | some t =>
      have v := State.visitRound_some n { base with bus := ⟨none, [], some n, pending, due⟩ } t hf
      rw [v, if_neg (by simp)]
      have f : eightNumbers.find? (fun t => decide (n ≤ t.val) &&
        (({ base with bus := ⟨none, [], some n, pending, due⟩ } : State).tank t).configured) = some t := hf
      rw [f]
    | none =>
      have v := State.visitRound_none n { base with bus := ⟨none, [], some n, pending, due⟩ } hf
      have f : eightNumbers.find? (fun t => decide (n ≤ t.val) &&
        (({ base with bus := ⟨none, [], some n, pending, due⟩ } : State).tank t).configured) = none := hf
      rw [v, f]
      cases pending with
      | false => rfl
      | true =>
        rw [if_pos ⟨rfl, rfl⟩]
        let next : State := { base with bus := ⟨none, [], some 0, false, due⟩ }
        have search : eightNumbers.find? (fun t => decide (0 ≤ t.val) && (next.roundOver.tank t).configured)
            = eightNumbers.find? (fun t => (base.tank t).configured) := by
          congr 1
          funext t
          rw [State.configured_roundOver]
          simp [next, State.tank]
        show next.roundOver.visitRound 0 = _
        have g : eightNumbers.find? (fun t =>
          (({ base with bus := ⟨none, [], some n, true, due⟩ } : State).tank t).configured)
            = eightNumbers.find? (fun t => (base.tank t).configured) := rfl
        rw [g]
        cases hg : eightNumbers.find? (fun t => (base.tank t).configured) with
        | some t =>
          rw [State.visitRound_some 0 _ t (search.trans hg), State.polling_roundOver]
          rfl
        | none =>
          rw [State.visitRound_none 0 _ (search.trans hg)]
          rfl

/-- With no poll outstanding the bus is served. -/
theorem State.serveBus_served (s : State) (hp : s.bus.poll = none) : s.serveBus = s.served s.bus.queue := by
  unfold State.serveBus
  rw [hp]
  dsimp only
  cases hq : s.bus.queue.dropWhile (fun t => !(s.tank t).configured) with
  | cons t rest => unfold State.served; rw [hq]; rfl
  | nil =>
    have key := State.continueRound_served s s.bus.round s.bus.roundPending s.bus.lastDue
    have bus : ({ s with bus := ⟨none, [], s.bus.round, s.bus.roundPending, s.bus.lastDue⟩ } : State)
        = s.modBus fun b => { b with queue := [] } := by
      rw [← hp]; rfl
    rw [← bus, key]
    unfold State.served
    rw [hq]
    rfl

/-- The outstanding poll ends: the bus is served. -/
theorem State.endPoll_served (s : State) : s.endPoll = s.served s.bus.queue := by
  unfold State.endPoll
  rw [State.serveBus_served _ rfl]
  rfl

/-- A bus with a poll outstanding is left as it is, and an idle one is served. -/
theorem State.serveBus_eq (s : State) : s.serveBus = if s.bus.poll = none then s.served s.bus.queue else s := by
  cases hp : s.bus.poll with
  | none => rw [if_pos rfl, s.serveBus_served hp]
  | some p => unfold State.serveBus; rw [hp]; simp

/-- A round that starts begins its visit, or with no configured tank is over. -/
theorem State.startRound_over (s : State) : s.startRound =
    if ∃ t, (s.tank t).configured = true then { s with bus := { s.bus with round := some 0 } }
    else ({ s with bus := { s.bus with round := none } } : State).roundOver := by
  unfold State.startRound
  by_cases hc : ∃ t, (s.tank t).configured = true
  · rw [if_pos hc, if_pos (List.any_eq_true.2 ⟨hc.choose, mem_eightNumbers _, hc.choose_spec⟩)]
    rfl
  · rw [if_neg hc, if_neg fun h => hc ⟨_, (List.any_eq_true.1 h).choose_spec.2⟩, s.endRound_over]

/-- A round falls due. -/
theorem State.roundFallsDue_roundMadeDue (s : State) : s.roundFallsDue = s.roundMadeDue := by
  have due : (match s.bus.round with
      | some _ => (s.modBus fun b => { b with lastDue := s.elapsed }).modBus fun b => { b with roundPending := true }
      | none => (s.modBus fun b => { b with lastDue := s.elapsed }).startRound) =
      (if s.bus.round ≠ none then { s with bus := { s.bus with lastDue := s.elapsed, roundPending := true } }
      else if ∃ t, (s.tank t).configured = true then
        { s with bus := { s.bus with lastDue := s.elapsed, round := some 0 } }
      else ({ s with bus := { s.bus with lastDue := s.elapsed, round := none } } : State).roundOver : State) := by
    cases hr : s.bus.round with
    | some n =>
      rw [if_pos (by simp)]
      rfl
    | none =>
      rw [if_neg (by simp)]
      exact State.startRound_over _
  have falls : s.roundFallsDue = State.serveBus _ := congrArg State.serveBus due
  rw [falls, State.serveBus_eq]
  unfold State.roundMadeDue
  dsimp only
  congr 1
  · split
    · rfl
    · split <;> rfl
  · split
    · rfl
    · split <;> rfl

end Sys2Proof.Machine
end

