-- ==== Sys2Proof/Laws/Started.lean ====
section
/-! SUPPORT. What the start of a pump and the test of the start slot do, each said as one relation (03 R64 to R66,
R72). -/
namespace Sys2Proof.Machine

/-- A header's demand is that of lanes that differ in their grants only. -/
theorem State.headerDemand_of_sameButGrant {s t : State} (h : Fin 6) (m : ∀ i, (s.lane i).sameButGrant (t.lane i)) :
    t.headerDemand h = s.headerDemand h := by
  unfold State.headerDemand State.laneOn
  congr 1
  funext i
  rw [(m i).record_eq, (m i).state_eq]

/-- A pass over a header that is not RUNNING, then another pass, is the other pass. -/
theorem State.passOf_after_hold {s t u : State} {h : Fin 6} (a : s.passOf t h) (hp : (t.header h).pump ≠ .running)
    (b : t.passOf u h) : s.passOf u h := by
  intro i
  rw [b i, a i]
  by_cases hi : (s.lane i).record.product = some h
  · have hold : t.grantFor h (t.capacityLeft h i) (s.lane i) = .hold := by
      unfold State.grantFor
      rw [if_neg fun c => hp c.2]
    rw [if_pos hi, hold]
    generalize hw : (s.lane i).withGrant t h .hold = w
    have same : w.record = (s.lane i).record := by rw [← hw]; rfl
    have grant : u.grantFor h (u.capacityLeft h i) w = u.grantFor h (u.capacityLeft h i) (s.lane i) := by rw [← hw]; rfl
    have again : ∀ g, w.withGrant u h g = (s.lane i).withGrant u h g := by
      intro g; rw [← hw]; simp [Lane.withGrant]
    rw [same, if_pos hi, if_pos hi, grant, again]
  · simp [hi]

/-- A header that starts: what becomes of it, of the slot, and of the grants of its lanes (03 R64 to R66). -/
theorem State.startPump_started (h : Fin 6) (s : State) :
    (s.startPump h).header h = (s.header h).started (s.product h) (s.headerDemand h) s.elapsed
      ∧ (s.startPump h).slot =
        { queue := s.slot.queue.erase h, free := s.settings.stagger == 0, lastStart := s.elapsed }
      ∧ s.passOf (s.startPump h) h := by
  have hs : ∀ f, (s.modSlot f).header h = s.header h := fun f => State.header_congr h _ _ (by simp)
  generalize ht : (s.modSlot fun k =>
      { queue := k.queue.erase h, free := s.settings.stagger == 0, lastStart := s.elapsed }).setPump h .starting
    (some (s.startTimer 10)) none = t
  have head : t.header h = { s.header h with pump := .starting, proving := some ⟨s.elapsed, 10⟩, runOn := none } := by
    rw [← ht, State.header_setPump_same, hs]
    rfl
  have slot : t.slot = { queue := s.slot.queue.erase h, free := s.settings.stagger == 0, lastStart := s.elapsed } := by
    rw [← ht]; simp
  have pass : s.passOf t h := by
    rw [← ht]
    exact State.passOf_of_lanes (t := s.modSlot _) rfl (State.setPump_passOf h _ _ _ _)
  have moved : s.headerMoved h t := by
    rw [← ht]
    exact (State.modSlot_headerMoved h _ s).trans (State.setPump_headerMoved h _ _ _ _)
  have demand := State.headerDemand_of_sameButGrant h moved.lanes
  have product : t.product h = s.product h := by rw [moved.rest]; rfl
  have elapsed : t.elapsed = s.elapsed := by rw [moved.rest]
  have notRunning : (t.header h).pump ≠ .running := by rw [head]; simp
  unfold State.startPump
  simp only [ht]
  unfold Header.started
  cases hp : (s.header h).prove
  · rw [if_neg (by rw [head]; simp [hp])]
    exact ⟨by rw [head]; rfl, slot, pass⟩
  · rw [if_pos (by rw [head]; simp [hp])]
    unfold State.proved State.enterRunOn
    rw [demand, product]
    simp only [Bool.true_eq_false, if_false]
    split
    · exact ⟨by rw [State.header_setPump_same, head]; rfl, by rw [State.slot_setPump, slot],
        State.passOf_after_hold pass notRunning (State.setPump_passOf h _ _ _ _)⟩
    · split
      · exact ⟨by rw [State.header_setPump_same, head]; rfl, by rw [State.slot_setPump, slot],
          State.passOf_after_hold pass notRunning (State.setPump_passOf h _ _ _ _)⟩
      · exact ⟨by rw [State.header_setPump_same, head]; simp [Header.inState, State.startTimer, elapsed],
          by rw [State.slot_setPump, slot],
          State.passOf_after_hold pass notRunning (State.setPump_passOf h _ _ _ _)⟩

/-- Where nothing starts the slot alone has moved. -/
theorem State.headsStarted_none (s : State) (free : Bool) (h : free = false ∨ s.slot.queue = []) :
    s.headsStarted { s with slot := { s.slot with free := free } } free := by
  have e : (if free = false then [] else if s.settings.stagger = 0 then s.slot.queue else s.slot.queue.take 1) = [] := by
    rcases h with h | h <;> simp [h]
  unfold State.headsStarted
  rw [e]
  refine ⟨fun _ => by simp; rfl, by simp, fun i => ?_, rfl⟩
  show s.lane i = _
  cases (s.lane i).record.product <;> simp

/-- The grant of a pass and the lane with it depend on the header's own lanes, product and band alone. -/
theorem State.given_congr {t u : State} (h : Fin 6) (i : Fin 8) (l : Lane) (hp : u.products = t.products)
    (ht : u.tanks = t.tanks) (hh : u.header h = t.header h)
    (hl : ∀ j, (u.lane j).record = (t.lane j).record
      ∧ ((t.lane j).record.product = some h → u.lane j = t.lane j)) :
    l.withGrant u h (u.grantFor h (u.capacityLeft h i) l) = l.withGrant t h (t.grantFor h (t.capacityLeft h i) l) := by
  have product : ∀ k, u.product k = t.product k := fun k => State.product_congr k _ _ hp
  have capped : u.capped h = t.capped h := by
    have tank : ∀ k, u.tank k = t.tank k := fun k => State.tank_congr k t u ht
    unfold State.capped State.feedTank
    simp only [product, tank]
  have left : u.capacityLeft h i = t.capacityLeft h i := by
    unfold State.capacityLeft
    rw [product]
    congr 2
    apply List.map_congr_left
    intro j _
    rw [(hl j).1]
    by_cases c : (t.lane j).record.product = some h
    · rw [(hl j).2 c]
    · simp [c]
  unfold Lane.withGrant State.grantFor
  rw [product, capped, left, hh]

/-- The heads of the queue start as the slot allows (03 R64). -/
theorem serveHeads_headsStarted (l : List (Fin 6)) (s : State) (hl : s.slot.queue = l) (hn : l.Nodup) :
    s.headsStarted (serveHeads l s) s.slot.free := by
  induction l generalizing s with
  | nil => exact s.headsStarted_none _ (Or.inr hl)
  | cons h rest ih =>
    unfold serveHeads
    cases hf : s.slot.free
    · have rests : s.headsStarted s s.slot.free := s.headsStarted_none s.slot.free (Or.inl hf)
      rw [hf] at rests
      simpa using rests
    · obtain ⟨head, slot, pass⟩ := s.startPump_started h
      have moved := s.startPump_headerMoved h
      have hr : h ∉ rest := (List.nodup_cons.1 hn).1
      rw [if_pos rfl]
      generalize s.startPump h = t at head slot pass moved
      have queue : t.slot.queue = rest := by rw [slot, hl]; simp
      have settings : t.settings = s.settings := by rw [moved.rest]
      have products : t.products = s.products := by rw [moved.rest]
      have elapsed : t.elapsed = s.elapsed := by rw [moved.rest]
      have product : ∀ k, t.product k = s.product k := fun k => State.product_congr k _ _ products
      have demand := fun k => State.headerDemand_of_sameButGrant k moved.lanes
      have record := fun i => (moved.lanes i).record_eq
      have next := ih t queue (List.nodup_cons.1 hn).2
      have free : t.slot.free = (s.settings.stagger == 0) := by rw [slot]
      rw [free] at next
      generalize serveHeads rest t = u at next
      unfold State.headsStarted at next ⊢
      rw [queue, settings] at next
      rw [hl]
      by_cases h0 : s.settings.stagger = 0
      · simp only [h0, beq_self_eq_true, Bool.true_eq_false, if_false, if_true] at next ⊢
        obtain ⟨n1, n2, n3, n4⟩ := next
        refine ⟨fun k => ?_, ?_, fun i => ?_, ?_⟩
        · rw [n1 k, demand k, product k, elapsed]
          by_cases hk : k = h
          · subst hk; simp [hr, head]
          · simp only [List.mem_cons, hk, false_or, moved.others k hk]
        · rw [n2, slot, hl, h0]
          by_cases hr0 : rest = [] <;> simp [hr0, elapsed]
        · cases hp : (s.lane i).record.product with
          | none =>
            have := n3 i
            rw [record, hp] at this
            rw [this]
            exact moved.away i (by simp [hp])
          | some k =>
            have at' := n3 i
            rw [record, hp] at at'
            by_cases hk : k = h
            · subst hk
              simp only [hr, if_false] at at'
              rw [at', pass i, if_pos hp]
              simp only [List.mem_cons, true_or, if_true]
              refine (State.given_congr k i _ (by rw [n4]) (by rw [n4]) (by rw [n1]; simp [hr]) fun j => ?_).symm
              have lane := n3 j
              cases hj : (t.lane j).record.product with
              | none => rw [hj] at lane; exact ⟨by rw [lane], fun c => by cases c⟩
              | some m =>
                rw [hj] at lane
                refine ⟨by rw [lane]; dsimp only; split <;> rfl, fun c => ?_⟩
                cases c
                simpa [hr] using lane
            · rw [moved.away i (by simp [hp, hk])] at at'
              simpa [hk] using at'
        · rw [n4, moved.rest]
      · have e : (s.settings.stagger == 0) = false := by simp [h0]
        rw [e] at next
        simp only [h0, Bool.true_eq_false, if_false, if_true, List.not_mem_nil, List.take_succ_cons, List.take_zero]
          at next ⊢
        obtain ⟨n1, n2, n3, n4⟩ := next
        have lanes : ∀ i, u.lane i = t.lane i := fun i => by
          rw [n3 i]; cases (t.lane i).record.product <;> rfl
        refine ⟨fun k => ?_, ?_, fun i => ?_, by rw [n4, moved.rest]⟩
        · rw [n1 k]
          by_cases hk : k = h
          · subst hk; simp [head]
          · simp [hk, moved.others k hk]
        · rw [n2, slot]
          simp [hl, h0]
        · rw [lanes i]
          cases hp : (s.lane i).record.product with
          | none => exact moved.away i (by simp [hp])
          | some k =>
            by_cases hk : k = h
            · subst hk
              rw [pass i, if_pos hp]
              simp only [List.mem_cons, true_or, if_true]
              exact (State.given_congr k i _ (by rw [n4]) (by rw [n4]) (n1 k)
                fun j => ⟨by rw [lanes], fun _ => lanes j⟩).symm
            · simpa [hk] using moved.away i (by simp [hp, hk])

/-- The test of the start slot (03 R64). -/
theorem State.testSlot_headsStarted (s : State) (hn : s.slot.queue.Nodup) :
    s.headsStarted s.testSlot s.slot.free := serveHeads_headsStarted _ s rfl hn

end Sys2Proof.Machine
end

