-- ==== Sys2Proof/Laws/Wire.lean ====
section
/-! SUPPORT. What the byte operations do, each said once: the CRC bit by bit, fields read and sent again, the dispatch of
a taken frame, a frame whole, the checks of a received frame, and the judgement of a gauge's reply. -/
namespace Sys2Proof.Machine

/-! ## The CRC (09 R186) -/

/-- One bit taken into the CRC register. -/
def crcTake (r : BitVec 16) (b : Bool) : BitVec 16 := if r.msb = b then r <<< 1 else (r <<< 1) ^^^ 0x1021#16

/-- A bit added at the top of the register first and a bit taken as the register shifts are the same. -/
theorem crcBit_eq_crcTake (r x : BitVec 16) : crcBit (r ^^^ x) = crcTake r x.msb ^^^ x <<< 1 := by
  unfold crcBit crcTake
  rw [BitVec.msb_xor, BitVec.shiftLeft_xor_distrib]
  cases r.msb <;> cases x.msb <;> simp <;> ac_rfl

theorem crcByte_eq (r : BitVec 16) (b : Byte) : crcByte r b = (bitsOf [b]).foldl crcTake r := by
  have h8 : ∀ b : Byte,
      b.setWidth 16 <<< 8 <<< 1 <<< 1 <<< 1 <<< 1 <<< 1 <<< 1 <<< 1 <<< 1 = (0 : BitVec 16) := by decide
  have hm : ∀ b : Byte, let x := b.setWidth 16 <<< 8
      x.msb = b.getLsbD 7 ∧ (x <<< 1).msb = b.getLsbD 6 ∧ (x <<< 1 <<< 1).msb = b.getLsbD 5
        ∧ (x <<< 1 <<< 1 <<< 1).msb = b.getLsbD 4 ∧ (x <<< 1 <<< 1 <<< 1 <<< 1).msb = b.getLsbD 3
        ∧ (x <<< 1 <<< 1 <<< 1 <<< 1 <<< 1).msb = b.getLsbD 2
        ∧ (x <<< 1 <<< 1 <<< 1 <<< 1 <<< 1 <<< 1).msb = b.getLsbD 1
        ∧ (x <<< 1 <<< 1 <<< 1 <<< 1 <<< 1 <<< 1 <<< 1).msb = b.getLsbD 0 := by decide
  obtain ⟨m7, m6, m5, m4, m3, m2, m1, m0⟩ := hm b
  unfold crcByte
  simp only [crcBit_eq_crcTake, m7, m6, m5, m4, m3, m2, m1, m0, h8]
  simp [bitsOf]

/-- The CRC taken byte by byte is the CRC taken bit by bit. -/
theorem crc16_eq_crcOf (bytes : List Byte) : crc16 bytes = crcOf bytes := by
  have : ∀ r, bytes.foldl crcByte r = (bitsOf bytes).foldl crcTake r := by
    induction bytes with
    | nil => intro r; rfl
    | cons b rest ih =>
      intro r
      have : bitsOf (b :: rest) = bitsOf [b] ++ bitsOf rest := by simp [bitsOf]
      rw [List.foldl_cons, this, List.foldl_append, ih, crcByte_eq]
  exact this _

/-! ## Numbers in bytes -/

theorem putNum_length (w n : Nat) : (putNum w n).length = w := by induction w <;> simp [putNum, *]

theorem getNum_append (a b : List Byte) : getNum (a ++ b) = getNum a * 256 ^ b.length + getNum b := by
  have shift : ∀ (b : List Byte) (x y : Nat), b.foldl (fun n (c : Byte) => 256 * n + c.toNat) (x + y) =
      x * 256 ^ b.length + b.foldl (fun n (c : Byte) => 256 * n + c.toNat) y := by
    intro b
    induction b with
    | nil => simp
    | cons c rest ih =>
      intro x y
      simp only [List.foldl_cons, List.length_cons]
      rw [show 256 * (x + y) + c.toNat = 256 * x + (256 * y + c.toNat) by ring, ih]
      ring
  unfold getNum
  rw [List.foldl_append]
  simpa using shift b (a.foldl (fun n (c : Byte) => 256 * n + c.toNat) 0) 0

/-- A number read from its bytes is the number modulo what they hold. -/
theorem getNum_putNum (w n : Nat) : getNum (putNum w n) = n % 256 ^ w := by
  induction w with
  | zero => simp [putNum, getNum, Nat.mod_one]
  | succ w ih =>
    rw [putNum, show BitVec.ofNat 8 (n / 256 ^ w) :: putNum w n = [BitVec.ofNat 8 (n / 256 ^ w)] ++ putNum w n from rfl,
      getNum_append, ih, putNum_length]
    simp only [getNum, List.foldl_cons, List.foldl_nil, BitVec.toNat_ofNat, Nat.reducePow]
    rw [Nat.pow_succ, Nat.mod_mul]
    ring

/-- The field of w bytes that stands after some bytes of a body. -/
theorem numAt_field (before after : List Byte) (w n : Nat) :
    numAt (before ++ (putNum w n ++ after)) before.length w = n % 256 ^ w := by
  unfold numAt
  rw [List.drop_left, List.take_append_of_le_length (by rw [putNum_length]),
    List.take_of_length_le (by rw [putNum_length]), getNum_putNum]

theorem toNat_append_byte (hi lo : Byte) : (hi ++ lo).toNat = 256 * hi.toNat + lo.toNat := by
  have := lo.isLt
  rw [BitVec.toNat_append, ← Nat.shiftLeft_add_eq_or_of_lt (by omega), Nat.shiftLeft_eq]
  omega

/-- Bytes hold a number below 256 to their count. -/
theorem getNum_lt (b : List Byte) : getNum b < 256 ^ b.length := by
  induction b with
  | nil => simp [getNum]
  | cons c rest ih =>
    have small := c.isLt
    rw [show c :: rest = [c] ++ rest from rfl, getNum_append]
    simp only [getNum, List.foldl_cons, List.foldl_nil, List.length_append, List.length_cons, List.length_nil] at *
    rw [Nat.pow_add]
    simp only [Nat.mul_zero, Nat.zero_add]
    have : c.toNat * 256 ^ rest.length + 256 ^ rest.length ≤ 256 ^ 1 * 256 ^ rest.length := by
      rw [← Nat.succ_mul]
      exact Nat.mul_le_mul_right _ (by omega)
    omega

/-- What lies above w bytes is not sent in them. -/
theorem putNum_add_mul (w n : Nat) : ∀ m, putNum w (m * 256 ^ w + n) = putNum w n := by
  induction w with
  | zero => intro m; rfl
  | succ w ih =>
    intro m
    have whole : m * 256 ^ (w + 1) + n = (m * 256) * 256 ^ w + n := by
      rw [Nat.pow_succ]
      ring
    have top : ((m * 256) * 256 ^ w + n) / 256 ^ w = m * 256 + n / 256 ^ w := by
      rw [Nat.add_comm, Nat.add_mul_div_right _ _ (by positivity)]
      omega
    rw [putNum, putNum, whole, ih, top]
    congr 1
    exact BitVec.eq_of_toNat_eq (by simp)

/-- Bytes read as a number and sent again are the same bytes. -/
theorem putNum_getNum (b : List Byte) : putNum b.length (getNum b) = b := by
  induction b with
  | nil => rfl
  | cons c rest ih =>
    have split' : getNum (c :: rest) = c.toNat * 256 ^ rest.length + getNum rest := by
      rw [show c :: rest = [c] ++ rest from rfl, getNum_append]
      simp [getNum]
    rw [List.length_cons, putNum, split', putNum_add_mul, ih, Nat.add_comm,
      Nat.add_mul_div_right _ _ (by positivity), Nat.div_eq_of_lt (getNum_lt rest)]
    simp

/-- A field of a body read as a number and sent again is the field. -/
theorem putNum_numAt (b : List Byte) (at' w : Nat) (h : at' + w ≤ b.length) :
    putNum w (numAt b at' w) = (b.drop at').take w := by
  have := putNum_getNum ((b.drop at').take w)
  rwa [show ((b.drop at').take w).length = w by simp; omega] at this

theorem numAt_lt (b : List Byte) (at' w : Nat) (h : at' + w ≤ b.length) : numAt b at' w < 256 ^ w := by
  have := getNum_lt ((b.drop at').take w)
  rwa [show ((b.drop at').take w).length = w by simp; omega] at this

/-- The same of a signed field. -/
theorem putInt_intAt (b : List Byte) (at' w : Nat) (h : at' + w ≤ b.length) :
    putInt w (intAt b at' w) = (b.drop at').take w := by
  rw [← putNum_numAt b at' w h]
  have small : (numAt b at' w : Int) < 256 ^ w := by exact_mod_cast numAt_lt b at' w h
  unfold putInt intAt
  congr 1
  split
  · rw [Int.emod_eq_of_lt (by omega) small]
    rfl
  · rw [Int.sub_emod_right, Int.emod_eq_of_lt (by omega) small]
    rfl

/-- One byte of a body as a number. -/
theorem numAt_one (b : List Byte) (at' : Nat) : numAt b at' 1 = (b.getD at' 0).toNat := by
  unfold numAt
  by_cases h : at' < b.length
  · have : (b.drop at').take 1 = [b.getD at' 0] := by
      rw [List.getD_eq_getElem _ _ h, List.take_one, List.head?_drop, List.getElem?_eq_getElem h]
      rfl
    rw [this]
    simp [getNum]
  · rw [List.drop_eq_nil_of_le (by omega), List.getD_eq_default _ _ (by omega)]
    rfl

/-- An optional field of 4 bytes read and sent again: itself where present, in zeros where absent. -/
theorem putOption_optionAt (b : List Byte) (at' : Nat) (h : at' + 5 ≤ b.length) (h1 : (b.getD at' 0).toNat ≤ 1) :
    putOption 4 (optionAt b at' 4) =
      if b.getD at' 0 = 0 then [0, 0, 0, 0, 0] else (b.drop at').take 5 := by
  unfold optionAt
  rw [numAt_one]
  by_cases hz : b.getD at' 0 = 0
  · rw [if_pos (by rw [hz]; rfl), if_pos hz]
    rfl
  · have nonzero : (b.getD at' 0).toNat ≠ 0 := fun h => hz (BitVec.eq_of_toNat_eq h)
    have first : b.drop at' = b.getD at' 0 :: b.drop (at' + 1) := by
      rw [List.getD_eq_getElem _ _ (by omega)]
      exact List.drop_eq_getElem_cons (by omega)
    rw [if_neg nonzero, if_neg hz]
    show 1 :: putNum 4 _ = _
    rw [putNum_numAt b (at' + 1) 4 (by omega), first, List.take_succ_cons]
    congr 1
    exact (BitVec.eq_of_toNat_eq (show (b.getD at' 0).toNat = 1 by omega)).symm

/-! ## Dispatch (09 R189) -/

/-- A taken frame whose KIND names a request of some length and presence bytes is MALFORMED or served as the request. -/
theorem serveFrame_of_bodyOf (f : HeldFrame) (s : State) (length : Nat) (presence : List Nat) (r : Request)
    (h : f.parse = bodyOf f.body length presence r) :
    serveFrame f s =
      if f.body.length = length ∧ ∀ p ∈ presence, (f.body.getD p 0).toNat ≤ 1 then serveRequest r s
      else malformed s := by
  unfold serveFrame
  rw [h]
  unfold bodyOf
  simp only [numAt_one, List.all_eq_true, decide_eq_true_eq]
  by_cases good : f.body.length = length ∧ ∀ p ∈ presence, (f.body.getD p 0).toNat ≤ 1
  · rw [if_pos good, if_pos good]
  · rw [if_neg good, if_neg good]

/-! ## Frames (09 R185, R187) -/

/-- The bytes of a frame sent, the CRC taken bit by bit. -/
theorem frameBytes_whole (kind tag : Byte) (body : List Byte) :
    0xA5 :: frameBytes kind tag body = wholeFrame kind tag body := by
  unfold frameBytes wholeFrame
  dsimp only
  rw [crc16_eq_crcOf]
  generalize crcOf _ = c
  have hi : BitVec.ofNat 8 (c.toNat / 256 ^ 1) = (c >>> 8).setWidth 8 :=
    BitVec.eq_of_toNat_eq (by simp [Nat.shiftRight_eq_div_pow])
  have lo : BitVec.ofNat 8 (c.toNat / 256 ^ 0) = c.setWidth 8 := BitVec.eq_of_toNat_eq (by simp)
  show 0xA5 :: (_ ++ [_, _]) = _
  rw [hi, lo]
  rfl

/-- A received frame with a true LEN passes exactly where its CRC is the one computed. -/
theorem checkFrame_eq (len kind tag hi lo : Byte) (body : List Byte) (small : len.toNat ≤ 250)
    (true' : body.length + 2 = len.toNat) :
    checkFrame (len :: kind :: tag :: (body ++ [hi, lo])) =
      if hi ++ lo = crcOf (len :: kind :: tag :: body) then some ⟨kind, tag, body⟩ else none := by
  have at' : len.toNat - 2 = body.length := by omega
  have covered : (len :: kind :: tag :: (body ++ [hi, lo])).take (len.toNat + 1) = len :: kind :: tag :: body := by
    simp [← true']
  have crc : numAt (body ++ [hi, lo]) (len.toNat - 2) 2 = (hi ++ lo).toNat := by
    rw [at', toNat_append_byte]
    simp [numAt, getNum]
  have inside : (body ++ [hi, lo]).take (len.toNat - 2) = body := by simp [at']
  have whole : (body ++ [hi, lo]).length = len.toNat := by simp [← true']
  have same : ((hi ++ lo).toNat = (crcOf (len :: kind :: tag :: body)).toNat)
      = (hi ++ lo = crcOf (len :: kind :: tag :: body)) :=
    propext ⟨fun h => BitVec.eq_of_toNat_eq h, fun h => congrArg BitVec.toNat h⟩
  unfold checkFrame
  dsimp only
  rw [covered, crc, inside, crc16_eq_crcOf]
  simp only [whole, show 2 ≤ len.toNat by omega, small, true_and, same]

/-! ## A gauge's reply (04 R81) -/

/-- The bytes before the first 0x5A are discarded. -/
theorem dropWhile_sync (before rest : List Byte) (h : (0x5A : Byte) ∉ before) :
    (before ++ 0x5A :: rest).dropWhile (· != 0x5A) = 0x5A :: rest := by
  induction before with
  | nil => simp
  | cons b t ih =>
    simp only [List.mem_cons, not_or] at h
    rw [List.cons_append, List.dropWhile_cons_of_pos (by simpa using Ne.symm h.1), ih h.2]

theorem readReply_discards (polled : Nat) (before rest : List Byte) (h : (0x5A : Byte) ∉ before) :
    readReply polled (before ++ 0x5A :: rest) = readReply polled (0x5A :: rest) := by
  unfold readReply
  rw [dropWhile_sync _ _ h,
    show (0x5A :: rest).dropWhile (· != 0x5A) = 0x5A :: rest from dropWhile_sync [] rest (by simp)]

end Sys2Proof.Machine
end

