-- ==== Sys2Proof/Tests/Slice0.lean ====
section
/-! SUPPORT. Tests of the model on fixed values: the checks of WellFormed each with an ill-formed term, the worked cases
of the manual, and for every statement with hypotheses a state and operands that meet them, clause by clause. -/
namespace Sys2Proof.Tests
open Sys2Proof.Machine

/-! ## WellFormed refuses -/

def aProduct : ProductFields := ⟨0, 0, 900, 4000, 400, 500, 1000, 200, 100000, 30, 5, 50, 0, 0, 5000, 30⟩
def aLane : LaneFields := ⟨0, 0, 100, 1, 0, 8⟩
def aTank : TankFields := ⟨0, 0, 1, 1000, 50000, 3000, 4000, 3⟩
def aBay : BayFields := ⟨3, 120, 40, 360, 1080, 0, 10⟩
def anAuthorise : AuthoriseFields := ⟨0, 0, 0, some 1200, 0, 7⟩
def someValues : MachineValues := ⟨1, 3, 50000, 100, 90, some 1000, 300⟩

/-- Well-formed requests, one of each shape the checks below break. -/
def goodRequests : { is : List Instr // is.all Instr.wellFormed = true } :=
  ⟨[.productSet 0 aProduct, .laneSet 0 aLane, .tankSet 0 aTank, .baySet 0 aBay, .authorise 0 anAuthorise,
    .machineWrite 0 ⟨511, 127, someValues⟩, .bookSet 0 ⟨0, -140737488355328⟩], by decide +kernel⟩
theorem test_wf_accepts : goodRequests.val.all Instr.wellFormed = true := goodRequests.property
theorem test_wf_product : (Instr.productSet 0 { aProduct with product := 256 }).wellFormed = false
    ∧ (Instr.productSet 0 { aProduct with kind := 256 }).wellFormed = false
    ∧ (Instr.productSet 0 { aProduct with alpha := 65536 }).wellFormed = false
    ∧ (Instr.productSet 0 { aProduct with fullRate := 65536 }).wellFormed = false
    ∧ (Instr.productSet 0 { aProduct with slowRate := 65536 }).wellFormed = false
    ∧ (Instr.productSet 0 { aProduct with primeVolume := 4294967296 }).wellFormed = false
    ∧ (Instr.productSet 0 { aProduct with trimVolume := 4294967296 }).wellFormed = false
    ∧ (Instr.productSet 0 { aProduct with closeAhead := 4294967296 }).wellFormed = false := by decide
theorem test_wf_product_rest : (Instr.productSet 0 { aProduct with maxFill := 4294967296 }).wellFormed = false
    ∧ (Instr.productSet 0 { aProduct with maxOpen := 256 }).wellFormed = false
    ∧ (Instr.productSet 0 { aProduct with noFlow := 256 }).wellFormed = false
    ∧ (Instr.productSet 0 { aProduct with creepVolume := 65536 }).wellFormed = false
    ∧ (Instr.productSet 0 { aProduct with serviceFlag := 256 }).wellFormed = false
    ∧ (Instr.productSet 0 { aProduct with feedTank := 256 }).wellFormed = false
    ∧ (Instr.productSet 0 { aProduct with pumpCapacity := 65536 }).wellFormed = false
    ∧ (Instr.productSet 0 { aProduct with runOn := 256 }).wellFormed = false := by decide
theorem test_wf_lane : (Instr.laneSet 0 { aLane with lane := 256 }).wellFormed = false
    ∧ (Instr.laneSet 0 { aLane with product := 256 }).wellFormed = false
    ∧ (Instr.laneSet 0 { aLane with kFactor := 65536 }).wellFormed = false
    ∧ (Instr.laneSet 0 { aLane with curveSource := 256 }).wellFormed = false
    ∧ (Instr.laneSet 0 { aLane with spanTrim := 32768 }).wellFormed = false
    ∧ (Instr.laneSet 0 { aLane with spanTrim := -32769 }).wellFormed = false
    ∧ (Instr.laneSet 0 { aLane with window := 256 }).wellFormed = false := by decide
theorem test_wf_tank : (Instr.tankSet 0 { aTank with tank := 256 }).wellFormed = false
    ∧ (Instr.tankSet 0 { aTank with product := 256 }).wellFormed = false
    ∧ (Instr.tankSet 0 { aTank with gaugeAddress := 256 }).wellFormed = false
    ∧ (Instr.tankSet 0 { aTank with cutOff := 4294967296 }).wellFormed = false
    ∧ (Instr.tankSet 0 { aTank with lowBand := 4294967296 }).wellFormed = false
    ∧ (Instr.tankSet 0 { aTank with highHigh := 65536 }).wellFormed = false
    ∧ (Instr.tankSet 0 { aTank with leakThreshold := 4294967296 }).wellFormed = false
    ∧ (Instr.tankSet 0 { aTank with alarmClass := 256 }).wellFormed = false := by decide
theorem test_wf_points : (Instr.tablePoint 0 ⟨256, 0, 0, 0⟩).wellFormed = false
    ∧ (Instr.tablePoint 0 ⟨0, 256, 0, 0⟩).wellFormed = false ∧ (Instr.tablePoint 0 ⟨0, 0, 65536, 0⟩).wellFormed = false
    ∧ (Instr.tablePoint 0 ⟨0, 0, 0, 4294967296⟩).wellFormed = false
    ∧ (Instr.curvePoint 0 ⟨256, 0, 0, 0⟩).wellFormed = false ∧ (Instr.curvePoint 0 ⟨0, 256, 0, 0⟩).wellFormed = false
    ∧ (Instr.curvePoint 0 ⟨0, 0, 65536, 0⟩).wellFormed = false
    ∧ (Instr.curvePoint 0 ⟨0, 0, 0, 2147483648⟩).wellFormed = false
    ∧ (Instr.tableCommit 0 ⟨256, 2⟩).wellFormed = false ∧ (Instr.tableCommit 0 ⟨0, 256⟩).wellFormed = false
    ∧ (Instr.curveCommit 0 ⟨256, 2⟩).wellFormed = false ∧ (Instr.curveCommit 0 ⟨0, 256⟩).wellFormed = false := by
  decide
theorem test_wf_bay : (Instr.baySet 0 { aBay with stagger := 256 }).wellFormed = false
    ∧ (Instr.baySet 0 { aBay with authTimeout := 65536 }).wellFormed = false
    ∧ (Instr.baySet 0 { aBay with burnBand := 256 }).wellFormed = false
    ∧ (Instr.baySet 0 { aBay with boundary1 := 65536 }).wellFormed = false
    ∧ (Instr.baySet 0 { aBay with boundary2 := 65536 }).wellFormed = false
    ∧ (Instr.baySet 0 { aBay with maskLevel := 256 }).wellFormed = false
    ∧ (Instr.baySet 0 { aBay with roundPeriod := 256 }).wellFormed = false
    ∧ (Instr.timeSet 0 4294967296).wellFormed = false := by decide
theorem test_wf_authorise : (Instr.authorise 0 { anAuthorise with lane := 256 }).wellFormed = false
    ∧ (Instr.authorise 0 { anAuthorise with machine := 65536 }).wellFormed = false
    ∧ (Instr.authorise 0 { anAuthorise with preset := 4294967296 }).wellFormed = false
    ∧ (Instr.authorise 0 { anAuthorise with hourReading := some 4294967296 }).wellFormed = false
    ∧ (Instr.authorise 0 { anAuthorise with serviceFlag := 256 }).wellFormed = false
    ∧ (Instr.authorise 0 { anAuthorise with operator := 65536 }).wellFormed = false := by decide
theorem test_wf_numbers : (Instr.cancel 0 256).wellFormed = false ∧ (Instr.laneQuery 0 256).wellFormed = false
    ∧ (Instr.tankQuery 0 256).wellFormed = false ∧ (Instr.gaugeNow 0 256).wellFormed = false
    ∧ (Instr.receiptClose 0 256).wellFormed = false ∧ (Instr.machineRead 0 65536).wellFormed = false
    ∧ (Instr.bayClear 0 256).wellFormed = false ∧ (Instr.pumpReset 0 256).wellFormed = false
    ∧ (Instr.status 0 256).wellFormed = false ∧ (Instr.journalAck 0 4294967296).wellFormed = false
    ∧ (Instr.reportRead 0 ⟨256, 0⟩).wellFormed = false ∧ (Instr.reportRead 0 ⟨0, 256⟩).wellFormed = false := by decide
theorem test_wf_receipts : (Instr.receiptOpen 0 ⟨256, none⟩).wellFormed = false
    ∧ (Instr.receiptOpen 0 ⟨0, some 4294967296⟩).wellFormed = false ∧ (Instr.bookSet 0 ⟨256, 0⟩).wellFormed = false
    ∧ (Instr.bookSet 0 ⟨0, 140737488355328⟩).wellFormed = false
    ∧ (Instr.journalRead 0 ⟨4294967296, 0, 0⟩).wellFormed = false
    ∧ (Instr.journalRead 0 ⟨0, 256, 0⟩).wellFormed = false ∧ (Instr.journalRead 0 ⟨0, 0, 256⟩).wellFormed = false := by
  decide
theorem test_wf_machines : (Instr.machineWrite 0 ⟨65536, 1, someValues⟩).wellFormed = false
    ∧ (Instr.machineWrite 0 ⟨0, 256, someValues⟩).wellFormed = false
    ∧ (Instr.machineWrite 0 ⟨0, 1, { someValues with status := 256 }⟩).wellFormed = false
    ∧ (Instr.machineWrite 0 ⟨0, 1, { someValues with permitted := 256 }⟩).wellFormed = false
    ∧ (Instr.machineWrite 0 ⟨0, 1, { someValues with fuelCapacity := 4294967296 }⟩).wellFormed = false
    ∧ (Instr.machineWrite 0 ⟨0, 1, { someValues with serviceInterval := 4294967296 }⟩).wellFormed = false
    ∧ (Instr.machineWrite 0 ⟨0, 1, { someValues with hoursSinceService := 4294967296 }⟩).wellFormed = false
    ∧ (Instr.machineWrite 0 ⟨0, 1, { someValues with hourBaseline := some 4294967296 }⟩).wellFormed = false
    ∧ (Instr.machineWrite 0 ⟨0, 1, { someValues with burnAverage := 65536 }⟩).wellFormed = false
    ∧ (Instr.patternLoad 0 ⟨256, someValues⟩).wellFormed = false
    ∧ (Instr.groupApply 0 ⟨65536, 0⟩).wellFormed = false ∧ (Instr.groupApply 0 ⟨0, 256⟩).wellFormed = false := by decide
theorem test_wf_frames : (Instr.unknownKind 0 63 (List.replicate 249 0)).wellFormed = false
    ∧ (Instr.malformed 0 1 (List.replicate 249 0)).wellFormed = false
    ∧ (Instr.frameReceived (List.replicate 254 0)).wellFormed = false
    ∧ (Instr.gaugeReply [0x5A, 1, 0, 0, 0, 0, 0, 0, 0]).wellFormed = false
    ∧ (Instr.pressRelease 49).wellFormed = false := by decide +kernel

/-! ## The worked cases of the manual -/

theorem test_vcf : vcf 830 352 = 983234 ∧ vcf 647 (-253) = 1026074 ∧ vcf 830 243 = 992281 := by decide
theorem test_truncates_toward_zero : interpolate [(6000, 1200), (10000, 400)] 7001 = 1000 := by decide
theorem test_interpolate : interpolate [(6000, 1200), (10000, 400)] 9000 = 600
    ∧ interpolate [(6000, 1200), (10000, 400)] 6000 = 1200 ∧ interpolate [(6000, 1200), (10000, 400)] 10000 = 400
    ∧ interpolate [(6000, 1200), (10000, 400)] 1 = 1200 ∧ interpolate [(6000, 1200), (10000, 400)] 30000 = 400 := by
  decide
theorem test_smoothed_rate : smoothedRate 100 (List.replicate 8 300) = 9000 ∧ smoothedRate 100 [120] = 3600
    ∧ smoothedRate 100 [120, 290] = 6150 := by decide
theorem test_accumulate : accumulate (grossDivisor 100) 0 (grossNumerator 300 600) = (300, 18000000)
    ∧ accumulate (netDivisor 100) 0 (grossNumerator 300 600 * 983234) = (295, 14718212000000) := by decide
theorem test_gauged_net : gaugedNet [⟨0, 0⟩, ⟨500, 2400000⟩, ⟨3000, 19500000⟩, ⟨3200, 20600000⟩] 830 1850 40 243
    = 11353679 := by decide
theorem test_hour_allowance : hourAllowance 2090000 2000000 = 260
    ∧ (readingStep 2090000 true 61700 { lastReading := some 61400, readingTime := 2000000, timed := true }).accrued
      = 260
    ∧ (readingStep 2090000 true 61640 { lastReading := some 61400, readingTime := 2000000, timed := true }).accrued
      = 240
    ∧ (readingStep 2090000 true 16400 { lastReading := some 61400, readingTime := 2000000, timed := true }).backward
      = true := by decide
theorem test_burn : newBurn 312000 96 = 3250 ∧ burnHigh 3250 2900 40 = false ∧ newAverage 3250 2900 = 2987 := by decide
theorem test_variance : variancePpm (-18430) (varianceBase 3000000 2784120) = -6143 ∧ varianceClass (-6143) = .v3
    ∧ variancePpm (-310) (varianceBase 0 42000) = -3100 ∧ varianceClass (-3100) = .v2 := by decide
theorem test_receipt_result : (Receipt.result
    { state := .settling, docket := some 3000000, g0 := 11353679, d0 := 4500000, openTime := 0 } 14283000 4571300
      false).rise = 3000621 := by decide
theorem test_crc : crc16 [0x31, 0x32, 0x33, 0x34, 0x35, 0x36, 0x37, 0x38, 0x39] = 0x29B1#16 := by decide +kernel
theorem test_creep_threshold : creepThreshold 200 100 = 200 ∧ creepThreshold 50 1 = 1 := by decide
theorem test_boundary : boundaryAfter 1000000 360 1080 = { due := 1015200, kind := .night } := by decide

/-! ## A small bay: P0 from T0 over H0 on lanes 0 and 1, machine 0 -/

def demoProduct : Product :=
  { kind := .fuel, alpha := 900, fullRate := 4000, slowRate := 400, primeVolume := 500, trimVolume := 1000
    closeAhead := 200, feedTank := some 0, pumpCapacity := 5000 }
def demoHeld : HeldReading := { level := 2000, temperature := 150, water := 0, time := 0, net := 2000000, counter := 0 }
def demoTank : Tank :=
  { record := { product := some 0, address := some 1, cutOff := 1000, lowBand := 50000, highHigh := 3000
                leakThreshold := 4000 }
    table := some [⟨0, 0⟩, ⟨3000, 3000000⟩], status := .good, held := some demoHeld, band := .normal
    opening := some 2000000 }
def demoLane : Lane := { record := { product := some 0, kFactor := 100 }, nozzleOut := false, creepTimer := some ⟨0, 60⟩ }
/-- The bay, armed, its link at rest. -/
def demo : State :=
  { State.reset with
    lanes := (State.reset.lanes.set 0 demoLane).set 1 demoLane
    products := State.reset.products.set 0 demoProduct
    tanks := State.reset.tanks.set 0 demoTank
    machines := State.reset.machines.set 0 { status := .active, permitted := 1, serviceInterval := 100 }
    slot := { free := true }
    shutdown := { State.reset.shutdown with bay := .armed }
    period := { State.reset.period with clock := 1000000, clockSet := true }
    link := {} }
/-- Lane 0 changed. -/
def demoWith (f : Lane → Lane) : State := demo.modLane 0 f
/-- Lane 0 in a state. -/
def demoIn (st : LaneState) : State := demoWith fun l => { l with state := st, stage := some .main }
/-- Tank 0 changed. -/
def demoTanked (f : Tank → Tank) : State := demo.modTank 0 f
/-- Header 0 in a pump state. -/
def demoPump (p : PumpState) : State :=
  demo.modHeader 0 fun k => { k with pump := p, proving := some ⟨0, 10⟩, runOn := some ⟨0, 30⟩ }
/-- The bay in a state. -/
def demoBay (b : BayState) : State := demo.modShutdown fun u => { u with bay := b }
/-- Nothing but the link and the bus is asked of a demo state by most statements. -/
theorem demo_ready : demo.ready := ⟨rfl, rfl, rfl, rfl⟩
theorem demoWith_ready (f : Lane → Lane) : (demoWith f).ready := ⟨rfl, rfl, rfl, rfl⟩
theorem demoTanked_ready (f : Tank → Tank) : (demoTanked f).ready := ⟨rfl, rfl, rfl, rfl⟩
theorem demoPump_ready (p : PumpState) : (demoPump p).ready := ⟨rfl, rfl, rfl, rfl⟩
theorem demoBay_ready (b : BayState) : (demoBay b).ready := ⟨rfl, rfl, rfl, rfl⟩
theorem demo_busLawful : demo.busLawful := fun _ => ⟨fun h => (nomatch h), fun _ => ⟨rfl, rfl⟩⟩
theorem demoBay_busLawful (b : BayState) : (demoBay b).busLawful := fun _ => ⟨fun h => (nomatch h), fun _ => ⟨rfl, rfl⟩⟩
theorem demoWith_busLawful (f : Lane → Lane) : (demoWith f).busLawful :=
  fun _ => ⟨fun h => (nomatch h), fun _ => ⟨rfl, rfl⟩⟩

/-! ## Every statement's hypotheses are met -/

theorem test_met_StepRunsFrontCommand : State.reset.pending = [] := rfl
theorem test_met_RefusedRequestChangesNothing : asRequest (.bayArm 7) = some (7, .bayArm) ∧ demo.ready ∧
    ∃ t a, exec (.bayArm 7) demo = .next t ∧ t.link.reply = some ⟨0x30, 7, a⟩ ∧ a.status ≠ .accepted :=
  ⟨rfl, demo_ready, _, ⟨.bayState, .empty⟩, rfl, rfl, by decide⟩
theorem test_met_RefusedRequest_mark : (demoTanked fun k => { k with status := .lost }).ready
    ∧ asRequest (.receiptOpen 7 ⟨0, none⟩) = some (7, .receiptOpen ⟨0, none⟩)
    ∧ ((receiptOpen ⟨0, none⟩ (demoTanked fun k => { k with status := .lost })).1).status = .gaugeLost
    ∧ ((demoTanked fun k => { k with status := .lost }).tank 0).noticed = false :=
  ⟨demoTanked_ready _, rfl, by decide +kernel, by decide +kernel⟩
theorem test_met_NumbersOutOfRange : demo.ready ∧ 7 < 8 ∧ 511 < 512 ∧ 6 < 7 ∧ 5 < 6 ∧ 3 < 4 :=
  ⟨demo_ready, by decide⟩
/-- A burst runs and one frame is held; or two are. -/
def demoHold (n : Nat) : State :=
  { demo with burst := some { next := 1, count := 0, auto := false, started := true }
              link := { demo.link with hold := List.replicate n ⟨0x30, 1, []⟩ } }
/-- A reply is pending. -/
def demoReplying : State := { demo with link := { demo.link with reply := some ⟨0x35, 1, accept⟩ } }
theorem test_met_HoldKeepsTwoFrames : asRequest (.bayArm 7) = some (7, .bayArm) ∧ (demoHold 1).power = .running
    ∧ (demoHold 1).burst ≠ none ∧ (demoHold 1).link.hold.length < 2 ∧ 2 ≤ (demoHold 2).link.hold.length
    ∧ demoReplying.link.reply ≠ none ∧ demoReplying.link.hold.length < 2 ∧ demoReplying.burst = none := by
  decide +kernel
theorem test_met_ColdStart : demo.marker = true ∧ (demo.setMarker false).marker = false := by decide +kernel
theorem test_met_ProductSet : demo.ready ∧ aProduct.product = (0 : Fin 6).val ∧ aProduct.kind = 0
    ∧ aProduct.serviceFlag = false.toNat ∧ aProduct.feedTank = indexCode (some (0 : Fin 8)) ∧ aProduct.alpha ≤ 2000
    ∧ aProduct.fullRate ≤ 15000 ∧ aProduct.slowRate ≤ aProduct.fullRate ∧ aProduct.closeAhead ≤ aProduct.trimVolume
    ∧ 100 ≤ aProduct.maxFill ∧ 5 ≤ aProduct.noFlow ∧ 50 ≤ aProduct.creepVolume
    ∧ aProduct.slowRate ≤ aProduct.pumpCapacity ∧ aProduct.pumpCapacity ≤ 30000 ∧ aProduct.runOn ≤ 120
    ∧ (demo.tank 0).record.product = some 0 ∧ (∀ i, (demo.lane i).record.product = some 0 → (demo.lane i).state = .idle)
    ∧ (demo.header 0).pump = .stopped ∧ ((demoIn .done).lane 0).state ≠ .idle
    ∧ ((demoPump .runon).header 0).pump ≠ .stopped := ⟨demo_ready, by decide +kernel⟩
theorem test_met_ProductSet_range : demo.ready ∧ 5 < ({ aProduct with product := 6 } : ProductFields).product
    ∧ 1 < ({ aProduct with kind := 2 } : ProductFields).kind
    ∧ 2000 < ({ aProduct with alpha := 2001 } : ProductFields).alpha
    ∧ ({ aProduct with fullRate := 0 } : ProductFields).fullRate = 0
    ∧ 15000 < ({ aProduct with fullRate := 15001 } : ProductFields).fullRate
    ∧ aProduct.fullRate < ({ aProduct with slowRate := 4001 } : ProductFields).slowRate
    ∧ aProduct.trimVolume < ({ aProduct with closeAhead := 1001 } : ProductFields).closeAhead
    ∧ ({ aProduct with maxFill := 99 } : ProductFields).maxFill < 100
    ∧ 60 < ({ aProduct with maxOpen := 61 } : ProductFields).maxOpen
    ∧ ({ aProduct with noFlow := 4 } : ProductFields).noFlow < 5
    ∧ ({ aProduct with creepVolume := 49 } : ProductFields).creepVolume < 50
    ∧ 1 < ({ aProduct with serviceFlag := 2 } : ProductFields).serviceFlag
    ∧ 7 < ({ aProduct with feedTank := 254 } : ProductFields).feedTank
    ∧ ({ aProduct with pumpCapacity := 399 } : ProductFields).pumpCapacity < aProduct.slowRate
    ∧ 120 < ({ aProduct with runOn := 121 } : ProductFields).runOn
    ∧ (demo.tank 1).record.product ≠ some 0 := ⟨demo_ready, by decide +kernel⟩
theorem test_met_LaneSet : demo.ready ∧ aLane.lane = (0 : Fin 8).val ∧ aLane.product = indexCode (some (0 : Fin 6))
    ∧ aLane.curveSource = (CurveSource.template 0).code ∧ 10 ≤ aLane.kFactor ∧ aLane.spanTrim ≤ 20000
    ∧ aLane.window = 8 ∧ (demo.lane 0).state = .idle ∧ ((demoIn .done).lane 0).state ≠ .idle
    ∧ 7 < ({ aLane with lane := 8 } : LaneFields).lane ∧ 5 < ({ aLane with product := 254 } : LaneFields).product
    ∧ ({ aLane with kFactor := 9 } : LaneFields).kFactor < 10
    ∧ 6 < ({ aLane with curveSource := 7 } : LaneFields).curveSource
    ∧ ({ aLane with spanTrim := -20001 } : LaneFields).spanTrim < -20000
    ∧ ({ aLane with window := 5 } : LaneFields).window ≠ 4 :=
  ⟨demo_ready, by decide +kernel⟩
theorem test_met_TankSet : demo.ready ∧ aTank.tank = (0 : Fin 8).val ∧ aTank.product = indexCode (some (0 : Fin 6))
    ∧ aTank.gaugeAddress = (some 1).getD 255 ∧ (∀ u, u ≠ 0 → (demo.tank u).record.address ≠ some 1)
    ∧ aTank.alarmClass = VarianceClass.v3.code ∧ demo.tankFree 0 ∧ (demo.tank 0).record.product = some 0
    ∧ (demo.tank 0).record.address = some 1 ∧ (demo.tank 0).record.product ≠ none
    ∧ ¬ (demoIn .done).tankFree 0 :=
  ⟨demo_ready, by decide +kernel, by decide +kernel, by decide +kernel, by decide +kernel, by decide +kernel,
    (State.tankFree_iff demo 0).2 (by decide +kernel), by decide +kernel, by decide +kernel, by decide +kernel,
    fun h => absurd ((State.tankFree_iff _ 0).1 h) (by decide +kernel)⟩
theorem test_met_TankSet_bands : ({ demoTank with record.lowBand := 1999000 } : Tank).banded.band = .lowBand
    ∧ ({ demoTank with record.lowBand := 1998999 } : Tank).banded.band = .normal
    ∧ ({ demoTank with record.cutOff := 2000000 } : Tank).banded.band = .cutOff ∧ demoTank.band = .normal
    ∧ demo.laneTank 0 = some 0 := by decide +kernel
theorem test_met_TankSet_range : demo.ready ∧ 7 < ({ aTank with tank := 8 } : TankFields).tank
    ∧ 5 < ({ aTank with product := 6 } : TankFields).product
    ∧ ({ aTank with gaugeAddress := 0 } : TankFields).gaugeAddress = 0
    ∧ 31 < ({ aTank with gaugeAddress := 32 } : TankFields).gaugeAddress ∧ (demo.tank 0).record.address = some 1
    ∧ (0 : Fin 8).val ≠ ({ aTank with tank := 1 } : TankFields).tank
    ∧ 5 < ({ aTank with alarmClass := 6 } : TankFields).alarmClass
    ∧ 1000000000 < ({ aTank with cutOff := 1000000001 } : TankFields).cutOff
    ∧ 40000 < ({ aTank with highHigh := 40001 } : TankFields).highHigh := ⟨demo_ready, by decide +kernel⟩
theorem test_met_PointsAreStaged : demo.ready ∧ (7 : Fin 8).val = 7 ∧ (15 : Fin 16).val = 15 ∧ (31 : Fin 32).val = 31
    ∧ 7 < 8 ∧ 15 < 16 ∧ 31 < 32 := ⟨demo_ready, by decide⟩
/-- Lane 0 with two curve points staged, the second as given. -/
def demoStaged (p : Option CurvePoint) : State :=
  demoWith fun l => { l with staging := (l.staging.set 0 (some ⟨1, -50000⟩)).set 1 p }
theorem test_met_CurveCommit : (demoStaged none).ready ∧ ((demoStaged none).lane 0).state = .idle
    ∧ ((demoStaged (some ⟨30000, 50000⟩)).lane 0).staging.toList.take 2
      = [(⟨1, -50000⟩ : CurvePoint), ⟨30000, 50000⟩].map some
    ∧ [(⟨1, -50000⟩ : CurvePoint), ⟨30000, 50000⟩].Pairwise (fun a b => a.rate < b.rate)
    ∧ ((demoStaged none).lane 0).staging.toList.take 2 = [(⟨1, -50000⟩ : CurvePoint)].map some ++ none :: []
    ∧ ((demoStaged (some ⟨1, 0⟩)).lane 0).staging.toList.take 2
      = [(⟨1, -50000⟩ : CurvePoint)].map some ++ some ⟨1, 0⟩ :: []
    ∧ ((demoIn .done).lane 0).state ≠ .idle ∧ 7 < 8 ∧ 1 < 2 ∧ 16 < 17 ∧ 32 < 33 :=
  ⟨demoWith_ready _, by decide +kernel⟩
/-- Tank 0 with two strapping points staged, the second as given. -/
def demoStrapped (p : Option TablePoint) : State :=
  demoTanked fun k => { k with staging := (k.staging.set 0 (some ⟨0, 5⟩)).set 1 p }
theorem test_met_TableCommit : (demoStrapped none).ready ∧ (demoStrapped none).tankFree 0
    ∧ ((demoStrapped (some ⟨40000, 5⟩)).tank 0).staging.toList.take 2
      = [(⟨0, 5⟩ : TablePoint), ⟨40000, 5⟩].map some
    ∧ [(⟨0, 5⟩ : TablePoint), ⟨40000, 5⟩].Pairwise (fun a b => a.level < b.level ∧ a.volume ≤ b.volume)
    ∧ ((demoStrapped none).tank 0).staging.toList.take 2 = [(⟨0, 5⟩ : TablePoint)].map some ++ none :: []
    ∧ ((demoStrapped (some ⟨1, 4⟩)).tank 0).staging.toList.take 2
      = [(⟨0, 5⟩ : TablePoint)].map some ++ some ⟨1, 4⟩ :: [] ∧ ¬ (demoIn .done).tankFree 0 :=
  ⟨demoTanked_ready _, (State.tankFree_iff _ 0).2 (by decide +kernel), by decide +kernel, by decide +kernel,
    by decide +kernel, by decide +kernel, fun h => absurd ((State.tankFree_iff _ 0).1 h) (by decide +kernel)⟩
theorem test_met_BaySet : demo.ready ∧ aBay.boundary1 = ((some (360, 1080)).map Prod.fst).getD 65535
    ∧ aBay.boundary2 = ((some (360, 1080)).map Prod.snd).getD 65535 ∧ 1080 ≤ 1439 ∧ aBay.stagger ≤ 30
    ∧ 10 ≤ aBay.authTimeout ∧ aBay.authTimeout ≤ 600 ∧ 10 ≤ aBay.burnBand ∧ aBay.burnBand ≤ 200 ∧ aBay.maskLevel ≤ 6
    ∧ 5 ≤ aBay.roundPeriod ∧ aBay.roundPeriod ≤ 60 ∧ demo.slot.queue = []
    ∧ demo.settings.roundPeriod = aBay.roundPeriod ∧ demo.slot.free = true ∧ aBay.stagger ≤ demo.settings.stagger
    ∧ 30 < ({ aBay with stagger := 31 } : BayFields).stagger
    ∧ ({ aBay with authTimeout := 9 } : BayFields).authTimeout < 10
    ∧ 200 < ({ aBay with burnBand := 201 } : BayFields).burnBand
    ∧ ¬ ({ aBay with boundary2 := 1440 } : BayFields).boundary2 ≤ 1439
    ∧ 6 < ({ aBay with maskLevel := 7 } : BayFields).maskLevel
    ∧ 60 < ({ aBay with roundPeriod := 61 } : BayFields).roundPeriod :=
  ⟨demo_ready, by decide +kernel⟩
/-- The slot taken at second 0 and four seconds counted. -/
def demoSlotTaken : State := { demo with slot := { free := false }, elapsed := 4 }
theorem test_met_BaySet_slot : demoSlotTaken.slot.free = false
    ∧ 2 < demoSlotTaken.elapsed - demoSlotTaken.slot.lastStart ∧ 2 < demoSlotTaken.settings.stagger
    ∧ demoSlotTaken.settings.stagger ≤ 3 := by decide +kernel
/-- Two headers wait for the slot, free or not, and some seconds are counted since the last start and the last round. -/
def demoQueued (free : Bool) (elapsed : Nat) : State :=
  { demo with slot := { queue := [0, 1], free := free }, elapsed := elapsed }
theorem test_met_BaySet_queue (free : Bool) (elapsed : Nat) : (demoQueued free elapsed).ready
    ∧ (demoQueued free elapsed).slot.queue.Nodup := ⟨⟨rfl, rfl, rfl, rfl⟩, List.nodup_cons.2 ⟨by decide, List.nodup_singleton 1⟩⟩
theorem test_met_BaySet_times : (demoQueued true 6).settings.stagger < 5
    ∧ 5 < (demoQueued true 6).elapsed - (demoQueued true 6).slot.lastStart
    ∧ (demoQueued true 4).elapsed - (demoQueued true 4).slot.lastStart < 5
    ∧ (demoQueued false 1).elapsed - (demoQueued false 1).slot.lastStart < 2
    ∧ 2 < (demoQueued false 1).settings.stagger ∧ 5 ≠ (demoQueued true 6).settings.roundPeriod
    ∧ 5 < (demoQueued true 6).elapsed - (demoQueued true 6).bus.lastDue
    ∧ (demoQueued true 4).elapsed - (demoQueued true 4).bus.lastDue < 5 := by decide +kernel
theorem test_heads_start : ((demoQueued true 6).testSlot.header 0).pump = .starting
    ∧ (demoQueued true 6).testSlot.slot = { queue := [1], free := false, lastStart := 6 }
    ∧ (({ demoQueued true 6 with settings.stagger := 0 } : State).testSlot.header 1).pump = .starting
    ∧ ({ demoQueued true 6 with settings.stagger := 0 } : State).testSlot.slot.queue = [] := by decide +kernel
theorem test_met_TimeSet : demo.ready ∧ 4294967295 ≤ 4294967295 := ⟨demo_ready, by decide⟩
theorem test_met_NextBoundary : 0 < 1439 ∧ 1439 ≤ 1439 ∧ 4294880895 + 86400 ≤ 4294967295 := by decide
theorem test_met_EffectivePreset : (1 : Nat) ≠ 0 ∧ 100 ≤ 100
    ∧ effectivePreset 100 .fuel 1 100000 = 1 ∧ effectivePreset 0 .fuel 0 100000 = 100000 := by decide
theorem test_met_Authorise : demo.ready ∧ anAuthorise.lane = (0 : Fin 8).val ∧ anAuthorise.machine = (0 : Fin 512).val
    ∧ anAuthorise.serviceFlag = false.toNat ∧ anAuthorise.hourReading = some 1200 ∧ demo.shutdown.bay = .armed
    ∧ (demo.lane 0).state = .idle ∧ (demo.lane 0).record.product = some 0 ∧ demo.feedTank 0 = some 0
    ∧ (demo.lane 0).record.curve ≠ .lane ∧ (demo.header 0).pump ≠ .failed ∧ (demo.machine 0).status = .active
    ∧ (demo.machine 0).permitted.getLsbD 0 = true
    ∧ (∀ j, (demo.lane j).record.product = some 0 → (demo.lane j).state.holdsReservation = true →
      (demo.lane j).delivery.machine ≠ 0)
    ∧ anAuthorise.preset = 0 ∧ demo.journal.held + demo.journal.reserved < 2048 ∧ (demo.tank 0).status = .good
    ∧ (demo.tank 0).held = some demoHeld
    ∧ ((demo.tank 0).record.cutOff : Int) < demoHeld.net - (demo.tank 0).sincePoll :=
  ⟨demo_ready, by decide +kernel⟩
theorem test_met_Authorise_service : (demo.machine 0).serviceInterval = 100 ∧ 100 * 11 / 10 ≤ 110
    ∧ ¬ 100 * 11 / 10 ≤ 109 ∧ (demo.machine 0).overdue = false
    ∧ ((demo.machine 0).roll demo.period.number).overdue = false := by decide +kernel
theorem test_met_AuthoriseChecks : 7 < 8 ∧ (demoBay .disarmed).shutdown.bay ≠ .armed
    ∧ ((demoIn .closing).lane 0).state ≠ .idle ∧ (demo.lane 7).record.product = none
    ∧ ((demoPump .failed).header 0).pump = .failed ∧ (demo.machine 1).status = .vacant
    ∧ ((demo.modMachine 0 fun r => { r with status := .barred }).machine 0).status = .barred
    ∧ ((demo.modMachine 0 fun r => { r with permitted := 0 }).machine 0).permitted.getLsbD 0 = false
    ∧ ((demoIn .closing).lane 0).state.holdsReservation = true ∧ ((demoIn .closing).lane 0).delivery.machine = 0
    ∧ ((demo.modJournal fun j => { j with reserved := 2048 }).journal.reserved = 2048)
    ∧ ((demoTanked fun k => { k with status := .unpolled }).tank 0).status = .unpolled
    ∧ ((demoTanked fun k => { k with status := .lost }).tank 0).status = .lost
    ∧ ((demoTanked fun k => { k with status := .lost }).tank 0).noticed = false
    ∧ ((demoTanked fun k => { k with sincePoll := 1999000 }).tank 0).sincePoll = 1999000
    ∧ demoHeld.net - 1999000 ≤ (1000 : Int) := by decide +kernel
theorem test_met_Cancel : (demoIn .authorised).ready ∧ ((demoIn .authorised).lane 0).state = .authorised
    ∧ ((demoIn .trimming).lane 0).state.demands = true ∧ ((demoIn .closing).lane 0).state = .closing :=
  ⟨demoWith_ready _, by decide +kernel⟩
/-- A delivery that waits for its settlement. -/
def demoDone : { s : State // s.ready ∧ (s.lane 0).state = .done } :=
  ⟨demoIn .done, demoWith_ready _, by decide +kernel⟩
theorem test_met_Queries : demo.ready ∧ (demo.lane 0).state = .idle ∧ (demoDone.val.lane 0).state = .done
    ∧ ((demo.closePeriod .request none).period.report).isSome = true ∧ (demo.closePeriod .request none).power = .running
    ∧ demo.period.report = none ∧ 2 < 3 ∧ 7 < 8 := ⟨demo_ready, by decide +kernel⟩
/-- Lane 0 in a state with its timers running. -/
def demoTimed (st : LaneState) : State :=
  demoWith fun l => { l with state := st, stage := some .main, authTimer := some ⟨0, 120⟩, maxOpen := some ⟨0, 1800⟩ }
theorem test_met_Queries_timers : (demoTimed .authorised).ready ∧ (demoTimed .flowing).ready
    ∧ ((demoTimed .authorised).lane 0).state = .authorised
    ∧ ((demoTimed .authorised).lane 0).authTimer = some ⟨0, 120⟩ ∧ (demo.lane 0).authTimer = none
    ∧ ((demoTimed .flowing).lane 0).state.demands = true ∧ ((demoTimed .flowing).lane 0).maxOpen = some ⟨0, 1800⟩
    ∧ (demo.lane 0).state.demands = false := ⟨demoWith_ready _, demoWith_ready _, by decide +kernel⟩
/-- A poll of tank 0 is outstanding and sent. -/
def demoPolled (f : Tank → Tank) : State :=
  { demoTanked f with bus := { poll := some { tank := 0, address := 1, sent := true } } }
theorem test_met_GaugeNow : demo.ready ∧ (demo.tank 7).configured = false ∧ (demo.tank 0).configured = true
    ∧ (demoPolled id).bus.poll ≠ none ∧ ((demoPolled id).tank 0).configured = true ∧ demo.bus.poll = none
    ∧ demo.bus.queue = [] := ⟨demo_ready, by decide +kernel⟩
/-- An open receipt of tank 0. -/
def demoReceipt : Receipt := { state := .opened, docket := some 1000000000, g0 := 2000000, d0 := 0, openTime := 0 }
theorem test_met_ReceiptOpen : demo.ready ∧ 7 < 8 ∧ 1000000000 < 1000000001 ∧ (demoBay .shut).shutdown.bay ≠ .armed
    ∧ demo.shutdown.bay = .armed ∧ (demo.tank 7).configured = false ∧ (demo.tank 0).configured = true
    ∧ ((demoTanked fun k => { k with receipt := some demoReceipt }).tank 0).receipt ≠ none
    ∧ (demo.tank 0).receipt = none ∧ ((demoTanked fun k => { k with status := .lost }).tank 0).noticed = false
    ∧ (demo.tank 0).status = .good ∧ (demo.tank 0).held = some demoHeld := ⟨demo_ready, by decide +kernel⟩
theorem test_met_ReceiptClose : demo.ready ∧ (demo.tank 0).receipt = none
    ∧ ((demoTanked fun k => { k with receipt := some demoReceipt }).tank 0).receipt = some demoReceipt
    ∧ demoReceipt.state = .opened ∧ ((demoPolled id).bus.poll).isSome = true ∧ demo.bus.poll = none :=
  ⟨demo_ready, by decide +kernel⟩
theorem test_met_BookSet : demo.ready ∧ 7 < 8 ∧ (-140737488355327 : Int) ≤ -140737488355327
    ∧ (140737488355327 : Int) < 140737488355328 := ⟨demo_ready, by decide⟩
theorem test_met_GaugePolls : demo.power = .running ∧ demo.bus.round = none ∧ demo.bus.poll = none
    ∧ demo.bus.queue = [] ∧ (demo.tank 0).configured = true ∧ (∀ k : Fin 8, k < 0 → (demo.tank k).configured = false)
    ∧ (demoPolled id).bus.poll = some { tank := 0, address := 1, sent := true } ∧ (demoPolled id).bus.round = none
    ∧ ({ demoPolled id with bus := { (demoPolled id).bus with round := some 1 } } : State).bus.round ≠ none
    ∧ ((demoPolled fun k => { k with status := .unpolled }).tank 0).status = .unpolled
    ∧ ((demoPolled fun k => { k with status := .stale, fails := 2 }).tank 0).fails = 2
    ∧ ((demoPolled fun k => { k with status := .stale, fails := 1 }).tank 0).fails = 1
    ∧ ((demoPolled fun k => { k with status := .lost }).tank 0).status = .lost := by decide +kernel
/-- A poll of tank 0 is outstanding, and no tank is configured any longer. -/
def demoOrphan : State := demoPolled fun k => { k with record := {}, receipt := some { demoReceipt with state := .settling } }
theorem test_met_GaugePolls_empty : demoOrphan.power = .running ∧ demoOrphan.bus.round = none ∧ demoOrphan.bus.poll ≠ none
    ∧ (∀ t, (demoOrphan.tank t).configured = false) ∧ (∃ t, ((demoPolled id).tank t).configured = true) := by
  decide +kernel
theorem test_empty_round_ends : demoOrphan.roundFallsDue.bus.round = none
    ∧ demoOrphan.roundFallsDue.bus.poll = demoOrphan.bus.poll
    ∧ (demoOrphan.roundFallsDue.tank 0).receipt = some { demoReceipt with state := .settling, rounds := 1 }
    ∧ (demoPolled id).roundFallsDue.bus.round = some 0 := by decide +kernel
theorem test_met_GaugePolls_bytes :
    ({ demo with bus := { poll := some { tank := 0, address := 31, sent := false } } } : State).gaugeBytes
      = [0x5A, 31, 0x01, 0x7A]
    ∧ (demoPolled id).gaugeBytes = [] ∧ (∀ p, (demoPolled id).bus.poll = some p → p.sent = true) := by
  refine ⟨by decide +kernel, by decide +kernel, fun p h => ?_⟩
  cases h
  rfl
/-- A settling receipt of tank 0 that has counted a round. -/
def demoSettling : Receipt := { demoReceipt with state := .settling, cause := some .close, rounds := 1 }
/-- The last poll of a round is outstanding; another round is pending or not. -/
def demoRoundEnding (next : Bool) : State :=
  { demoPolled (fun k => { k with receipt := some demoSettling, status := .lost }) with
    bus := { poll := some { tank := 0, address := 1, sent := true }, round := some 1, roundPending := next } }
theorem test_met_RoundEnds : (demoRoundEnding false).bus.round = some 1 ∧ demoSettling.roundsOut = true
    ∧ (({ demoSettling with rounds := 0 } : Receipt)).roundsOut = false
    ∧ (({ demoSettling with midRound := true } : Receipt)).roundsOut = false
    ∧ ((demoRoundEnding true).served []).bus.round = some 1
    ∧ ((demoRoundEnding false).served []).bus.round = none
    ∧ (((demoRoundEnding false).served []).tank 0).lastReceipt = some (demoSettling.resultOn 2000000 0 true)
    ∧ (((demoRoundEnding false).served []).tank 0).noticed = true := by decide +kernel
/-- A reply of gauge 1: level 2,000 or 3,000, 15.0 degrees, no water. -/
def demoReply (high low : Byte) : List Byte :=
  [0x5A, 1, 0, high, low, 0, 150, 0, 0, checkByte [0x5A, 1, 0, high, low, 0, 150, 0, 0]]
theorem test_met_GoodReply : (demoPolled id).power = .running
    ∧ readReply 1 (demoReply 0x07 0xD0) = .good { level := 2000, temperature := 150, water := 0 }
    ∧ readReply 1 (demoReply 0x0B 0xB8) = .good { level := 3000, temperature := 150, water := 0 }
    ∧ readReply 2 (demoReply 0x07 0xD0) = .failed ∧ demoTank.leaks 1995999 = true ∧ demoTank.leaks 1996000 = false
    ∧ demoTank.watch = none ∧ ({ demoReceipt with state := .settling } : Receipt).state = .settling := by
  decide +kernel
/-- Tank 0 overfilled: its stop at level 3,000 is watched. -/
def demoWatched : State := demoPolled fun k => { k with highHigh := true, watch := some 3000 }
theorem test_met_GoodReply_bytes : (0x5A : Byte) ∉ [(0x00 : Byte), 0xFF]
    ∧ readReply 31 ([0x00, 0xFF] ++ [0x5A, 31, 0, 0x9C, 0x40, 0xFF, 0xFF, 0, 1, 0x54] ++ [0x5A]) = .good ⟨40000, -1, 1⟩
    ∧ readReply 31 [0x5A, 31, 0, 0x9C, 0x41, 0xFF, 0xFF, 0, 1, 0x55] = .failed
    ∧ readReply 31 [0x5A, 31, 1, 0x9C, 0x40, 0xFF, 0xFF, 0, 1, 0x55] = .failed
    ∧ readReply 31 [0x5A, 31, 0, 0x9C, 0x40, 0xFF, 0xFF, 0, 1, 0x55] = .failed
    ∧ readReply 31 [0x00, 0x5A, 31, 0, 0x9C, 0x40, 0xFF, 0xFF, 0, 1] = .incomplete
    ∧ [(31 : Byte), 0, 0x9C, 0x40, 0xFF, 0xFF, 0, 1].length < 9 := by decide +kernel
theorem test_met_GoodReply_cases : (demoWatched.tank 0).watch = some 3000 ∧ (demoWatched.tank 0).inlet = false
    ∧ readReply 1 (demoReply 0x0B 0xBE) = .good { level := 3006, temperature := 150, water := 0 } ∧ 3000 + 5 < 3006
    ∧ readReply 1 (demoReply 0x0B 0xBD) = .good { level := 3005, temperature := 150, water := 0 }
    ∧ ((demoPolled fun k => { k with receipt := some demoReceipt }).tank 0).inlet = true
    ∧ (demoWatched.levelCompared 0 3006).tank 0 = demoWatched.tank 0
    ∧ ((demoWatched.levelCompared 0 2999).tank 0).watch = none
    ∧ (((demoPolled fun k => { k with receipt := some demoReceipt }).levelCompared 0 3000).tank 0).watch = some 3000
    ∧ ((demoRoundEnding false).bus.poll.map Poll.beforeClose) = some false
    ∧ (({ demo with bus := { poll := some { tank := 0, address := 1, sent := true, void := true } } } : State).bus.poll.map
      Poll.void) = some true
    ∧ ((demoPolled fun k => { k with table := some [⟨0, 0⟩, ⟨3000, 2500000⟩] }).tank 0).record.leakThreshold = 4000
    ∧ (4000 : Int) < 2000000 - 1995999 - 0 := by decide +kernel
theorem test_met_ReadingStep : ({ lastReading := some 5 } : MachineRecord).lastReading = some 5
    ∧ ({} : MachineRecord).lastReading = none ∧ 4 < 5 ∧ 15 - 5 ≤ (0 - 0) / 360 + 10 ∧ (0 - 0) / 360 + 10 < 16 - 5 := by
  decide
theorem test_met_Roll : 1 ≤ 4294967295 ∧ ({ recordPeriod := 4294967295 } : MachineRecord).recordPeriod = 4294967295
    ∧ ({ recordPeriod := 0 } : MachineRecord).recordPeriod + 1 = 1
    ∧ ({ recordPeriod := 2 } : MachineRecord).recordPeriod ≠ 0 := by decide
theorem test_met_MachineWrite : demo.ready ∧ (0 : Fin 512).val = 0 ∧ 127 % 128 ≠ 0 ∧ someValues.status ≤ 2
    ∧ someValues.permitted ≤ 63 ∧ someValues.fuelCapacity ≤ 2000000 ∧ someValues.serviceInterval ≤ 999999
    ∧ someValues.hoursSinceService ≤ 9999999 ∧ someValues.hourBaseline = some 1000 ∧ someValues.burnAverage ≤ 65535
    ∧ ((demoIn .closing).lane 0).state.holdsReservation = true ∧ ((demoIn .closing).lane 0).delivery.machine = 0
    ∧ (∀ i, (demo.lane i).state.holdsReservation = true → (demo.lane i).delivery.machine ≠ 0)
    ∧ (127 : Nat).testBit 0 = true ∧ (126 : Nat).testBit 0 = false ∧ 511 < 512 ∧ 128 % 128 = 0 ∧ 2 < 3
    ∧ 2000000 < 2000001 := ⟨demo_ready, by decide +kernel⟩
theorem test_met_Pattern : demo.ready ∧ namesWritable 127 = true ∧ maskedInRange 127 someValues = true
    ∧ namesWritable 0 = false ∧ 504 % 8 = 0 ∧ 7 % 8 ≠ 0 ∧ 504 < 512 ∧ demo.pattern = none
    ∧ (demo.setPattern (some ⟨127, someValues⟩)).pattern = some ⟨127, someValues⟩ ∧ (255 : Nat).testBit 7 = true
    ∧ demo.engaged (groupMember 504 7) = false ∧ (demoIn .closing).engaged (groupMember 0 0) = true :=
  ⟨demo_ready, by decide +kernel⟩
/-- A journal record with a number. -/
def aRecord (n : Nat) : JournalRecord :=
  { seq := n, lane := 0, product := some 0, tank := some 0, machine := 0, operator := 0, authTime := 0
    firstFlow := none, endTime := 0, cause := .preset, preset := 0, gross := 0, net := 0, peak := 0, endTemp := 150
    hourReading := none, accrued := 0, burn := none, period := 0, flags := {} }
/-- Numbers 5 and 6 held, 6 the last assigned. -/
def demoJournal : State := { demo with journal := { records := [aRecord 5, aRecord 6], lastSeq := 6 } }
theorem test_met_JournalRead : demoJournal.ready ∧ 64 ≤ 64 ∧ 64 < 65 ∧ 1 < 2 ∧ demoJournal.journal.records ≠ []
    ∧ demo.journal.records = [] ∧ demoJournal.journal.records = [aRecord 5] ++ aRecord 6 :: []
    ∧ (∀ r ∈ demoJournal.journal.records, r.seq ≠ 4) ∧ demoJournal.journal.issued 4 = true
    ∧ (∀ r ∈ demoJournal.journal.records, r.seq ≠ 7) ∧ demoJournal.journal.issued 7 = false
    ∧ ({ lastSeq := 6 } : Journal).issued 4 = true := ⟨⟨rfl, rfl, rfl, rfl⟩, by decide +kernel⟩
theorem test_met_Issued : ({ lastSeq := 6 } : Journal).wasIssued 6 ∧ ¬ ({ lastSeq := 6 } : Journal).wasIssued 7
    ∧ ({ lastSeq := 6, wrapped := true } : Journal).wasIssued 2147483655
    ∧ ¬ ({ lastSeq := 6, wrapped := true } : Journal).wasIssued 2147483654 := by
  unfold Journal.wasIssued
  decide
theorem test_met_BayDisarm_queue : demo.queueLawful := by
  unfold State.queueLawful
  decide +kernel
theorem test_met_BayArm : demo.ready ∧ demo.shutdown.bay ≠ .disarmed ∧ (demoBay .disarmed).shutdown.bay = .disarmed
    ∧ (demoBay .disarmed).shutdown.sumps = 0 ∧ (demoBay .disarmed).shutdown.press = .noPress
    ∧ ((demoBay .disarmed).modShutdown fun u => { u with press := .long }).shutdown.press ≠ .noPress
    ∧ (∀ i, (demo.lane i).state = .idle ∨ (demo.lane i).state = .done) ∧ (∀ t, (demo.tank t).inlet = false)
    ∧ ¬ (((demoIn .closing).lane 0).state = .idle ∨ ((demoIn .closing).lane 0).state = .done) :=
  ⟨demo_ready, by decide +kernel⟩
theorem test_met_CausesAreRaised : demo.ready ∧ demo.busLawful ∧ demo.shutdown.sumps.getLsbD 3 = false
    ∧ (demo.modShutdown fun u => { u with sumps := 15 }).shutdown.sumps.getLsbD 3 = true
    ∧ (demo.modShutdown fun u => { u with press := .pressed }).shutdown.press = .pressed
    ∧ demo.shutdown.press ≠ .pressed := ⟨demo_ready, demo_busLawful, by decide +kernel⟩
theorem test_met_LaneReports : (demoWith fun l => { l with valveReports := 1 }).busLawful
    ∧ 0 < ((demoWith fun l => { l with valveReports := 1, creepReports := 1 }).lane 0).creepReports
    ∧ (demo.lane 0).valveReports = 0 ∧ (demoBay .shutting).shutdown.bay = .shutting
    ∧ (demoBay .lockout).shutdown.bay ≠ .shut
    ∧ ((demoWith fun l => { l with leaveReport := true }).lane 0).leaveReport = true :=
  ⟨demoWith_busLawful _, by decide +kernel⟩
theorem test_met_Presses : demo.power = .running ∧ demo.shutdown.press = .noPress
    ∧ (demo.modShutdown fun u => { u with press := .pressed }).shutdown.bay = .armed
    ∧ (demo.modShutdown fun u => { u with press := .pressed }).slot.queue.Nodup
    ∧ ((demoBay .shut).modShutdown fun u => { u with press := .pressed }).shutdown.bay ≠ .armed
    ∧ ((demoIn .authorised).lane 0).state = .authorised ∧ ((demoIn .flowing).lane 0).state.demands = true
    ∧ ((demoBay .lockout).modShutdown fun u => { u with keySeenHigh := true }).shutdown.bay = .lockout
    ∧ demo.shutdown.keySeenHigh = false := by decide +kernel
/-- The bay SHUT with one record on its stack. -/
def demoShut (k : CauseKind) (d : Mask) : State :=
  (demoBay .shut).modShutdown fun u => { u with stack := [⟨k, 0, 0, 1, d⟩] }
theorem test_met_BayClear : (demoShut .estop 0).ready ∧ demo.shutdown.bay ≠ .shut
    ∧ (demoShut .estop 0).shutdown.bay = .shut ∧ (demoShut .estop 0).shutdown.stack = ⟨.estop, 0, 0, 1, 0⟩ :: []
    ∧ (demoShut .hose 1).shutdown.stack ≠ (demoShut .estop 0).shutdown.stack
    ∧ (demoShut .runaway 1).conditionMembers ⟨.runaway, 0, 0, 1, 1⟩ ≠ 0
    ∧ (demoShut .sump 1).conditionMembers ⟨.sump, 0, 0, 1, 1⟩ = 0 :=
  ⟨⟨rfl, rfl, rfl, rfl⟩, by decide +kernel⟩
theorem test_met_PumpReset : demo.ready ∧ (demo.header 5).pump ≠ .failed
    ∧ ((demoPump .failed).header 0).pump = .failed := ⟨demo_ready, by decide +kernel⟩
theorem test_met_Pumps : ((demoPump .starting).header 0).pump = .starting
    ∧ ((demoPump .starting).header 0).proving ≠ none ∧ ((demoPump .starting).header 0).prove = false
    ∧ (((demoPump .running).modHeader 0 fun k => { k with prove := true }).header 0).prove = true
    ∧ ((demoPump .runon).header 0).runOn ≠ none
    ∧ (demo.modSlot fun _ => { queue := [0, 1] }).slot.queue = 0 :: [1] ∧ (0 : Fin 6) ∉ [(1 : Fin 6)]
    ∧ demo.settings.stagger ≠ 0 ∧ demo.slot.queue = [] ∧ ((demoIn .waiting).lane 0).state.demands = true
    ∧ (demoPump .starting).headerDemand 0 = false ∧ ((demoPump .starting).product 0).runOn ≠ 0
    ∧ (demo.header 0).pump ≠ .starting ∧ (demo.header 0).pump ≠ .runon ∧ (demo.header 0).prove ≠ true := by
  decide +kernel
theorem test_met_GrantTaken : ((demoWith fun l => { l with state := .waiting, arbiterGrant := .slow }).lane 0).state
      = .waiting ∧ ((demoIn .flowing).lane 0).arbiterGrant = .hold
    ∧ ((demoWith fun l => { l with state := .trimming, arbiterGrant := .slow }).lane 0).arbiterGrant ≠ .hold
    ∧ (demo.lane 0).state.demands = false := by decide +kernel
theorem test_met_GrantTaken_hold : ((demoIn .waiting).lane 0).arbiterGrant = .hold
    ∧ ((demoIn .waiting).lane 0).state = .waiting ∧ ((demoIn .trimming).lane 0).arbiterGrant = .hold := by decide +kernel
/-- Lane 0, held in PRIME, whose resume stage has moved to MAIN while it waited; or held before it ran. -/
def demoHeldBack (ran : Option Stage) : State :=
  demoWith fun l => { l with state := .waiting, stage := some .main, delivery := { l.delivery with lastRun := ran } }
theorem test_last_stage_run :
    ((grantTaken 0 (demoWith fun l => { l with state := .flowing, stage := some .prime })).lane 0).delivery.lastRun
      = some .prime
    ∧ (((demoHeldBack (some .prime)).closeLane 0 .cancel).laneView 0).stage = some .prime
    ∧ (((demoHeldBack none).closeLane 0 .cancel).laneView 0).stage = some .main
    ∧ (((demoIn .flowing).closeLane 0 .cancel).laneView 0).stage = some .main := by decide +kernel
theorem test_met_Lift : (demo.lane 7).nozzleOut = true ∧ (demo.lane 0).nozzleOut = false
    ∧ ((demoIn .authorised).lane 0).state = .authorised ∧ ((demoIn .authorised).lane 0).record.product = some 0
    ∧ ((demoPump .failed).header 0).pump = .failed ∧ demo.feedTank 0 = some 0 ∧ (demo.tank 0).held = some demoHeld
    ∧ demoHeld.net - 1999000 ≤ (1000 : Int) ∧ (demo.header 0).pump = .stopped ∧ demo.slot.queue = []
    ∧ demo.slot.free = true ∧ (demo.header 0).prove = false ∧ ((demoPump .runon).header 0).pump = .runon
    ∧ demoSlotTaken.slot.free = false ∧ ((demoIn .closing).lane 0).state ≠ .authorised := by decide +kernel
theorem test_met_Endings : ((demoWith fun l => { l with state := .waiting, nozzleOut := true }).lane 0).nozzleOut = true
    ∧ ((demoIn .waiting).lane 0).state.demands = true ∧ ((demoIn .done).lane 0).state = .done
    ∧ ((demoWith fun l => { l with state := .waiting, maxOpen := some ⟨0, 60⟩ }).lane 0).maxOpen ≠ none
    ∧ ((demoWith fun l => { l with state := .waiting, pumpEnding := true }).lane 0).pumpEnding = true
    ∧ ((demoWith fun l => { l with state := .waiting, tankLowEnding := true }).lane 0).tankLowEnding = true
    ∧ ((demoWith fun l => { l with state := .authorised, authTimer := some ⟨0, 120⟩ }).lane 0).authTimer ≠ none
    ∧ (demo.lane 0).maxOpen = none := by decide +kernel
theorem test_met_PulsesAndCreep : (demo.lane 0).state = .idle ∧ (demo.lane 7).record.product = none
    ∧ (demo.lane 0).record.product = some 0 ∧ (demo.lane 0).creepTimer ≠ none ∧ (demo.lane 7).creepTimer = none
    ∧ max 1 ((demo.product 0).creepVolume * 100 / 100) = 200 ∧ 199 < 200 ∧ 200 ≤ 200 := by decide +kernel
theorem test_met_Interpolator : [((6000 : Nat), (1200 : Int)), (10000, 400)].Pairwise (fun a b => a.1 < b.1)
    ∧ [((6000 : Nat), (1200 : Int)), (10000, 400)] = [(6000, 1200)] ++ [(10000, 400)]
    ∧ [((6000 : Nat), (1200 : Int)), (10000, 400)] = [] ++ (6000, 1200) :: (10000, 400) :: [] ∧ 6000 ≤ 6000
    ∧ 10000 ≤ 10000 ∧ 9999 < 10000 := by decide +kernel
theorem test_met_Residues : (0 : Nat) = 0 ∧ (300 : Nat) ≠ 0 ∧ 0 < (demo.lane 0).record.kFactor
    ∧ (demo.lane 0).rates.length < (demo.lane 0).record.window
    ∧ ((demoWith fun l => { l with rates := List.replicate 8 1 }).lane 0).rates.length = 8 := by decide +kernel
theorem test_met_MeteredSample : (demoIn .flowing).busLawful ∧ ((demoIn .flowing).lane 0).state.demands = true
    ∧ ((demoIn .flowing).lane 0).record.product = some 0 ∧ (demoIn .flowing).laneTank 0 = some 0
    ∧ 1200 - (0 + 1000) ≤ (demo.product 0).closeAhead ∧ (demo.product 0).closeAhead < 1201 - (0 + 1000)
    ∧ 2000 - (0 + 1000) ≤ (demo.product 0).trimVolume ∧ (demo.product 0).trimVolume < 2001 - (0 + 1000)
    ∧ ((demoIn .closing).lane 0).quietRun < 4 ∧ ((demoIn .closing).lane 0).state = .closing
    ∧ 5 * (demo.product 0).noFlow ≤ 74 + 1 ∧ ¬ 5 * (demo.product 0).noFlow ≤ 73 + 1
    ∧ (demo.product 0).slowRate * 5 < 501 * 4 ∧ 500 * 4 ≤ (demo.product 0).slowRate * 5
    ∧ ((demoIn .flowing).lane 0).hoseCount = 0 ∧ (demo.product 0).primeVolume ≤ 500 :=
  ⟨demoWith_busLawful _, by decide +kernel⟩
/-- Lane 0 in CLOSING after a hang-up, its valve quiet for four samples. -/
def demoClosing : State := demoWith fun l =>
  { l with state := .closing, closeLimit := some ⟨0, 5⟩, quietRun := 4
           delivery := { l.delivery with endCause := some .hangup } }
theorem test_met_CloseCommits : demoClosing.power = .running ∧ (demoClosing.lane 0).state = .closing
    ∧ (demoClosing.lane 0).closeLimit ≠ none ∧ (demoClosing.lane 0).delivery.endCause = some .hangup
    ∧ (demoClosing.lane 0).pulses = 0 ∧ 4 ≤ (demoClosing.lane 0).quietRun ∧ (demo.lane 0).state ≠ .closing := by
  decide +kernel
theorem test_met_PeriodCloses : demo.ready ∧ demo.settings.boundaries = none
    ∧ ({ demo with settings := { demo.settings with boundaries := some (360, 1080) } } : State).period.clockSet = true
    ∧ (demo.modPeriod fun u => { u with boundaryDue := some .day }).period.boundaryDue = some .day
    ∧ demo.period.boundaryDue = none := ⟨demo_ready, by decide +kernel⟩
theorem test_met_Variance : demoTank.configured = true ∧ demoTank.status ≠ .lost ∧ demoTank.opening = some 2000000
    ∧ demoTank.estimate = some 2000000 ∧ (100000 : Int) ≤ 100000 ∧ (-100000 : Int) < -99999
    ∧ (-999999 : Int).natAbs = 999999 ∧ (1000 : Int).natAbs ≤ 1000 ∧ 1001 ≤ (-1001 : Int).natAbs := by decide +kernel
theorem test_met_Status : demo.ready ∧ 3 ≤ 3 := ⟨demo_ready, by decide⟩
theorem test_met_Status_headers : (demoQueued false 1).slot.queue = [0] ++ 1 :: [] ∧ (1 : Fin 6) ∉ [(0 : Fin 6)]
    ∧ (2 : Fin 6) ∉ (demoQueued false 1).slot.queue ∧ (demoQueued false 1).slot.free = false ∧ demo.slot.free = true
    ∧ ((demoPump .starting).header 0).proving = some ⟨0, 10⟩ ∧ ((demoPump .starting).header 0).pump = .starting
    ∧ ((demoPump .runon).header 0).runOn = some ⟨0, 30⟩ ∧ ((demoPump .runon).header 0).pump = .runon := by
  decide +kernel
theorem test_met_ReceivedFrame : asRequest (.cancel 7 255) = some (7, .cancel 255)
    ∧ (Instr.cancel 7 255).wellFormed = true ∧ demo.ready := ⟨rfl, by decide, demo_ready⟩
theorem test_met_ReceivedFrame_cases : checkFrame (frameBytes 0x3F 7 [9]) = some ⟨0x3F, 7, [9]⟩
    ∧ checkFrame (frameBytes 0x01 7 []) = some ⟨0x01, 7, []⟩ ∧ 1 ≤ (0x01 : Byte).toNat ∧ (0x3F : Byte).toNat ≤ 63
    ∧ (demoHold 1).power = .running ∧ (demoHold 1).burst ≠ none ∧ (demoHold 1).link.hold.length < 2
    ∧ 2 ≤ (demoHold 2).link.hold.length ∧ demoReplying.link.reply ≠ none := by decide +kernel
theorem test_met_ReceivedFrame_dispatch : requestShape 0x3F = none ∧ requestShape 0x0A = none
    ∧ requestShape 0x10 = some ([1, 2, 4, 1, 4, 1, 2], [7]) ∧ 1 ≤ (0x10 : Byte).toNat ∧ (0x10 : Byte).toNat ≤ 63
    ∧ (List.replicate 15 (1 : Byte)).length = [1, 2, 4, 1, 4, 1, 2].sum
    ∧ ((List.replicate 15 (1 : Byte)).getD 7 0).toNat ≤ 1 ∧ ¬ ((List.replicate 15 (2 : Byte)).getD 7 0).toNat ≤ 1
    ∧ (List.replicate 14 (1 : Byte)).length ≠ [1, 2, 4, 1, 4, 1, 2].sum
    ∧ absentZeroed [1] [2, 0, 9, 9, 9, 9] = [2, 0, 0, 0, 0, 0] ∧ absentZeroed [1] [2, 1, 9, 9, 9, 9] = [2, 1, 9, 9, 9, 9]
    := by decide +kernel
theorem test_met_Assembler : demo.link.assembler = .hunt ∧ (0xA5 : Byte) = 0xA5 ∧ (1 : Byte).toNat < 2
    ∧ 250 < (251 : Byte).toNat ∧ 2 ≤ (2 : Byte).toNat ∧ (250 : Byte).toNat ≤ 250
    ∧ [(0x30 : Byte), 7, 0].length + 1 = (2 : Byte).toNat + 2 ∧ checkFrame [2, 0x30, 7, 0, 0] = none
    ∧ checkFrame (frameBytes 0x40 7 []) = some ⟨0x40, 7, []⟩ ∧ 64 ≤ (0x40 : Byte).toNat := by decide +kernel
/-- Something is on the line. -/
def demoLine (m : TxMessage) (b : Option Burst) (h : List HeldFrame) : State :=
  { demo with burst := b, link := { demo.link with line := some m, hold := h } }
theorem test_met_FrameSent : demo.link.line = none
    ∧ (demoLine (.notice ⟨0, .retentionLost⟩) none []).link.line = some (.notice ⟨0, .retentionLost⟩)
    ∧ (demoLine (.reply ⟨0x30, 7, accept⟩) none [⟨0x30, 7, []⟩]).link.hold = ⟨0x30, 7, []⟩ :: []
    ∧ (demoLine (.reply ⟨0x28, 7, accept⟩) (some { next := 1, count := 0, auto := false }) []).burst
      = some { next := 1, count := 0, auto := false }
    ∧ (demoLine (.record (aRecord 5)) (some { next := 6, count := 0, auto := true, started := true }) []).burst
      = some { next := 6, count := 0, auto := true, started := true }
    ∧ (demoLine (.journalEnd ⟨.noMore, 0, 0, 0, 0, 0, 0, 0⟩) none []).link.reply = none
    ∧ (demoLine (.journalEnd ⟨.noMore, 0, 0, 0, 0, 0, 0, 0⟩) none [⟨0x30, 7, []⟩]).link.hold = ⟨0x30, 7, []⟩ :: []
    ∧ (demoLine (.reply ⟨0x28, 7, accept⟩) (some { next := 1, count := 0, auto := false }) [⟨0x30, 7, []⟩]).link.hold
      = ⟨0x30, 7, []⟩ :: []
    ∧ (({ next := 1, count := 0, auto := false, started := true } : Burst).endedBy true).ending = some .stopped
    ∧ (({ next := 1, count := 0, auto := false, started := true } : Burst).endedBy false).ending
      = some .interrupted := by decide +kernel
theorem test_met_Assembler_frame : (2 : Byte).toNat < 2 + 1 ∧ ([] : List Byte).length + 2 = (2 : Byte).toNat
    ∧ (250 : Byte).toNat ≤ 250 ∧ 250 < (251 : Byte).toNat ∧ [(0x30 : Byte), 7, 0].length ≠ (2 : Byte).toNat + 2
    ∧ crcOf [2, 0x30, 7] = (0xD7 : Byte) ++ (0x8E : Byte) ∧ crcOf [2, 0x30, 7] ≠ (0xD7 : Byte) ++ (0x8F : Byte) := by
  decide +kernel
theorem test_met_ArbiterOrder : (demoLine (.reply ⟨0x30, 7, accept⟩) none []).link.line ≠ none ∧ demo.link.line = none
    ∧ demo.link.reply = none ∧ (demoHold 0).burst = some { next := 1, count := 0, auto := false, started := true }
    ∧ demoJournal.journal.records = [aRecord 5] ++ aRecord 6 :: []
    ∧ (∀ r ∈ demoJournal.journal.records, r.seq ≠ 7)
    ∧ demo.burst = none ∧ demo.link.notices = []
    ∧ (demo.notify .retentionLost).link.notices = ⟨1000000, .retentionLost⟩ :: [] := by decide +kernel
theorem test_met_ArbiterOrder_bytes : demo.hostBytes = []
    ∧ (demoLine (.reply ⟨0x30, 7, ⟨.accepted, .bay .armed⟩⟩) none []).hostBytes.take 6 = [0xA5, 4, 0x70, 7, 0, 1]
    ∧ (demoLine (.record (aRecord 5)) none []).hostBytes.length = 69
    ∧ (demoLine (.notice ⟨258, .laneFlow 3 300⟩) none []).hostBytes.take 11
      = [0xA5, 9, 0x9E, 0, 0, 0, 1, 2, 3, 1, 0x2C] ∧ -32768 ≤ (aRecord 5).endTemp ∧ (aRecord 5).endTemp ≤ 32767 := by
  decide +kernel
/-- A queue of 32 notices: one of level 1 and 31 of level 6. -/
def fullQueue : Link := { notices := ⟨0, .authExpired 0 0⟩ :: List.replicate 31 ⟨0, .retentionLost⟩ }
theorem test_met_NoticeQueue : 32 ≤ fullQueue.notices.length
    ∧ fullQueue.notices = [] ++ ⟨0, .authExpired 0 0⟩ :: List.replicate 31 ⟨0, .retentionLost⟩
    ∧ NoticeBody.level (.authExpired 0 0) < NoticeBody.level (.laneFlow 0 0)
    ∧ (∀ x ∈ List.replicate 31 (⟨0, .retentionLost⟩ : Notice), NoticeBody.level (.authExpired 0 0) ≤ x.body.level)
    ∧ (∀ x ∈ fullQueue.notices, NoticeBody.level (.authExpired 0 0) ≤ x.body.level)
    ∧ demo.link.notices.length < 32 := by decide +kernel
theorem test_met_PowerAndClock_dark : (demo.setPower .resetHeld).power ≠ .running
    ∧ (demo.setPower .resetHeld).marker = true ∧ (demo.setMarker false).marker = false
    ∧ (demo.setPower .resetHeld).period.next = none := by decide +kernel
theorem test_met_PowerAndClock_row : exec (.pulse 0) (demo.setPower .resetHeld) = .next (demo.setPower .resetHeld) := rfl
theorem test_met_PowerAndClock : demo.power ≠ .vddLost ∧ (demo.setPower .vddLost).power = .vddLost
    ∧ (demo.setPower .resetHeld).power ≠ .running ∧ demo.marker = true ∧ (demo.setMarker false).marker = false
    ∧ (demo.modPeriod fun u => { u with next := some { due := 1000001, kind := .day } }).period.next
      = some { due := 1000001, kind := .day } ∧ (1000000 + 1) % 4294967296 = 1000001 := by decide +kernel
theorem test_met_WarmStart : demo.marker = true ∧ (demo.setMarker false).marker = false ∧ demo.period.next = none
    ∧ (demo.modPeriod fun u => { u with next := some { due := 0, kind := .day, reached := true } }).period.next
      = some { due := 0, kind := .day, reached := true } := by decide +kernel
/-- The bay ARMED: lane 0 flows on a SLOW grant over a running pump, and its next sample waits. -/
def demoArmedWorks : State :=
  { demoWith fun l => { l with state := .flowing, stage := some .main, grant := .slow, arbiterGrant := .slow
                               delivery := { l.delivery with preset := 5000 }, pulses := 30 } with
    pending := [.sample 0]
    headers := demo.headers.set 0 { pump := .running, prove := true }
    journal := { records := [aRecord 5, aRecord 6], lastSeq := 6, reserved := 1 } }
/-- The bay SHUTTING: lane 0 has been closed and its limit timer is about to expire. -/
def demoShuttingWorks : State :=
  { demoClosing with
    pending := [.closeLimitExpiry 0]
    journal := { records := [aRecord 5, aRecord 6], lastSeq := 6, reserved := 1 }
    shutdown := { demo.shutdown with bay := .shutting, stack := [⟨.sump, 0, 0, 1, 1⟩], closing := 1 } }
/-- The step answers a next state. -/
def stepAnswersNext (s : State) : Bool :=
  match step s with
  | .next _ => true
  | _ => false
theorem test_met_LawsKept_steps : stepAnswersNext demoArmedWorks = true ∧ stepAnswersNext demoShuttingWorks = true
    ∧ demoArmedWorks.shutdown.bay = .armed ∧ demoShuttingWorks.shutdown.bay = .shutting := by decide +kernel
theorem test_met_BayLaw : demoArmedWorks.bayLaw ∧ demoShuttingWorks.bayLaw := by
  unfold State.bayLaw Shutdown.lawful State.lanesObeyBay State.unitsObeyBay State.queueLawful
  decide +kernel
theorem test_met_JournalLaw : demoArmedWorks.journalBalanced ∧ demoArmedWorks.journal.numbered
    ∧ demoShuttingWorks.journalBalanced ∧ demoShuttingWorks.journal.numbered := by
  refine ⟨by unfold State.journalBalanced; decide +kernel, ⟨⟨rfl, trivial⟩, ?_⟩,
    by unfold State.journalBalanced; decide +kernel, ⟨⟨rfl, trivial⟩, ?_⟩⟩ <;>
  · intro r h
    cases h
    rfl
theorem test_met_GrantLaw : demoArmedWorks.grantsLawful ∧ demoArmedWorks.capacityKept
    ∧ (demoArmedWorks.lane 0).arbiterGrant ≠ .hold ∧ demoShuttingWorks.grantsLawful
    ∧ demoShuttingWorks.capacityKept := by
  unfold State.grantsLawful State.capacityKept
  decide +kernel
theorem test_met_FiguresLaw : demoArmedWorks.figuresLawful ∧ demoShuttingWorks.figuresLawful := by
  have key : ∀ s : State, s.tanks = demo.tanks → s.bus = {} → s.link = {} → s.figuresLawful := by
    intro s ht hb hl
    refine ⟨by unfold State.linkBounded; rw [hl]; decide, fun _ => by rw [hb]; exact ⟨by decide, fun _ => ⟨rfl, rfl⟩⟩,
      ?_⟩
    have all : ∀ t : Fin 8, (demo.tank t).held = none ∨ ((demo.tank t).held = some demoHeld
      ∧ (demo.tank t).dispensed = 0 ∧ (demo.tank t).sincePoll = 0) := by decide +kernel
    intro t h hh
    have e : s.tank t = demo.tank t := by unfold State.tank; rw [ht]
    rw [e] at hh ⊢
    rcases all t with a | ⟨a, b, c⟩
    · rw [a] at hh; cases hh
    · rw [a] at hh; cases hh; rw [b, c]; rfl
  exact ⟨key _ rfl rfl rfl, key _ rfl rfl rfl⟩

/-! ## One step each -/

/-- The command answers a next state that satisfies p. -/
def ran (c : Instr) (s : State) (p : State → Bool) : Bool :=
  match exec c s with
  | .next t => p t
  | _ => false

theorem test_authorise : ran (.authorise 7 anAuthorise) demo (fun t =>
    (t.lane 0).state == .authorised && t.journal.reserved == 1 && (t.lane 0).delivery.preset == 100000
      && (t.machine 0).lastReading == some 1200
      && t.link.line == some (.reply ⟨0x10, 7, ⟨.accepted, .authorised 100000 {}⟩⟩)) = true := by decide +kernel
theorem test_lift_starts_pump : ran (.nozzleLift 0) (demoIn .authorised) (fun t =>
    (t.lane 0).state == .waiting && (t.lane 0).stage == some .prime && (t.header 0).pump == .starting
      && t.pumpOutput 0 && !t.slot.free) = true := by decide +kernel
/-- The worked case of 02 3.9: the eighth sample of 300 pulses. -/
def workedLane : State :=
  { demo with
    lanes := demo.lanes.set 0
      { demoLane with
        record := { product := some 0, kFactor := 100, curve := .lane }
        curve := some [⟨6000, 1200⟩, ⟨10000, 400⟩], state := .flowing, stage := some .main, grant := .full
        rates := List.replicate 7 300, pulses := 300, delivery := { preset := 100000 } }
    products := demo.products.set 0 { demoProduct with alpha := 830, fullRate := 9000 }
    tanks := demo.tanks.set 0 { demoTank with held := some { demoHeld with temperature := 352 } } }
theorem test_worked_sample : ran (.sample 0) workedLane (fun t =>
    (t.lane 0).delivery.gross == 300 && (t.lane 0).grossResidue == 18000000 && (t.lane 0).delivery.net == 295
      && (t.lane 0).netResidue == 14718212000000 && (t.lane 0).delivery.rate == 9000 && (t.tank 0).book == -295
      && (t.tank 0).periodDispensed == 295 && (t.tank 0).sincePoll == 295 && (t.lane 0).totals.gross == 300) = true := by
  decide +kernel
theorem test_no_flow_run : ([LaneState.idle, .waiting, .flowing, .trimming, .closing].map fun st =>
      ran (.sample 0) (demoWith fun l => { l with state := st, stage := some .main, noFlowRun := 9, pulses := 3 })
        fun t => (t.lane 0).noFlowRun == 0).all id
    ∧ ([(LaneState.idle, 9), (.waiting, 9), (.flowing, 10), (.trimming, 10), (.closing, 9)].map fun c =>
      ran (.sample 0) (demoWith fun l => { l with state := c.1, stage := some .main, noFlowRun := 9 })
        fun t => (t.lane 0).noFlowRun == c.2).all id := by decide +kernel
theorem test_lowered_creep_threshold : ran (.sample 0) (demoWith fun l => { l with creepCount := 200000 }) (fun t =>
    (t.lane 0).creepReports == 1 && (t.lane 0).creepCount == 0) = true := by decide +kernel
theorem test_hang_up_closes : ran (.nozzleHangup 0) (workedLane.modLane 0 fun l => { l with nozzleOut := true }) (fun t =>
    (t.lane 0).state == .closing && t.valveOutput 0 == .closed && t.shutdown.closing == 1) = true := by decide +kernel
theorem test_close_commits : ran (.sample 0) demoClosing (fun t =>
    (t.lane 0).state == .idle && t.journal.records.length == 1 && t.journal.lastSeq == 1
      && (t.lane 0).totals.hangup == 1 && (t.lane 0).leaveReport) = true := by decide +kernel
theorem test_sump_shuts : ran (.sumpActive 2 true) demo (fun t =>
    t.shutdown.bay == .shut && t.shutdown.stack == [⟨.sump, 1000000, 1000000, 1, 4⟩] && t.alert) = true := by
  decide +kernel
theorem test_bad_crc_discarded : ran (.frameReceived [2, 0x30, 7, 0xA0, 0xA9]) (demoBay .disarmed) (fun t =>
    t.shutdown.bay == .disarmed) = true := by decide +kernel
theorem test_true_frame_arms : ran (.frameReceived (frameBytes 0x30 7 [])) (demoBay .disarmed) (fun t =>
    t.shutdown.bay == .armed && t.link.line == some (.reply ⟨0x30, 7, ⟨.accepted, .bay .armed⟩⟩)) = true := by
  decide +kernel
theorem test_gauge_reply : ran (.gaugeReply (demoReply 0x07 0xD0)) (demoPolled id) (fun t =>
    ((t.tank 0).held.map HeldReading.net) == some 2000000 && t.bus.poll == none) = true := by decide +kernel
theorem test_warm_start : ran (.warmStart ⟨0, false, false, false⟩) { workedLane with journal := { reserved := 1 } }
    (fun t => (t.lane 0).state == .idle && t.journal.records.length == 1 && t.journal.reserved == 0
      && (t.tank 0).status == .unpolled && t.bus.poll.isSome) = true := by decide +kernel
theorem test_cold_row_with_marker : exec (.coldStart ⟨0, false, true, false⟩) demo
    = exec (.warmStart ⟨0, false, true, false⟩) demo := rfl
theorem test_bad_stop_interrupts : ran (.malformed 7 0x29 [1]) (demoHold 0) (fun t =>
    (t.burst.map Burst.ending) == some (some .interrupted)) = true
    ∧ ran (.journalStop 7) (demoHold 0) (fun t => (t.burst.map Burst.ending) == some (some .stopped)) = true := by
  decide +kernel
theorem test_second_request_held : ran (.bayShutdown 7) demoReplying (fun t =>
    t.link.reply == some ⟨0x35, 1, accept⟩ && t.link.hold == [⟨0x32, 7, []⟩] && t.shutdown.bay == .armed) = true := by
  decide +kernel
theorem test_boundary_closes : ran .boundary (demo.modPeriod fun u => { u with boundaryDue := some .day }) (fun t =>
    t.period.number == 1 && t.period.kind == .day && t.period.report.isSome) = true := by decide +kernel

end Sys2Proof.Tests
end

section
/-! PROOFS. What keeps the bay's law: the moves that leave the bay and its stack alone, the pumps' moves, shutdown
entry, and the starts (01 R6; 03 R63, R69; 04 R99; 07 R147, R155). -/
namespace Sys2Proof.Machine

/-! ## Moves that neither arm nor release anything -/

/-- From s to t the bay, its stack, the pumps and their queue are as they were, and no lane has come in hand and no
inlet has opened. -/
structure State.bayQuiet (s t : State) : Prop where
  bay : t.shutdown.bay = s.shutdown.bay
  stack : t.shutdown.stack = s.shutdown.stack
  lanes : ∀ i, (t.lane i).state.inHand = true → (s.lane i).state.inHand = true
  pumps : ∀ h, (t.header h).pump = (s.header h).pump
  queue : t.slot.queue = s.slot.queue
  inlets : ∀ k, (t.tank k).inlet = true → (s.tank k).inlet = true

theorem State.bayQuiet_refl (s : State) : s.bayQuiet s := ⟨rfl, rfl, fun _ h => h, fun _ => rfl, rfl, fun _ h => h⟩

theorem State.bayQuiet.trans {s t u : State} (a : s.bayQuiet t) (b : t.bayQuiet u) : s.bayQuiet u where
  bay := b.bay.trans a.bay
  stack := b.stack.trans a.stack
  lanes i h := a.lanes i (b.lanes i h)
  pumps h := (b.pumps h).trans (a.pumps h)
  queue := b.queue.trans a.queue
  inlets k h := a.inlets k (b.inlets k h)

/-- A move that leaves lanes, headers, slot, tanks and the Shutdown Unit alone is quiet. -/
theorem State.bayQuiet_of_frame {s t : State} (lanes : t.lanes = s.lanes := by simp)
    (headers : t.headers = s.headers := by simp) (slot : t.slot = s.slot := by simp)
    (tanks : t.tanks = s.tanks := by simp) (shutdown : t.shutdown = s.shutdown := by simp) : s.bayQuiet t where
  bay := by rw [shutdown]
  stack := by rw [shutdown]
  lanes i h := by rwa [State.lane_congr i s t lanes] at h
  pumps h := by rw [State.header_congr h s t headers]
  queue := by rw [slot]
  inlets k h := by rwa [State.tank_congr k s t tanks] at h

/-- A change of one lane that does not bring it in hand is quiet. -/
theorem State.modLane_bayQuiet (i : Fin 8) (f : Lane → Lane) (s : State)
    (hf : (f (s.lane i)).state.inHand = true → (s.lane i).state.inHand = true) : s.bayQuiet (s.modLane i f) where
  bay := rfl
  stack := rfl
  lanes j h := by
    by_cases hj : j = i
    · subst hj; rw [State.lane_modLane_same] at h; exact hf h
    · rwa [State.lane_modLane_ne _ _ hj] at h
  pumps _ := rfl
  queue := rfl
  inlets _ h := h

/-- A change of one tank that does not open its inlet is quiet. -/
theorem State.modTank_bayQuiet (k : Fin 8) (f : Tank → Tank) (s : State)
    (hf : (f (s.tank k)).inlet = true → (s.tank k).inlet = true) : s.bayQuiet (s.modTank k f) where
  bay := rfl
  stack := rfl
  lanes _ h := h
  pumps _ := rfl
  queue := rfl
  inlets j h := by
    by_cases hj : j = k
    · subst hj; rw [State.tank_modTank_same] at h; exact hf h
    · rwa [State.tank_modTank_ne _ _ hj] at h

/-- A change of one header's PROVE or timers is quiet. -/
theorem State.modHeader_bayQuiet (h : Fin 6) (f : Header → Header) (s : State)
    (hf : (f (s.header h)).pump = (s.header h).pump) : s.bayQuiet (s.modHeader h f) where
  bay := rfl
  stack := rfl
  lanes _ h := h
  pumps k := by
    by_cases hk : k = h
    · subst hk; rw [State.header_modHeader_same, hf]
    · rw [State.header_modHeader_ne _ _ hk]
  queue := rfl
  inlets _ h := h

/-- A walk over eight units whose every part is quiet is quiet. -/
theorem eachOfEight_bayQuiet (f : Fin 8 → State → State) (hf : ∀ i (s : State), s.bayQuiet (f i s)) (s : State) :
    s.bayQuiet (eachOfEight f s) := by
  have walk : ∀ (l : List (Fin 8)) (s : State), s.bayQuiet (l.foldl (fun t i => f i t) s) := by
    intro l
    induction l with
    | nil => exact State.bayQuiet_refl
    | cons i l ih => exact fun s => (hf i s).trans (ih _)
  exact walk eightNumbers s

/-- What each part of a walk brings about at its own unit, and every part keeps, holds of all eight at the end. -/
theorem eachOfEight_settles (Q : Fin 8 → State → Prop) (f : Fin 8 → State → State) (done : ∀ i s, Q i (f i s))
    (keeps : ∀ i j s, Q j s → Q j (f i s)) (s : State) (j : Fin 8) : Q j (eachOfEight f s) := by
  have walk : ∀ (l : List (Fin 8)) (s : State), j ∈ l ∨ Q j s → Q j (l.foldl (fun t i => f i t) s) := by
    intro l
    induction l with
    | nil => exact fun s h => by simpa using h
    | cons i l ih =>
      intro s h
      refine ih _ ?_
      rcases h with h | h
      · rcases List.mem_cons.1 h with rfl | h
        · exact Or.inr (done j s)
        · exact Or.inl h
      · exact Or.inr (keeps i j s h)
  exact walk eightNumbers s (Or.inl (mem_eightNumbers j))

/-- Quiet moves keep a closed inlet closed. -/
theorem State.bayQuiet.inlet_eq_false {s t : State} (q : s.bayQuiet t) {k : Fin 8} (h : (s.tank k).inlet = false) :
    (t.tank k).inlet = false := Bool.eq_false_iff.2 fun c => Bool.eq_false_iff.1 h (q.inlets k c)

/-- Quiet moves bring no lane in hand. -/
theorem State.bayQuiet.inHand_eq_false {s t : State} (q : s.bayQuiet t) {i : Fin 8}
    (h : (s.lane i).state.inHand = false) : (t.lane i).state.inHand = false :=
  Bool.eq_false_iff.2 fun c => Bool.eq_false_iff.1 h (q.lanes i c)

/-- Quiet moves keep the bay's law. -/
theorem State.bayQuiet.keeps {s t : State} (q : s.bayQuiet t) (law : s.bayLaw) : t.bayLaw := by
  obtain ⟨⟨stack, kinds⟩, lanes, units, queue, queued⟩ := law
  refine ⟨⟨?_, ?_⟩, fun armed i => ?_, fun armed => ⟨fun h => ?_, fun k => ?_⟩, ?_, fun h => ?_⟩
  · rw [q.stack, q.bay]; exact stack
  · rw [q.stack]; exact kinds
  · rw [q.bay] at armed
    exact q.inHand_eq_false (lanes armed i)
  · rw [q.bay] at armed
    rw [q.pumps]
    exact (units armed).1 h
  · rw [q.bay] at armed
    exact q.inlet_eq_false ((units armed).2 k)
  · rw [q.queue]; exact queue
  · rw [q.queue, q.pumps]; exact queued h

/-- While the bay is not ARMED a lane in hand has no place; so a lane in hand means ARMED. -/
theorem State.bayLaw.armed_of_inHand {s : State} (law : s.bayLaw) {i : Fin 8}
    (h : (s.lane i).state.inHand = true) : s.shutdown.bay = .armed := by
  by_contra armed
  rw [law.2.1 armed i] at h
  cases h

/-! ## Grants, notices and the tanks -/

theorem State.grantPass_bayQuiet (h : Fin 6) (s : State) : s.bayQuiet (s.grantPass h) where
  bay := by simp
  stack := by simp
  lanes i hi := by rwa [((s.grantPass_grantsMoved h).2 i).state_eq] at hi
  pumps k := by rw [State.header_congr k s (s.grantPass h) (by simp)]
  queue := by simp
  inlets k hk := by rwa [State.tank_congr k s (s.grantPass h) (by simp)] at hk

theorem State.sendEnding_bayQuiet (p : Fin 6) (mark : Lane → Lane) (hm : ∀ l, (mark l).state = l.state) (s : State) :
    s.bayQuiet (s.sendEnding p mark) := by
  refine eachOfEight_bayQuiet _ (fun i s => ?_) s
  split
  · exact State.modLane_bayQuiet i mark s fun h => by rwa [hm] at h
  · exact State.bayQuiet_refl s

theorem State.notify_bayQuiet (b : NoticeBody) (s : State) : s.bayQuiet (s.notify b) := State.bayQuiet_of_frame

theorem State.useReading_bayQuiet (t : Fin 8) (s : State) : s.bayQuiet (s.useReading t) := by
  unfold State.useReading
  split
  · exact (State.modTank_bayQuiet t _ s id).trans (State.notify_bayQuiet _ _)
  · exact State.bayQuiet_refl s

theorem State.evaluateBand_bayQuiet (t : Fin 8) (s : State) : s.bayQuiet (s.evaluateBand t) := by
  unfold State.evaluateBand
  extract_lets k band s1 s2
  have banded : s.bayQuiet s1 := State.modTank_bayQuiet t _ s id
  clear_value s1
  have sent : s1.bayQuiet s2 := by
    unfold s2
    split
    · refine State.bayQuiet.trans ?_ (State.notify_bayQuiet _ _)
      split
      · exact State.sendEnding_bayQuiet _ (fun l => { l with tankLowEnding := true }) (fun _ => rfl) s1
      · exact State.bayQuiet_refl s1
    · exact State.bayQuiet_refl s1
  split
  · exact banded.trans sent
  · split
    · exact (banded.trans sent).trans (State.grantPass_bayQuiet _ s2)
    · exact banded.trans sent

theorem Tank.inlet_moveBook (v : Int) (k : Tank) : (k.moveBook v).inlet = k.inlet := rfl

theorem State.completeReceipt_bayQuiet (t : Fin 8) (r : Receipt) (g1 : Int) (d1 : Nat) (held : Bool) (s : State) :
    s.bayQuiet (s.completeReceipt t r g1 d1 held) :=
  (State.modTank_bayQuiet t _ s fun h => by simp [Tank.inlet] at h).trans (State.notify_bayQuiet _ _)

theorem State.settleRound_bayQuiet (t : Fin 8) (s : State) : s.bayQuiet (s.settleRound t) := by
  unfold State.settleRound
  split
  · exact State.bayQuiet_refl s
  · rename_i r hr
    split
    · exact State.bayQuiet_refl s
    · rename_i settling
      split
      · exact State.modTank_bayQuiet t _ s fun h => by simp [Tank.inlet, settling] at h
      · split
        · exact State.modTank_bayQuiet t _ s fun h => by simp [Tank.inlet, settling] at h
        · split
          · exact (State.useReading_bayQuiet t s).trans (State.completeReceipt_bayQuiet ..)
          · exact State.bayQuiet_refl s

theorem State.modBus_bayQuiet (f : GaugeBus → GaugeBus) (s : State) : s.bayQuiet (s.modBus f) := State.bayQuiet_of_frame

theorem State.sendPoll_bayQuiet (t : Fin 8) (s : State) : s.bayQuiet (s.sendPoll t) := State.bayQuiet_of_frame

theorem State.endRound_bayQuiet (s : State) : s.bayQuiet s.endRound :=
  (State.modBus_bayQuiet _ s).trans (eachOfEight_bayQuiet _ State.settleRound_bayQuiet _)

theorem State.visitRound_bayQuiet (n : Nat) (s : State) : s.bayQuiet (s.visitRound n) := by
  unfold State.visitRound
  split
  · exact (State.modBus_bayQuiet _ s).trans (State.sendPoll_bayQuiet _ _)
  · exact s.endRound_bayQuiet

theorem State.continueRound_bayQuiet (s : State) : s.bayQuiet s.continueRound := by
  unfold State.continueRound
  split
  · exact State.bayQuiet_refl s
  · dsimp only
    split
    · exact ((State.visitRound_bayQuiet _ s).trans (State.modBus_bayQuiet _ _)).trans (State.visitRound_bayQuiet _ _)
    · exact State.visitRound_bayQuiet _ s

theorem State.serveBus_bayQuiet (s : State) : s.bayQuiet s.serveBus := by
  unfold State.serveBus
  split
  · exact State.bayQuiet_refl s
  · split
    · exact (State.modBus_bayQuiet _ s).trans (State.sendPoll_bayQuiet _ _)
    · exact (State.modBus_bayQuiet _ s).trans (State.continueRound_bayQuiet _)

theorem State.askPoll_bayQuiet (t : Fin 8) (s : State) : s.bayQuiet (s.askPoll t) :=
  (State.modBus_bayQuiet _ s).trans (State.serveBus_bayQuiet _)

theorem State.endPoll_bayQuiet (s : State) : s.bayQuiet s.endPoll :=
  (State.modBus_bayQuiet _ s).trans (State.serveBus_bayQuiet _)

theorem State.startRound_bayQuiet (s : State) : s.bayQuiet s.startRound := by
  unfold State.startRound
  split
  · exact State.modBus_bayQuiet _ s
  · exact s.endRound_bayQuiet

theorem State.roundFallsDue_bayQuiet (s : State) : s.bayQuiet s.roundFallsDue := by
  unfold State.roundFallsDue
  dsimp only
  split
  · exact ((State.modBus_bayQuiet _ s).trans (State.modBus_bayQuiet _ _)).trans (State.serveBus_bayQuiet _)
  · exact ((State.modBus_bayQuiet _ s).trans (State.startRound_bayQuiet _)).trans (State.serveBus_bayQuiet _)

theorem State.closeReceipt_bayQuiet (t : Fin 8) (cause : SettleCause) (s : State) :
    s.bayQuiet (s.closeReceipt t cause) := by
  unfold State.closeReceipt
  split
  · exact State.bayQuiet_refl s
  · split
    · exact State.bayQuiet_refl s
    · exact ((State.modTank_bayQuiet t _ s fun h => by simp [Tank.inlet] at h).trans
        (State.modBus_bayQuiet _ _)).trans (State.askPoll_bayQuiet _ _)

theorem State.closeInlets_bayQuiet (s : State) : s.bayQuiet s.closeInlets :=
  eachOfEight_bayQuiet _ (fun t s => State.closeReceipt_bayQuiet t .shutdown s) s

theorem Tank.inlet_pollFailed (k : Tank) : k.pollFailed.inlet = k.inlet := by
  unfold Tank.pollFailed
  split
  · rfl
  · rfl
  · split <;> rfl
  · rfl

theorem State.failPoll_bayQuiet (p : Poll) (s : State) : s.bayQuiet (s.failPoll p) := by
  unfold State.failPoll
  split
  · exact s.endPoll_bayQuiet
  · exact (State.modTank_bayQuiet p.tank _ s fun h => by rwa [Tank.inlet_pollFailed] at h).trans
      (State.endPoll_bayQuiet _)

theorem State.reconfigure_bayQuiet (t : Fin 8) (s : State) : s.bayQuiet (s.reconfigure t) :=
  (State.modTank_bayQuiet t _ s id).trans (State.modBus_bayQuiet _ _)

end Sys2Proof.Machine
end

section
/-! PROOFS. The pumps and their start queue under the bay's law (03 R63, R64, R69). -/
namespace Sys2Proof.Machine

/-! ## The pumps and their queue -/

/-- A header that leaves the queue, or was not in it, and is not QUEUED keeps the queue's law. -/
theorem State.queueLawful.pumpMoved {s t : State} {h : Fin 6} (law : s.queueLawful) (m : s.headerMoved h t)
    (queue : t.slot.queue = s.slot.queue.erase h) (out : (t.header h).pump ≠ .queued) : t.queueLawful := by
  obtain ⟨nodup, queued⟩ := law
  refine ⟨by rw [queue]; exact nodup.erase h, fun k => ?_⟩
  rw [queue, nodup.mem_erase_iff]
  by_cases hk : k = h
  · subst hk; simp [out]
  · rw [m.others k hk, queued]
    simp [hk]

/-- A header moved out of the queue keeps the bay's law where the bay is ARMED or the header comes to rest. -/
theorem State.bayLaw.pumpMoved {s t : State} {h : Fin 6} (law : s.bayLaw) (m : s.headerMoved h t)
    (queue : t.slot.queue = s.slot.queue.erase h) (out : (t.header h).pump ≠ .queued)
    (rest : s.shutdown.bay = .armed ∨ (t.header h).pump = .stopped ∨ (t.header h).pump = .failed) : t.bayLaw := by
  obtain ⟨stack, lanes, units, queued⟩ := law
  have shutdown : t.shutdown = s.shutdown := by rw [m.rest]
  have tank : ∀ k, t.tank k = s.tank k := fun k => State.tank_congr k s t (by rw [m.rest])
  refine ⟨by rw [shutdown]; exact stack, fun armed i => ?_, fun armed => ⟨fun k => ?_, fun k => ?_⟩,
    queued.pumpMoved m queue out⟩
  · rw [shutdown] at armed
    rw [(m.lanes i).state_eq]
    exact lanes armed i
  · rw [shutdown] at armed
    by_cases hk : k = h
    · subst hk; exact rest.resolve_left armed
    · rw [m.others k hk]; exact (units armed).1 k
  · rw [shutdown] at armed
    rw [tank]
    exact (units armed).2 k

/-- A header that is neither STOPPED nor FAILED stands in an ARMED bay. -/
theorem State.bayLaw.armed_of_pump {s : State} (law : s.bayLaw) {h : Fin 6} (stopped : (s.header h).pump ≠ .stopped)
    (failed : (s.header h).pump ≠ .failed) : s.shutdown.bay = .armed := by
  by_contra armed
  rcases (law.2.2.1 armed).1 h with c | c
  · exact stopped c
  · exact failed c

theorem State.queueLawful.erase_eq {s : State} (law : s.queueLawful) {h : Fin 6} (out : (s.header h).pump ≠ .queued) :
    s.slot.queue.erase h = s.slot.queue := List.erase_of_not_mem fun c => out ((law.2 h).1 c)

/-- A header that was not QUEUED goes to another state. -/
theorem State.bayLaw.setPump {s : State} (law : s.bayLaw) (h : Fin 6) (p : PumpState) (a b : Option Timer)
    (was : (s.header h).pump ≠ .queued) (out : p ≠ .queued)
    (rest : s.shutdown.bay = .armed ∨ p = .stopped ∨ p = .failed) : (s.setPump h p a b).bayLaw :=
  law.pumpMoved (State.setPump_headerMoved h p a b s) (by rw [State.slot_setPump, law.2.2.2.erase_eq was])
    (by simpa using out) (by simpa using rest)

/-- A header leaves the queue for STOPPED. -/
theorem State.bayLaw.leavesQueue {s : State} (law : s.bayLaw) (h : Fin 6) :
    ((s.modSlot fun k => { k with queue := k.queue.erase h }).setPump h .stopped none none).bayLaw :=
  law.pumpMoved ((State.modSlot_headerMoved h _ s).trans (State.setPump_headerMoved h _ _ _ _)) (by simp) (by simp)
    (by simp)

theorem State.bayLaw.grantPass {s : State} (law : s.bayLaw) (h : Fin 6) : (s.grantPass h).bayLaw :=
  (State.grantPass_bayQuiet h s).keeps law

theorem State.bayLaw.enterRunOn {s : State} (law : s.bayLaw) (h : Fin 6) (was : (s.header h).pump ≠ .queued)
    (armed : s.shutdown.bay = .armed) : (s.enterRunOn h).bayLaw := by
  unfold State.enterRunOn
  split <;> exact law.setPump h _ _ _ was (by simp) (Or.inl armed)

theorem State.bayLaw.proved {s : State} (law : s.bayLaw) (h : Fin 6) (was : (s.header h).pump ≠ .queued)
    (armed : s.shutdown.bay = .armed) : (s.proved h).bayLaw := by
  unfold State.proved
  split
  · exact law.setPump h _ _ _ was (by simp) (Or.inl armed)
  · exact law.enterRunOn h was armed

/-- A started header is not QUEUED. -/
theorem Header.started_pump_ne_queued (p : Product) (demand : Bool) (elapsed : Nat) (k : Header) :
    (k.started p demand elapsed).pump ≠ .queued := by
  unfold Header.started
  repeat' split
  all_goals simp [Header.inState]

theorem State.bayLaw.startPump {s : State} (law : s.bayLaw) (h : Fin 6) (armed : s.shutdown.bay = .armed) :
    (s.startPump h).bayLaw := by
  obtain ⟨head, slot, -⟩ := s.startPump_started h
  exact law.pumpMoved (s.startPump_headerMoved h) (by rw [slot])
    (by rw [head]; exact Header.started_pump_ne_queued _ _ _ _) (Or.inl armed)

/-- The heads of the queue start in an ARMED bay: a QUEUED header has no place in another. -/
theorem State.bayLaw.serveHeads {l : List (Fin 6)} {s : State} (law : s.bayLaw) (hl : s.slot.queue = l) :
    (serveHeads l s).bayLaw := by
  induction l generalizing s with
  | nil => exact law
  | cons h rest ih =>
    unfold Machine.serveHeads
    split
    · have queued : (s.header h).pump = .queued := (law.2.2.2.2 h).1 (by rw [hl]; exact List.mem_cons_self)
      have armed := law.armed_of_pump (h := h) (by rw [queued]; simp) (by rw [queued]; simp)
      refine ih (law.startPump h armed) ?_
      rw [(s.startPump_started h).2.1, hl]
      simp
    · exact law

theorem State.bayLaw.testSlot {s : State} (law : s.bayLaw) : s.testSlot.bayLaw := law.serveHeads rfl

/-- The slot's own fields play no part in the bay's law. -/
theorem State.bayLaw.modSlot {s : State} (law : s.bayLaw) (f : StartSlot → StartSlot)
    (hf : (f s.slot).queue = s.slot.queue) : (s.modSlot f).bayLaw :=
  State.bayQuiet.keeps (s := s) ⟨rfl, rfl, fun _ h => h, fun _ => rfl, hf, fun _ h => h⟩ law

/-- A STOPPED header joins the queue of an ARMED bay. -/
theorem State.bayLaw.joinQueue {s : State} (law : s.bayLaw) (h : Fin 6) (armed : s.shutdown.bay = .armed)
    (stopped : (s.header h).pump = .stopped) : (s.joinQueue h).bayLaw := by
  have moved := (State.modSlot_headerMoved h (fun k => { k with queue := k.queue ++ [h] }) s).trans
    (State.setPump_headerMoved h .queued none none _)
  have queue : ((s.modSlot fun k => { k with queue := k.queue ++ [h] }).setPump h .queued none none).slot.queue
      = s.slot.queue ++ [h] := by simp
  have pump : (((s.modSlot fun k => { k with queue := k.queue ++ [h] }).setPump h .queued none none).header h).pump
      = .queued := by simp
  have joined : ((s.modSlot fun k => { k with queue := k.queue ++ [h] }).setPump h .queued none none).bayLaw := by
    obtain ⟨stack, lanes, units, nodup, queued⟩ := law
    generalize (s.modSlot fun k => { k with queue := k.queue ++ [h] }).setPump h .queued none none = t
      at moved queue pump
    have shutdown : t.shutdown = s.shutdown := by rw [moved.rest]
    have notIn : h ∉ s.slot.queue := fun c => by rw [queued, stopped] at c; cases c
    refine ⟨by rw [shutdown]; exact stack, fun c => absurd armed (by rwa [shutdown] at c),
      fun c => absurd armed (by rwa [shutdown] at c), ?_, fun k => ?_⟩
    · rw [queue, List.nodup_append_comm]
      exact List.nodup_cons.2 ⟨notIn, nodup⟩
    · rw [queue, List.mem_append, List.mem_singleton]
      by_cases hk : k = h
      · subst hk; simp [pump]
      · rw [moved.others k hk, queued]; simp [hk]
  unfold State.joinQueue
  dsimp only
  split
  · exact joined.testSlot
  · exact joined

theorem State.bayLaw.demandAppeared {s : State} (law : s.bayLaw) (h : Fin 6) (had : Bool)
    (armed : s.shutdown.bay = .armed) : (s.demandAppeared h had).bayLaw := by
  unfold State.demandAppeared
  split
  · exact law.grantPass h
  · split
    · rename_i stopped; exact law.joinQueue h armed stopped
    · rename_i runon; exact law.setPump h _ _ _ (by rw [runon]; simp) (by simp) (Or.inl armed)
    all_goals exact law.grantPass h

theorem State.bayLaw.demandLeft {s : State} (law : s.bayLaw) (h : Fin 6) : (s.demandLeft h).bayLaw := by
  unfold State.demandLeft
  split
  · exact law.grantPass h
  · split
    · exact law.leavesQueue h
    · rename_i running
      exact law.enterRunOn h (by rw [running]; simp)
        (law.armed_of_pump (h := h) (by rw [running]; simp) (by rw [running]; simp))
    all_goals exact law.grantPass h

theorem State.bayLaw.failPump {s : State} (law : s.bayLaw) (h : Fin 6) (reason : PumpReason)
    (was : (s.header h).pump ≠ .queued) : (s.failPump h reason).bayLaw := by
  have failed : (s.modHeader h fun k => { k with pump := .failed, proving := none, runOn := none }).bayLaw :=
    law.pumpMoved (State.modHeader_headerMoved h _ s rfl) (law.2.2.2.erase_eq was).symm (by simp) (by simp)
  have sent := (State.sendEnding_bayQuiet h (fun l => { l with pumpEnding := true }) (fun _ => rfl) _).keeps failed
  exact (State.notify_bayQuiet _ _).keeps (sent.grantPass h)

/-! ## Headers stop -/

/-- Stopping a header keeps the queue's law. -/
theorem State.queueLawful.stopHeader {s : State} (law : s.queueLawful) (h : Fin 6) : (s.stopHeader h).queueLawful := by
  have pump := s.stopHeader_pump h
  have out : ((s.stopHeader h).header h).pump ≠ .queued := by rw [pump]; split <;> simp
  refine law.pumpMoved (s.stopHeader_headerMoved h) ?_ out
  unfold State.stopHeader
  cases hp : (s.header h).pump
  case stopped | failed => simp [law.erase_eq (h := h) (by rw [hp]; simp)]
  all_goals simp

/-- The headers that have been stopped are at rest, the lanes are as they were but for their grants, and nothing beside
the headers, the slot's queue and the lanes has moved. -/
theorem State.stopHeaders_stopped (s : State) :
    (∀ h, (s.stopHeaders.header h).pump = .stopped ∨ (s.stopHeaders.header h).pump = .failed)
      ∧ (∀ i, (s.lane i).sameButGrant (s.stopHeaders.lane i))
      ∧ (s.queueLawful → s.stopHeaders.queueLawful) := by
  have walk : ∀ (l : List (Fin 6)) (s : State),
      (∀ h, h ∈ l ∨ (s.header h).pump = .stopped ∨ (s.header h).pump = .failed →
        ((l.foldl (fun t h => t.stopHeader h) s).header h).pump = .stopped
          ∨ ((l.foldl (fun t h => t.stopHeader h) s).header h).pump = .failed)
        ∧ (∀ i, (s.lane i).sameButGrant ((l.foldl (fun t h => t.stopHeader h) s).lane i))
        ∧ (s.queueLawful → (l.foldl (fun t h => t.stopHeader h) s).queueLawful) := by
    intro l
    induction l with
    | nil => exact fun s => ⟨fun h c => by simpa using c, fun _ => rfl, id⟩
    | cons k l ih =>
      intro s
      obtain ⟨pumps, lanes, queue⟩ := ih (s.stopHeader k)
      have moved := s.stopHeader_headerMoved k
      have stopped : ((s.stopHeader k).header k).pump = .stopped ∨ ((s.stopHeader k).header k).pump = .failed := by
        rw [s.stopHeader_pump k]; split <;> simp
      refine ⟨fun h c => pumps h ?_, fun i => (moved.lanes i).trans (lanes i), fun q => queue (q.stopHeader k)⟩
      by_cases hk : h = k
      · subst hk; exact Or.inr stopped
      · rw [moved.others h hk]
        simpa [hk] using c
  obtain ⟨pumps, lanes, queue⟩ := walk sixNumbers s
  exact ⟨fun h => pumps h (Or.inl (mem_sixNumbers h)), lanes, queue⟩

end Sys2Proof.Machine
end

section
/-! PROOFS. Lanes that leave, shutdown entry, and the raising of a cause under the bay's law (07 R155 to R157, R161). -/
namespace Sys2Proof.Machine

/-! ## Lanes leave and enter -/

theorem State.modShutdown_bayQuiet (f : Shutdown → Shutdown) (s : State) (bay : (f s.shutdown).bay = s.shutdown.bay)
    (stack : (f s.shutdown).stack = s.shutdown.stack) : s.bayQuiet (s.modShutdown f) :=
  ⟨bay, stack, fun _ h => h, fun _ => rfl, rfl, fun _ h => h⟩

theorem State.modJournal_bayQuiet (f : Journal → Journal) (s : State) : s.bayQuiet (s.modJournal f) :=
  State.bayQuiet_of_frame

theorem State.withdrawLane_bayQuiet (i : Fin 8) (s : State) : s.bayQuiet (s.withdrawLane i) :=
  (State.modLane_bayQuiet i _ s fun h => by simp [Lane.toIdle, LaneState.inHand] at h).trans
    (State.modJournal_bayQuiet _ _)

theorem State.closeCore_bayQuiet (i : Fin 8) (cause : EndCause) (s : State) : s.bayQuiet (s.closeCore i cause) :=
  (State.modLane_bayQuiet i _ s fun h => by simp [Lane.enterClosing, LaneState.inHand] at h).trans
    (State.modShutdown_bayQuiet _ _ rfl rfl)

theorem State.bayLaw.closeLane {s : State} (law : s.bayLaw) (i : Fin 8) (cause : EndCause) :
    (s.closeLane i cause).bayLaw := by
  unfold State.closeLane
  split
  · have closed := (State.closeCore_bayQuiet i cause s).keeps law
    unfold State.laneDemandLeft
    split
    · exact closed.demandLeft _
    · exact closed
  · exact law

theorem State.creditMachine_bayQuiet (i : Fin 8) (s : State) : s.bayQuiet (s.creditMachine i) := State.bayQuiet_of_frame

theorem State.commitDelivery_bayQuiet (i : Fin 8) (valveHeld : Bool) (s : State) :
    s.bayQuiet (s.commitDelivery i valveHeld) :=
  (((State.creditMachine_bayQuiet i s).trans (State.modJournal_bayQuiet _ _)).trans
    (State.modLane_bayQuiet i _ _ id)).trans (State.notify_bayQuiet _ _)

theorem Lane.afterCommit_inHand (nozzleOut : Bool) (l : Lane) : (l.afterCommit nozzleOut).state.inHand = false := by
  unfold Lane.afterCommit
  split <;> rfl

theorem State.finishClose_bayQuiet (i : Fin 8) (valveHeld : Bool) (s : State) :
    s.bayQuiet (s.finishClose i valveHeld) :=
  (State.commitDelivery_bayQuiet i valveHeld s).trans
    (State.modLane_bayQuiet i _ _ fun h => by simp [Lane.afterCommit_inHand] at h)

/-! ## Shutdown entry (07 R157) -/

/-- Shutdown entry's command to a lane, but for the pass that follows (01 R31). -/
def Lane.shutAlone (elapsed : Nat) (l : Lane) : Lane :=
  match l.state with
  | .authorised => l.withdrawn
  | .waiting | .flowing | .trimming => l.closingOn .shutdown elapsed
  | .idle | .closing | .done => l

theorem State.lane_shutLane_same (i : Fin 8) (s : State) : (s.shutLane i).lane i = (s.lane i).shutAlone s.elapsed := by
  unfold State.shutLane Lane.shutAlone
  cases hs : (s.lane i).state
  case authorised =>
    rw [if_pos rfl]
    show (s.modLane i Lane.toIdle).lane i = _
    rw [State.lane_modLane_same]; rfl
  case waiting | flowing | trimming =>
    rw [if_neg (by simp), if_pos (show LaneState.demands _ = true from rfl)]
    show (s.modLane i (Lane.enterClosing .shutdown (s.startTimer 5))).lane i = _
    rw [State.lane_modLane_same]
    exact Lane.enterClosing_eq _ _ _
  case idle | closing | done => simp [LaneState.demands]

theorem State.lane_shutLane_ne (i j : Fin 8) (hj : j ≠ i) (s : State) : (s.shutLane i).lane j = s.lane j := by
  unfold State.shutLane
  split
  · exact State.lane_modLane_ne i j hj _ s
  · split
    · exact State.lane_modLane_ne i j hj _ s
    · rfl

/-- A walk over eight lanes whose part at lane i changes that lane alone. -/
theorem eachOfEight_lane (f : Fin 8 → State → State) (g : Nat → Lane → Lane)
    (elapsed : ∀ i t, (f i t).elapsed = t.elapsed) (same : ∀ i t, (f i t).lane i = g t.elapsed (t.lane i))
    (ne : ∀ i j t, j ≠ i → (f i t).lane j = t.lane j) (s : State) (i : Fin 8) :
    (eachOfEight f s).lane i = g s.elapsed (s.lane i) := by
  have walk : ∀ (l : List (Fin 8)) (s : State), l.Nodup → (l.foldl (fun t i => f i t) s).lane i =
      if i ∈ l then g s.elapsed (s.lane i) else s.lane i := by
    intro l
    induction l with
    | nil => simp
    | cons j l ih =>
      intro s nodup
      obtain ⟨hj, nodup⟩ := List.nodup_cons.1 nodup
      rw [List.foldl_cons, ih _ nodup, elapsed]
      by_cases hij : i = j
      · subst hij; simp [hj, same]
      · simp [hij, ne j i s hij]
  have all := walk eightNumbers s eightNumbers_nodup
  rwa [if_pos (mem_eightNumbers i)] at all

theorem State.lane_shutLanes (s : State) (i : Fin 8) :
    (eachOfEight State.shutLane s).lane i = (s.lane i).shutAlone s.elapsed :=
  eachOfEight_lane State.shutLane Lane.shutAlone (fun _ _ => by simp) State.lane_shutLane_same
    (fun i j t hj => State.lane_shutLane_ne i j hj t) s i

theorem Lane.shutAlone_inHand (elapsed : Nat) (l : Lane) : (l.shutAlone elapsed).state.inHand = false := by
  unfold Lane.shutAlone
  split
  · rfl
  · rfl
  · rfl
  · rfl
  all_goals rename_i h; rw [h]; rfl

theorem State.shutLane_keeps_stack (i : Fin 8) (s : State) :
    (s.shutLane i).shutdown.stack = s.shutdown.stack ∧ (s.shutLane i).shutdown.bay = s.shutdown.bay := by
  unfold State.shutLane
  split
  · exact ⟨rfl, rfl⟩
  · split <;> exact ⟨rfl, rfl⟩

/-- Every tank's receipt that was open is settling once the inlets have been closed (04 R99). -/
theorem State.closeInlets_inlet (s : State) (k : Fin 8) : (s.closeInlets.tank k).inlet = false := by
  have closed : ∀ (t : Fin 8) (s : State), ((s.closeReceipt t .shutdown).tank t).inlet = false := by
    intro t s
    unfold State.closeReceipt
    split
    · rename_i none'; simp [Tank.inlet, none']
    · rename_i r hr
      split
      · rename_i settling; simp [Tank.inlet, hr, settling]
      · refine Bool.eq_false_iff.2 fun c => ?_
        have := (State.askPoll_bayQuiet t _).inlets t c
        rw [State.tank_congr t (s.modTank t _) _ (State.modBus_fields _ _).2.2.2.2.2.2.2.2.2.2.1] at this
        simp [Tank.inlet] at this
  exact eachOfEight_settles (fun k s => (s.tank k).inlet = false) _ closed
    (fun t k s h => (State.closeReceipt_bayQuiet t .shutdown s).inlet_eq_false h) s k

/-- The stack holds a record, and one per kind. -/
def Shutdown.stacked (u : Shutdown) : Prop := u.stack ≠ [] ∧ (u.stack.map CauseRecord.kind).Nodup

/-- Shutdown entry with a cause on the stack brings the whole law about. -/
theorem State.shutdownEntry_bayLaw (s : State) (stacked : s.shutdown.stacked) (queue : s.queueLawful) :
    s.shutdownEntry.bayLaw := by
  unfold State.shutdownEntry
  extract_lets t
  have ht : t =
      (eachOfEight State.shutLane (s.modShutdown fun u => { u with bay := .shutting })).stopHeaders.closeInlets := rfl
  clear_value t
  have lanes := State.lane_shutLanes (s.modShutdown fun u => { u with bay := .shutting })
  have stack : (eachOfEight State.shutLane (s.modShutdown fun u => { u with bay := .shutting })).shutdown.stack
      = s.shutdown.stack :=
    eachOfEight_keeps (fun s => s.shutdown.stack) _ (fun i s => (s.shutLane_keeps_stack i).1) _
  have bay : (eachOfEight State.shutLane (s.modShutdown fun u => { u with bay := .shutting })).shutdown.bay
      = .shutting :=
    eachOfEight_keeps (fun s => s.shutdown.bay) _ (fun i s => (s.shutLane_keeps_stack i).2) _
  have lawful : (eachOfEight State.shutLane (s.modShutdown fun u => { u with bay := .shutting })).queueLawful := by
    have slot : (eachOfEight State.shutLane (s.modShutdown fun u => { u with bay := .shutting })).slot = s.slot :=
      eachOfEight_keeps State.slot _ (fun i s => by simp) _
    have header : ∀ h, (eachOfEight State.shutLane (s.modShutdown fun u => { u with bay := .shutting })).header h
        = s.header h := fun h =>
      State.header_congr h _ _ (eachOfEight_keeps State.headers _ (fun i s => by simp) _)
    refine ⟨by rw [slot]; exact queue.1, fun h => ?_⟩
    rw [slot, header]
    exact queue.2 h
  generalize ha : eachOfEight State.shutLane (s.modShutdown fun u => { u with bay := .shutting }) = a
    at lanes stack bay lawful ht
  obtain ⟨pumps, grants, kept⟩ := a.stopHeaders_stopped
  have quiet := a.stopHeaders.closeInlets_bayQuiet
  rw [← ht] at quiet
  have tstack : t.shutdown.stack = s.shutdown.stack := by rw [quiet.stack]; simp [stack]
  have tbay : t.shutdown.bay = .shutting := by rw [quiet.bay]; simp [bay]
  have whole : t.bayLaw := by
    refine ⟨⟨?_, ?_⟩, fun _ i => ?_, fun _ => ⟨fun h => ?_, fun k => ?_⟩, ?_, fun h => ?_⟩
    · rw [tstack, tbay]; simpa [BayState.unlatched] using stacked.1
    · rw [tstack]; exact stacked.2
    · refine Bool.eq_false_iff.2 fun c => ?_
      have := quiet.lanes i c
      rw [(grants i).state_eq, lanes, Lane.shutAlone_inHand] at this
      cases this
    · rw [quiet.pumps]; exact pumps h
    · rw [ht]; exact State.closeInlets_inlet _ k
    · rw [quiet.queue]; exact (kept lawful).1
    · rw [quiet.queue, quiet.pumps]; exact (kept lawful).2 h
  split
  · obtain ⟨⟨h1, h2⟩, h3, h4, h5⟩ := whole
    refine ⟨⟨?_, h2⟩, fun _ => h3 (by rw [tbay]; simp), fun _ => h4 (by rw [tbay]; simp), h5⟩
    show t.shutdown.stack = [] ↔ BayState.shut.unlatched = true
    rw [h1, tbay]
    rfl
  · exact whole

/-! ## Causes (07 R156) -/

theorem pushOrMerge_stacked (kind : CauseKind) (detail : Mask) (now : Nat) (stack : List CauseRecord)
    (nodup : (stack.map CauseRecord.kind).Nodup) :
    pushOrMerge kind detail now stack ≠ [] ∧ ((pushOrMerge kind detail now stack).map CauseRecord.kind).Nodup := by
  unfold pushOrMerge
  split
  · rename_i on
    have kinds : ∀ r : CauseRecord, (if r.kind = kind then
        { r with repeats := satAdd 255 r.repeats 1, last := now, detail := r.detail ||| detail } else r).kind =
        r.kind := by
      intro r; split <;> rfl
    refine ⟨fun c => ?_, ?_⟩
    · rw [List.map_eq_nil_iff] at c; subst c; simp [onStack] at on
    · rw [List.map_map]
      simpa only [Function.comp_def, kinds] using nodup
  · rename_i off
    refine ⟨by simp, List.nodup_cons.2 ⟨fun c => ?_, nodup⟩⟩
    obtain ⟨r, hr, rk⟩ := List.mem_map.1 c
    exact off (List.any_eq_true.2 ⟨r, hr, by simpa using rk⟩)

theorem State.bayLaw.raise {s : State} (law : s.bayLaw) (kind : CauseKind) (detail : Mask) :
    (s.raise kind detail).bayLaw := by
  refine (State.notify_bayQuiet _ _).keeps ?_
  obtain ⟨⟨h1, h2⟩, h3, h4, h5⟩ := law
  have stacked : (s.recordCause kind detail).shutdown.stacked := pushOrMerge_stacked kind detail s.now _ h2
  have latched : s.shutdown.bay.unlatched = false → (s.recordCause kind detail).bayLaw := fun l =>
    ⟨⟨by
      show _ ↔ s.shutdown.bay.unlatched = true
      rw [l]; simpa using stacked.1, stacked.2⟩, h3, h4, h5⟩
  unfold State.entryIfOpen
  cases hb : (s.recordCause kind detail).shutdown.bay
  case armed | disarmed => exact State.shutdownEntry_bayLaw _ stacked h5
  all_goals
    have hb' : s.shutdown.bay = _ := hb
    exact latched (by rw [hb']; rfl)

/-- A lane's report is taken: LOCKOUT from SHUTTING and SHUT, a RUNAWAY otherwise (07 R161). -/
theorem State.bayLaw.laneReport {s : State} (law : s.bayLaw) (i : Fin 8) (reason : LockoutReason) :
    (s.laneReport i reason).bayLaw := by
  unfold State.laneReport
  cases hb : s.shutdown.bay
  case shutting | shut =>
    obtain ⟨⟨h1, h2⟩, h3, h4, h5⟩ := law
    refine (State.notify_bayQuiet _ _).keeps
      ⟨⟨?_, h2⟩, fun _ => h3 (by rw [hb]; simp), fun _ => h4 (by rw [hb]; simp), h5⟩
    show s.shutdown.stack = [] ↔ BayState.lockout.unlatched = true
    rw [h1, hb]; rfl
  all_goals exact law.raise _ _

end Sys2Proof.Machine
end

section
/-! PROOFS. The events of the lanes, headers, gauges and the Shutdown Unit under the bay's law. -/
namespace Sys2Proof.Machine

/-! ## The lane's own events -/

theorem State.bayLaw.liftExceptions {s : State} (law : s.bayLaw) (i : Fin 8) (p : Fin 6) :
    (s.liftExceptions i p).bayLaw := by
  unfold State.liftExceptions
  split
  · exact law.closeLane i _
  · split
    · split
      · exact law.closeLane i _
      · exact law
    · exact law

theorem State.bayLaw.startDelivery {s : State} (law : s.bayLaw) (i : Fin 8) (hs : (s.lane i).state = .authorised) :
    (s.startDelivery i).bayLaw := by
  have inHand : (s.lane i).state.inHand = true := by rw [hs]; rfl
  have lifted : ∀ maxOpen creep, (s.modLane i (Lane.lifted maxOpen creep)).bayLaw := fun _ _ =>
    (State.modLane_bayQuiet i _ s fun _ => inHand).keeps law
  unfold State.startDelivery
  split
  · exact law
  · exact ((lifted _ _).demandAppeared _ _ (law.armed_of_inHand inHand)).liftExceptions i _

theorem State.bayLaw.nozzleLift {s : State} (law : s.bayLaw) (i : Fin 8) : (nozzleLift i s).bayLaw := by
  have out := (State.modLane_bayQuiet i (fun l => { l with nozzleOut := true }) s id).keeps law
  unfold Machine.nozzleLift
  split
  · exact law
  · dsimp only
    split
    · rename_i hs
      exact out.startDelivery i (by rw [State.lane_modLane_same]; exact hs)
    · exact out

theorem State.bayLaw.nozzleHangup {s : State} (law : s.bayLaw) (i : Fin 8) : (nozzleHangup i s).bayLaw := by
  have into := (State.modLane_bayQuiet i (fun l => { l with nozzleOut := false }) s id).keeps law
  unfold Machine.nozzleHangup
  split
  · dsimp only
    split
    · exact (State.modLane_bayQuiet i Lane.toIdle _ fun h => by simp [Lane.toIdle, LaneState.inHand] at h).keeps into
    · exact into.closeLane i _
  · exact law

theorem State.bayLaw.authorisationExpiry {s : State} (law : s.bayLaw) (i : Fin 8) :
    (authorisationExpiry i s).bayLaw := by
  unfold Machine.authorisationExpiry
  split
  · exact ((State.withdrawLane_bayQuiet i s).trans (State.notify_bayQuiet _ _)).keeps law
  · exact law

theorem State.bayLaw.maxOpenExpiry {s : State} (law : s.bayLaw) (i : Fin 8) : (maxOpenExpiry i s).bayLaw := by
  unfold Machine.maxOpenExpiry
  split
  · exact law.closeLane i _
  · exact law

theorem State.bayLaw.closeLimitExpiry {s : State} (law : s.bayLaw) (i : Fin 8) : (closeLimitExpiry i s).bayLaw := by
  unfold Machine.closeLimitExpiry
  split
  · exact ((State.finishClose_bayQuiet i true s).trans (State.modLane_bayQuiet i _ _ id)).keeps law
  · exact law

theorem State.bayLaw.creepWindowExpiry {s : State} (law : s.bayLaw) (i : Fin 8) : (creepWindowExpiry i s).bayLaw := by
  unfold Machine.creepWindowExpiry
  split
  · exact (State.modLane_bayQuiet i _ s id).keeps law
  · exact law

theorem State.bayLaw.pumpEnding {s : State} (law : s.bayLaw) (i : Fin 8) : (pumpEnding i s).bayLaw := by
  unfold Machine.pumpEnding
  split
  · exact ((State.modLane_bayQuiet i _ s id).keeps law).closeLane i _
  · exact law

theorem State.bayLaw.tankLowEnding {s : State} (law : s.bayLaw) (i : Fin 8) : (tankLowEnding i s).bayLaw := by
  unfold Machine.tankLowEnding
  split
  · exact ((State.modLane_bayQuiet i _ s id).keeps law).closeLane i _
  · exact law

/-- A lane that takes its grant stays in hand or out of it. -/
theorem grantTaken_bayQuiet (i : Fin 8) (s : State) : s.bayQuiet (grantTaken i s) := by
  unfold grantTaken
  dsimp only
  cases hs : (s.lane i).state
  case waiting =>
    dsimp only
    split
    · exact State.modLane_bayQuiet i _ s id
    · have flows := State.modLane_bayQuiet i (Lane.enterFlow (s.lane i).arbiterGrant) s
        fun _ => by rw [hs]; rfl
      split
      · exact flows
      · exact flows.trans (State.notify_bayQuiet _ _)
  case flowing | trimming =>
    dsimp only
    split
    · exact State.modLane_bayQuiet i _ s fun _ => by rw [hs]; rfl
    · exact State.modLane_bayQuiet i _ s id
  all_goals exact State.modLane_bayQuiet i _ s id

/-! ## The sample -/

/-- The tests of a sample keep a lane in hand or out of it (01 R18, R19). -/
theorem Lane.sampleTests_inHand (p : Product) (l : Lane) : (l.sampleTests p).1.state.inHand = l.state.inHand := by
  have prime : (l.primeTest p).state = l.state := by unfold Lane.primeTest; split <;> rfl
  have trim : ∀ k : Lane, (k.trimTest p).state.inHand = k.state.inHand := by
    intro k
    unfold Lane.trimTest
    split
    · cases k.state <;> simp [LaneState.inHand]
    · rfl
  unfold Lane.sampleTests Lane.stageTests
  split
  · rw [prime]
  · exact (trim _).trans (by rw [prime])

theorem State.bayLaw.applyTests {s : State} (law : s.bayLaw) (i : Fin 8) (h : Fin 6) : (s.applyTests i h).bayLaw := by
  have tested := (State.modLane_bayQuiet i (fun _ => ((s.lane i).sampleTests (s.product h)).1) s fun c => by
    rwa [Lane.sampleTests_inHand] at c).keeps law
  unfold State.applyTests
  dsimp only
  split
  · exact tested.closeLane i _
  · split
    · exact tested
    · exact tested.grantPass h

theorem State.bayLaw.hoseTest {s : State} (law : s.bayLaw) (i : Fin 8) (h : Fin 6) : (s.hoseTest i h).bayLaw := by
  have counted : ∀ c, (s.modLane i fun l => { l with hoseCount := c }).bayLaw := fun c =>
    (State.modLane_bayQuiet i _ s id).keeps law
  unfold State.hoseTest
  dsimp only
  split
  · split
    · split
      · exact counted 1
      · exact (counted 0).raise _ _
    · exact counted 0
  · exact law

theorem State.bayLaw.laneTests {s : State} (law : s.bayLaw) (i : Fin 8) : (s.laneTests i).bayLaw := by
  unfold State.laneTests State.closeTest
  split
  · split
    · exact (State.finishClose_bayQuiet i false s).keeps law
    · exact law
  · split
    · exact (law.applyTests i _).hoseTest i _
    · exact law

theorem State.useLaneReading_bayQuiet (i : Fin 8) (s : State) : s.bayQuiet (s.useLaneReading i) := by
  unfold State.useLaneReading
  split
  · exact State.useReading_bayQuiet _ s
  · exact State.bayQuiet_refl s

theorem State.debitLane_bayQuiet (i : Fin 8) (net : Nat) (s : State) : s.bayQuiet (s.debitLane i net) := by
  unfold State.debitLane
  split
  · exact (State.modTank_bayQuiet _ _ s id).trans (State.evaluateBand_bayQuiet _ _)
  · exact State.bayQuiet_refl s

theorem State.bayLaw.meteredSample {s : State} (law : s.bayLaw) (i : Fin 8) (n : Nat) :
    (s.meteredSample i n).bayLaw := by
  have taken : ∀ u : State, u.bayLaw → ((u.modLane i (Lane.addSample n (s.metering i n) s.now)).laneTests i).bayLaw :=
    fun u hu => ((State.modLane_bayQuiet i _ u id).keeps hu).laneTests i
  unfold State.meteredSample
  dsimp only
  split
  · exact taken s law
  · exact (State.debitLane_bayQuiet i _ _).keeps (taken _ ((State.useLaneReading_bayQuiet i s).keeps law))

theorem State.bayLaw.sample {s : State} (law : s.bayLaw) (i : Fin 8) : (sample i s).bayLaw := by
  have read := (State.modLane_bayQuiet i Lane.readCount s id).keeps law
  unfold Machine.sample
  dsimp only
  split
  · exact read.meteredSample i _
  · split
    · refine (State.modLane_bayQuiet i _ _ fun h => ?_).keeps read
      unfold Lane.creepSample at h
      split at h <;> exact h
    · exact read

/-! ## The header's events -/

theorem State.bayLaw.proveChange {s : State} (law : s.bayLaw) (h : Fin 6) (active : Bool) :
    (proveChange h active s).bayLaw := by
  have level := State.modHeader_bayQuiet h (fun k => { k with prove := active }) s rfl
  have kept := level.keeps law
  unfold Machine.proveChange
  dsimp only
  split
  · exact law
  · split
    · rename_i starting
      split
      · exact kept.proved h (by rw [level.pumps, starting]; simp)
          (kept.armed_of_pump (h := h) (by rw [level.pumps, starting]; simp) (by rw [level.pumps, starting]; simp))
      · exact kept
    · rename_i running
      split
      · exact kept
      · exact kept.failPump h _ (by rw [level.pumps, running]; simp)
    · rename_i runon
      split
      · exact kept
      · exact kept.failPump h _ (by rw [level.pumps, runon]; simp)
    all_goals exact kept

theorem State.bayLaw.provingTimerExpiry {s : State} (law : s.bayLaw) (h : Fin 6) :
    (provingTimerExpiry h s).bayLaw := by
  unfold Machine.provingTimerExpiry
  split
  · rename_i c
    exact law.failPump h _ (by rw [c.1]; simp)
  · exact law

theorem State.bayLaw.runonExpiry {s : State} (law : s.bayLaw) (h : Fin 6) : (runonExpiry h s).bayLaw := by
  unfold Machine.runonExpiry
  split
  · rename_i c
    exact law.setPump h _ _ _ (by rw [c.1]; simp) (by simp) (by simp)
  · exact law

theorem State.bayLaw.staggerElapsed {s : State} (law : s.bayLaw) : (staggerElapsed s).bayLaw :=
  (law.modSlot (fun k => { k with free := true }) rfl).testSlot

/-! ## The gauge's events -/

theorem State.bayLaw.leakCheck {s : State} (law : s.bayLaw) (t : Fin 8) (net : Int) : (s.leakCheck t net).bayLaw := by
  unfold State.leakCheck
  split
  · exact ((State.modTank_bayQuiet t (fun k => { k with leak := true }) s id).keeps law).raise _ _
  · exact law

theorem State.overfillNotice_bayQuiet (t : Fin 8) (level : Nat) (s : State) : s.bayQuiet (s.overfillNotice t level) :=
  (State.modTank_bayQuiet t _ s id).trans (State.notify_bayQuiet _ _)

theorem State.highHighCheck_bayQuiet (t : Fin 8) (level : Nat) (s : State) : s.bayQuiet (s.highHighCheck t level) := by
  unfold State.highHighCheck
  split
  · exact State.modTank_bayQuiet t _ s id
  · split
    · exact ((State.closeReceipt_bayQuiet t _ s).trans (State.modTank_bayQuiet t _ _ id)).trans
        (State.overfillNotice_bayQuiet t level _)
    · split
      · exact State.bayQuiet_refl s
      · exact State.overfillNotice_bayQuiet t level s

theorem State.bayLaw.watchCheck {s : State} (law : s.bayLaw) (t : Fin 8) (level : Nat) :
    (s.watchCheck t level).bayLaw := by
  unfold State.watchCheck
  split
  · exact law
  · split
    · exact ((State.modTank_bayQuiet t (fun k => { k with watch := some level }) s id).keeps law).raise _ _
    · exact law

theorem State.settleOnReply_bayQuiet (t : Fin 8) (p : Poll) (net : Int) (s : State) :
    s.bayQuiet (s.settleOnReply t p net) := by
  unfold State.settleOnReply
  split
  · exact State.bayQuiet_refl s
  · split
    · exact State.completeReceipt_bayQuiet ..
    · exact State.bayQuiet_refl s

theorem Tank.inlet_openWith (net : Int) (k : Tank) : (k.openWith net).inlet = k.inlet := by
  unfold Tank.openWith
  split <;> rfl

theorem State.bayLaw.goodReply {s : State} (law : s.bayLaw) (p : Poll) (r : GaugeReading) :
    (s.goodReply p r).bayLaw := by
  unfold State.goodReply
  extract_lets t net s3 s5
  have compared : s3.bayLaw :=
    ((State.highHighCheck_bayQuiet t r.level _).keeps (law.leakCheck t net)).watchCheck t r.level
  have held : s5.bayLaw :=
    ((State.modTank_bayQuiet t (Tank.holdReading r s.now net) s3 id).trans (State.evaluateBand_bayQuiet t _)).keeps
      compared
  exact ((State.settleOnReply_bayQuiet t _ net s5).trans (State.modTank_bayQuiet t (Tank.openWith net) _ fun h => by
    rwa [Tank.inlet_openWith] at h)).keeps held

theorem State.bayLaw.gaugeReply {s : State} (law : s.bayLaw) (bytes : List Byte) : (gaugeReply bytes s).bayLaw := by
  unfold Machine.gaugeReply
  split
  · exact law
  · split
    · split
      · exact law
      · exact (State.failPoll_bayQuiet _ s).keeps law
      · refine (State.endPoll_bayQuiet _).keeps ?_
        split
        · exact law
        · exact law.goodReply _ _
    · exact law

theorem replyTimerExpiry_bayQuiet (s : State) : s.bayQuiet (replyTimerExpiry s) := by
  unfold replyTimerExpiry
  split
  · split
    · exact State.failPoll_bayQuiet _ s
    · exact State.bayQuiet_refl s
  · exact State.bayQuiet_refl s

/-! ## The Shutdown Unit's events -/

theorem State.bayLaw.sumpActive {s : State} (law : s.bayLaw) (n : Fin 4) (active : Bool) :
    (sumpActive n active s).bayLaw := by
  unfold Machine.sumpActive
  dsimp only
  split
  · exact law
  · split
    · exact ((State.modShutdown_bayQuiet (fun u => { u with sumps := u.sumps ||| (1#8 <<< n.val) }) s rfl rfl).keeps
        law).raise _ _
    · exact (State.modShutdown_bayQuiet _ s rfl rfl).keeps law

theorem pressBegin_bayQuiet (s : State) : s.bayQuiet (pressBegin s) := by
  unfold pressBegin
  split
  · exact State.modShutdown_bayQuiet _ s rfl rfl
  · exact State.bayQuiet_refl s

theorem State.stopLane_bayQuiet (i : Fin 8) (s : State) : s.bayQuiet (s.stopLane i) := by
  unfold State.stopLane
  split
  · exact State.withdrawLane_bayQuiet i s
  · split
    · exact State.closeCore_bayQuiet i _ s
    · exact State.bayQuiet_refl s

/-- A walk over six headers whose every part keeps the law keeps it. -/
theorem eachOfSix_bayLaw (f : Fin 6 → State → State) (hf : ∀ h (s : State), s.bayLaw → (f h s).bayLaw) {s : State}
    (law : s.bayLaw) : (eachOfSix f s).bayLaw := by
  have walk : ∀ (l : List (Fin 6)) (s : State), s.bayLaw → (l.foldl (fun t h => f h t) s).bayLaw := by
    intro l
    induction l with
    | nil => exact fun _ law => law
    | cons h l ih => exact fun s law => ih _ (hf h s law)
  exact walk sixNumbers s law

theorem State.bayLaw.laneStop {s : State} (law : s.bayLaw) : s.laneStop.bayLaw := by
  refine eachOfSix_bayLaw _ (fun h t law => ?_) ((eachOfEight_bayQuiet _ State.stopLane_bayQuiet s).keeps law)
  split
  · exact law.demandLeft h
  · exact law

theorem State.bayLaw.shortPress {s : State} (law : s.bayLaw) (lengthMs : Nat) : (s.shortPress lengthMs).bayLaw := by
  unfold State.shortPress
  split
  · exact ((State.modShutdown_bayQuiet _ _ rfl rfl).trans (State.notify_bayQuiet _ _)).keeps law.laneStop
  all_goals exact law

theorem State.bayLaw.pressRelease {s : State} (law : s.bayLaw) (lengthMs : Nat) :
    (pressRelease lengthMs s).bayLaw := by
  have released := (State.modShutdown_bayQuiet (fun u => { u with press := .noPress }) s rfl rfl).keeps law
  unfold Machine.pressRelease
  split
  · exact law
  · exact released.shortPress lengthMs
  · exact released

theorem State.bayLaw.longPress {s : State} (law : s.bayLaw) : (longPress s).bayLaw := by
  unfold Machine.longPress
  split
  · exact ((State.modShutdown_bayQuiet (fun u => { u with press := .long }) s rfl rfl).keeps law).raise _ _
  · exact law

theorem State.bayLaw.valveFailureReport {s : State} (law : s.bayLaw) (i : Fin 8) :
    (valveFailureReport i s).bayLaw := by
  unfold Machine.valveFailureReport
  split
  · exact law
  · exact ((State.modLane_bayQuiet i _ s id).keeps law).laneReport i _

theorem State.bayLaw.creepReport {s : State} (law : s.bayLaw) (i : Fin 8) : (creepReport i s).bayLaw := by
  unfold Machine.creepReport
  split
  · exact law
  · exact ((State.modLane_bayQuiet i _ s id).keeps law).laneReport i _

/-- A change of the bay from one latched state to another keeps the law. -/
theorem State.bayLaw.relatch {s : State} (law : s.bayLaw) (f : Shutdown → Shutdown)
    (was : s.shutdown.bay.unlatched = false) (now : (f s.shutdown).bay.unlatched = false)
    (stack : (f s.shutdown).stack = s.shutdown.stack) : (s.modShutdown f).bayLaw := by
  have barred : s.shutdown.bay ≠ .armed := fun c => by rw [c] at was; cases was
  obtain ⟨⟨h1, h2⟩, h3, h4, h5⟩ := law
  refine ⟨⟨?_, ?_⟩, fun _ => h3 barred, fun _ => h4 barred, h5⟩
  · show (f s.shutdown).stack = [] ↔ (f s.shutdown).bay.unlatched = true
    rw [stack, now, h1, was]
  · show ((f s.shutdown).stack.map CauseRecord.kind).Nodup
    rw [stack]; exact h2

theorem State.bayLaw.closingReport {s : State} (law : s.bayLaw) (i : Fin 8) : (closingReport i s).bayLaw := by
  have taken := (State.modLane_bayQuiet i (fun l => { l with leaveReport := false }) s id).keeps law
  unfold Machine.closingReport
  split
  · generalize s.modLane i _ = u at taken
    by_cases c : u.shutdown.bay = .shutting ∧ u.shutdown.closing &&& ~~~(oneMember i) = 0
    · refine taken.relatch _ (by rw [c.1]; rfl) ?_ rfl
      dsimp only
      rw [if_pos c]; rfl
    · exact (State.modShutdown_bayQuiet _ u (if_neg c) rfl).keeps taken
  · exact law

/-- A part in a bay that is not ARMED comes to DISARMED, its stack empty. -/
theorem State.bayLaw.disarmed {s : State} (law : s.bayLaw) (f : Shutdown → Shutdown) (was : s.shutdown.bay ≠ .armed)
    (bay : (f s.shutdown).bay = .disarmed) (stack : (f s.shutdown).stack = []) : (s.modShutdown f).bayLaw := by
  obtain ⟨-, h3, h4, h5⟩ := law
  refine ⟨⟨?_, ?_⟩, fun _ => h3 was, fun _ => h4 was, h5⟩
  · show (f s.shutdown).stack = [] ↔ (f s.shutdown).bay.unlatched = true
    rw [stack, bay]; exact ⟨fun _ => rfl, fun _ => rfl⟩
  · show ((f s.shutdown).stack.map CauseRecord.kind).Nodup
    rw [stack]; exact List.nodup_nil

theorem State.bayLaw.keyTurn {s : State} (law : s.bayLaw) : (keyTurn s).bayLaw := by
  unfold Machine.keyTurn
  split
  · by_cases c : s.shutdown.bay = .lockout
    · exact law.disarmed _ (by rw [c]; simp) (by rw [if_pos c]) (by rw [if_pos c])
    · exact (State.modShutdown_bayQuiet _ s (by rw [if_neg c]) (by rw [if_neg c])).keeps law
  · exact law

end Sys2Proof.Machine
end

section
/-! PROOFS. The period close, the starts, the requests and the host link under the bay's law. -/
namespace Sys2Proof.Machine

/-- What leaves lanes, headers, slot, tanks and the Shutdown Unit alone keeps the bay's law. -/
theorem State.bayLaw.unmoved {s t : State} (law : s.bayLaw) (lanes : t.lanes = s.lanes := by simp)
    (headers : t.headers = s.headers := by simp) (slot : t.slot = s.slot := by simp)
    (tanks : t.tanks = s.tanks := by simp) (shutdown : t.shutdown = s.shutdown := by simp) : t.bayLaw :=
  (State.bayQuiet_of_frame lanes headers slot tanks shutdown).keeps law

/-! ## The period close -/

theorem State.useTanks_bayQuiet (s : State) : s.bayQuiet s.useTanks :=
  eachOfEight_bayQuiet _ (fun t s => by
    split
    · exact State.useReading_bayQuiet t s
    · exact State.bayQuiet_refl s) s

theorem State.varianceNotice_bayQuiet (t : Fin 8) (s : State) : s.bayQuiet (s.varianceNotice t) :=
  State.bayQuiet_of_frame

theorem State.closeNotices_bayQuiet (s : State) : s.bayQuiet s.closeNotices :=
  (eachOfEight_bayQuiet _ State.varianceNotice_bayQuiet s).trans (State.notify_bayQuiet _ _)

theorem State.resetFigures_bayQuiet (s : State) : s.bayQuiet s.resetFigures :=
  (eachOfEight_bayQuiet _ (fun i t => (State.modTank_bayQuiet i _ t id).trans (State.modLane_bayQuiet i _ _ id))
    s).trans (State.modShutdown_bayQuiet _ _ rfl rfl)

theorem State.closePeriod_bayQuiet (reason : CloseReason) (kind : Option PeriodKind) (s : State) :
    s.bayQuiet (s.closePeriod reason kind) := by
  refine State.bayQuiet.trans (t := s.useTanks.closeNotices.resetFigures) ?_ ?_
  · exact (s.useTanks_bayQuiet.trans (State.closeNotices_bayQuiet _)).trans (State.resetFigures_bayQuiet _)
  · unfold State.closePeriod
    exact State.bayQuiet_of_frame

theorem boundary_bayQuiet (s : State) : s.bayQuiet (boundary s) := by
  unfold boundary
  split
  · exact State.bayQuiet.trans (t := s.modPeriod fun u => { u with boundaryDue := none }) State.bayQuiet_of_frame
      (State.closePeriod_bayQuiet _ _ _)
  · exact State.bayQuiet_refl s

/-! ## The starts (10 R203 to R206) -/

theorem State.afterColdStart_bayLaw (baudHigh : Bool) : (State.afterColdStart baudHigh).bayLaw := by
  refine ⟨⟨?_, ?_⟩, fun _ i => ?_, fun _ => ⟨fun h => ?_, fun k => ?_⟩, ?_, fun h => ?_⟩
  · simp [State.afterColdStart, BayState.unlatched]
  · simp [State.afterColdStart]
  · simp [State.lane, State.afterColdStart, LaneState.inHand]
  · simp [State.header, State.afterColdStart]
  · simp [State.tank, State.afterColdStart, Tank.inlet]
  · simp [State.afterColdStart]
  · simp [State.header, State.afterColdStart]

/-- From a part whose bay is not ARMED, its units at rest, quiet moves that leave no lane in hand bring the law
about. -/
theorem State.bayQuiet.restores {s t : State} (q : s.bayQuiet t) (stack : s.shutdown.lawful)
    (barred : s.shutdown.bay ≠ .armed) (units : s.unitsObeyBay) (queue : s.queueLawful)
    (rest : ∀ i, (t.lane i).state.inHand = false) : t.bayLaw := by
  have idle : ∀ i, ((s.setLanes (Vector.replicate 8 {})).lane i).state.inHand = false := by
    intro i; simp [State.lane, LaneState.inHand]
  have law : (s.setLanes (Vector.replicate 8 {})).bayLaw := ⟨stack, fun _ => idle, fun _ => units barred, queue⟩
  exact State.bayQuiet.keeps (s := s.setLanes (Vector.replicate 8 {}))
    ⟨q.bay, q.stack, fun i h => (by rw [rest i] at h; cases h), q.pumps, q.queue, q.inlets⟩ law

theorem Tank.inlet_afterStart (now : Nat) (k : Tank) : (k.afterStart now).inlet = false := by
  unfold Tank.inlet Tank.afterStart
  cases hr : k.receipt with
  | none => rfl
  | some r => cases hs : r.state <;> simp [Receipt.afterStart, hs]

/-- A part at rest after a start: its pumps stopped, its inlets closed, its bay not ARMED (10 R205). -/
theorem State.restUnits_rest (s : State) (lawful : s.shutdown.lawful) :
    s.restUnits.shutdown.lawful ∧ s.restUnits.shutdown.bay ≠ .armed ∧ s.restUnits.unitsObeyBay
      ∧ s.restUnits.queueLawful := by
  have rests : ∀ (i : Fin 8) (t : State),
      t.bayQuiet ((t.modLane i Lane.afterStart).modTank i (Tank.afterStart s.now)) := fun i t =>
    (State.modLane_bayQuiet i Lane.afterStart t id).trans
      (State.modTank_bayQuiet i _ _ fun c => by rw [Tank.inlet_afterStart] at c; cases c)
  have quiet := eachOfEight_bayQuiet _ rests
    ((s.setHeaders (Vector.replicate 6 {})).setSlot { free := s.settings.stagger == 0 })
  have closed := eachOfEight_settles (fun k t => (t.tank k).inlet = false)
    (fun i t => (t.modLane i Lane.afterStart).modTank i (Tank.afterStart s.now))
    (fun i t => by rw [State.tank_modTank_same]; exact Tank.inlet_afterStart _ _)
    (fun i j t h => (rests i t).inlet_eq_false h)
    ((s.setHeaders (Vector.replicate 6 {})).setSlot { free := s.settings.stagger == 0 })
  unfold State.restUnits
  extract_lets a w
  have pump : ∀ h, (w.header h).pump = .stopped := fun h => by
    rw [quiet.pumps h]; simp [State.header]
  have queue : w.slot.queue = [] := quiet.queue
  have bay : w.shutdown.bay = s.shutdown.bay := quiet.bay
  have stack : w.shutdown.stack = s.shutdown.stack := quiet.stack
  have inlet : ∀ k, (w.tank k).inlet = false := closed
  clear_value w
  refine ⟨⟨?_, ?_⟩, ?_, fun _ => ⟨fun h => Or.inl (pump h), inlet⟩, ?_, fun h => ?_⟩
  · show w.shutdown.stack = [] ↔ w.shutdown.bay.afterStart.unlatched = true
    rw [stack, bay, lawful.1]
    cases s.shutdown.bay <;> simp [BayState.afterStart, BayState.unlatched]
  · show (w.shutdown.stack.map CauseRecord.kind).Nodup
    rw [stack]; exact lawful.2
  · show w.shutdown.bay.afterStart ≠ .armed
    cases w.shutdown.bay <;> simp [BayState.afterStart]
  · show w.slot.queue.Nodup
    rw [queue]; exact List.nodup_nil
  · show h ∈ w.slot.queue ↔ (w.header h).pump = .queued
    rw [queue, pump]; simp

theorem State.rest_bayQuiet (kind : StartKind) (baudHigh : Bool) (s : State) :
    s.restUnits.bayQuiet (s.rest kind baudHigh) := by
  unfold State.rest
  exact State.bayQuiet_of_frame

theorem recoverLane_bayQuiet (nozzleOut : Mask) (i : Fin 8) (s : State) : s.bayQuiet (recoverLane nozzleOut i s) := by
  have committed := ((State.modLane_bayQuiet i
      (fun l => { l with delivery := { l.delivery with endCause := some .power } }) s id).trans
    (State.commitDelivery_bayQuiet i false _)).trans
    (State.modLane_bayQuiet i (Lane.afterCommit (nozzleOut.getLsbD i.val)) _ fun h => by
      simp [Lane.afterCommit_inHand] at h)
  unfold recoverLane
  cases (s.lane i).state
  case idle | done => exact State.bayQuiet_refl s
  case authorised => exact State.withdrawLane_bayQuiet i s
  all_goals exact committed

theorem recoverLane_rests (nozzleOut : Mask) (i : Fin 8) (s : State) :
    ((recoverLane nozzleOut i s).lane i).state.inHand = false := by
  unfold recoverLane
  cases hs : (s.lane i).state
  case idle | done => dsimp only; rw [hs]; rfl
  case authorised =>
    show ((s.modLane i Lane.toIdle).lane i).state.inHand = false
    rw [State.lane_modLane_same]; rfl
  all_goals
    dsimp only
    unfold State.powerCommit
    rw [State.lane_modLane_same, Lane.afterCommit_inHand]

theorem State.recoverLanes_bayQuiet (nozzleOut : Mask) (s : State) : s.bayQuiet (s.recoverLanes nozzleOut) :=
  eachOfEight_bayQuiet _ (recoverLane_bayQuiet nozzleOut) s

theorem State.recoverLanes_rest (nozzleOut : Mask) (s : State) (i : Fin 8) :
    ((s.recoverLanes nozzleOut).lane i).state.inHand = false :=
  eachOfEight_settles (fun i s => (s.lane i).state.inHand = false) _ (recoverLane_rests nozzleOut)
    (fun i _ s h => (recoverLane_bayQuiet nozzleOut i s).inHand_eq_false h) s i

theorem State.lateClose_bayQuiet (s : State) : s.bayQuiet s.lateClose := by
  unfold State.lateClose
  split
  · split
    · exact State.closePeriod_bayQuiet _ _ s
    · exact State.bayQuiet_refl s
  · exact State.bayQuiet_refl s

theorem State.recover_bayQuiet (pins : StartPins) (s : State) : s.bayQuiet (s.recover pins) := by
  unfold State.recover
  split
  · exact s.lateClose_bayQuiet.trans (State.recoverLanes_bayQuiet _ _)
  · exact (State.recoverLanes_bayQuiet _ s).trans (State.lateClose_bayQuiet _)

theorem State.recover_rest (pins : StartPins) (s : State) (i : Fin 8) :
    ((s.recover pins).lane i).state.inHand = false := by
  unfold State.recover
  split
  · exact State.recoverLanes_rest _ _ i
  · exact (State.lateClose_bayQuiet _).inHand_eq_false (State.recoverLanes_rest _ s i)

/-- The arbiter's choice is none of the bay's. -/
theorem State.kick_bayQuiet (s : State) : s.bayQuiet s.kick := State.bayQuiet_of_frame

theorem State.bayLaw.warmStart {s : State} (law : s.bayLaw) (pins : StartPins) : (s.warmStart pins).bayLaw := by
  obtain ⟨lawful, barred, units, queue⟩ := s.restUnits_rest law.1
  have recovered := (State.rest_bayQuiet (if pins.keyLow then .key else .warm) pins.baudHigh s).trans
    (State.recover_bayQuiet pins _)
  exact ((State.serveBus_bayQuiet _).trans (State.kick_bayQuiet _)).keeps
    (recovered.restores lawful barred units queue (State.recover_rest pins _))

theorem State.bayLaw.start {s : State} (law : s.bayLaw) (pins : StartPins) : (s.start pins).bayLaw := by
  unfold State.start
  split
  · exact law.warmStart pins
  · unfold State.coldStart
    exact (State.afterColdStart_bayLaw pins.baudHigh).unmoved

theorem State.goDark_bayQuiet (power : Power) (s : State) : s.bayQuiet (s.goDark power) := by
  unfold State.goDark
  exact State.bayQuiet_of_frame

/-! ## The requests -/

theorem State.bayLaw.productSet {s : State} (law : s.bayLaw) (f : ProductFields) : (productSet f s).2.bayLaw := by
  unfold Machine.productSet
  split
  · split
    · exact law
    · split
      · exact law
      · exact law.unmoved
  · exact law

theorem State.bayLaw.laneSet {s : State} (law : s.bayLaw) (f : LaneFields) : (laneSet f s).2.bayLaw := by
  unfold Machine.laneSet
  split
  · split
    · exact law
    · exact (State.modLane_bayQuiet _ _ s id).keeps law
  · exact law

theorem State.bayLaw.tankSet {s : State} (law : s.bayLaw) (f : TankFields) : (tankSet f s).2.bayLaw := by
  unfold Machine.tankSet
  split
  · rename_i t r _ _
    have recorded := (State.modTank_bayQuiet t (fun k => { k with record := r }) s id).keeps law
    split
    · exact law
    · split
      · exact law
      · dsimp only
        split
        · exact (State.evaluateBand_bayQuiet t _).keeps recorded
        · exact (State.reconfigure_bayQuiet t _).keeps recorded
  · exact law

theorem State.bayLaw.tablePoint {s : State} (law : s.bayLaw) (f : TablePointFields) : (tablePoint f s).2.bayLaw := by
  unfold Machine.tablePoint
  split
  · exact law
  · split
    · exact (State.modTank_bayQuiet _ _ s id).keeps law
    · exact law

theorem State.bayLaw.tableCommit {s : State} (law : s.bayLaw) (f : CommitFields) : (tableCommit f s).2.bayLaw := by
  unfold Machine.tableCommit
  split
  · exact law
  · split
    · exact law
    · split
      · exact law
      · split
        · exact law
        · exact ((State.modTank_bayQuiet _ _ s id).trans (State.reconfigure_bayQuiet _ _)).keeps law

theorem State.bayLaw.curvePoint {s : State} (law : s.bayLaw) (f : CurvePointFields) : (curvePoint f s).2.bayLaw := by
  unfold Machine.curvePoint
  split
  · exact law
  · split
    · exact (State.modLane_bayQuiet _ _ s id).keeps law
    · exact law

theorem State.bayLaw.curveCommit {s : State} (law : s.bayLaw) (f : CommitFields) : (curveCommit f s).2.bayLaw := by
  unfold Machine.curveCommit
  split
  · exact law
  · split
    · exact law
    · split
      · exact law
      · split
        · exact law
        · exact (State.modLane_bayQuiet _ _ s id).keeps law

theorem State.retimeRound_bayQuiet (old new : Nat) (phase : Bool) (s : State) :
    s.bayQuiet (s.retimeRound old new phase) := by
  unfold State.retimeRound
  split
  · exact s.roundFallsDue_bayQuiet
  · exact State.bayQuiet_refl s

theorem State.bayLaw.baySet {s : State} (law : s.bayLaw) (f : BayFields) : (baySet f s).2.bayLaw := by
  unfold Machine.baySet
  split
  · exact law
  · rename_i v _
    have tested := (State.bayLaw.unmoved (t := s.setSettings v) law).modSlot
      (StartSlot.retest s.settings.stagger v.stagger s.elapsed (s.phase 0)) rfl |>.testSlot
    dsimp only
    generalize State.testSlot _ = u at tested
    have bounded : u.findBoundary.bayLaw := tested.unmoved
    exact ((State.retimeRound_bayQuiet s.settings.roundPeriod v.roundPeriod (s.phase 1) _).keeps bounded).unmoved

theorem State.bayLaw.timeSet {s : State} (law : s.bayLaw) (clock : Nat) : (timeSet clock s).2.bayLaw := by
  unfold Machine.timeSet
  split
  · exact law.unmoved
  · exact law

theorem State.hourProcessing_bayQuiet (m : Fin 512) (i : Fin 8) (reading : Option Nat) (s : State) :
    s.bayQuiet (s.hourProcessing m i reading).2 := by
  unfold State.hourProcessing
  dsimp only
  split
  · exact State.bayQuiet_of_frame
  · exact State.bayQuiet_of_frame

/-- An AUTHORISE is accepted in an ARMED bay alone (01 R9). -/
theorem State.bayLaw.acceptAuthorise {s : State} (law : s.bayLaw) (armed : s.shutdown.bay = .armed)
    (f : AuthoriseFields) (o : AuthoriseOperands) (p : Fin 6) (t : Fin 8) :
    (acceptAuthorise f o p t s).2.bayLaw := by
  have reserved := ((State.hourProcessing_bayQuiet o.machine o.lane f.hourReading s).trans
    (State.modJournal_bayQuiet Journal.reserve _))
  obtain ⟨lawful, -, -, queue⟩ := reserved.keeps law
  have bay := reserved.bay.trans armed
  unfold Machine.acceptAuthorise
  exact ⟨lawful, fun c => absurd bay c, fun c => absurd bay c, queue⟩

theorem State.bayLaw.authorise {s : State} (law : s.bayLaw) (f : AuthoriseFields) : (authorise f s).2.bayLaw := by
  unfold Machine.authorise checkAuthorise
  split
  · exact law
  · split
    · exact law
    · rename_i armed
      split
      · exact law
      · split
        · exact law
        · split
          · exact law
          · split
            · exact law
            · split
              · exact law
              · split
                · exact law
                · split
                  · exact (State.useReading_bayQuiet _ s).keeps law
                  · exact law.acceptAuthorise (not_not.1 armed) f _ _ _

theorem State.bayLaw.cancel {s : State} (law : s.bayLaw) (lane : Nat) : (cancel lane s).2.bayLaw := by
  unfold Machine.cancel State.cancelLane
  split
  · exact law
  · dsimp only
    split
    · exact (State.withdrawLane_bayQuiet _ s).keeps law
    · exact law.closeLane _ _

theorem State.bayLaw.laneQuery {s : State} (law : s.bayLaw) (lane : Nat) : (laneQuery lane s).2.bayLaw := by
  unfold Machine.laneQuery
  split
  · exact law
  · exact law.unmoved

theorem State.bayLaw.tankQuery {s : State} (law : s.bayLaw) (tank : Nat) : (tankQuery tank s).2.bayLaw := by
  unfold Machine.tankQuery
  split <;> exact law

theorem State.bayLaw.gaugeNow {s : State} (law : s.bayLaw) (tank : Nat) : (gaugeNow tank s).2.bayLaw := by
  unfold Machine.gaugeNow
  split
  · exact law
  · split
    · exact (State.askPoll_bayQuiet _ s).keeps law
    · exact law

/-- An inlet opens in an ARMED bay alone (04 R95). -/
theorem State.bayLaw.receiptOpen {s : State} (law : s.bayLaw) (f : ReceiptOpenFields) :
    (receiptOpen f s).2.bayLaw := by
  have opened : s.shutdown.bay = .armed → ∀ t g, (s.modTank t g).bayLaw := fun armed _ _ =>
    ⟨law.1, fun c => absurd armed c, fun c => absurd armed c, law.2.2.2⟩
  unfold Machine.receiptOpen openReceipt
  split
  · exact law
  · split
    · dsimp only
      split
      · exact law
      · rename_i armed
        split
        · exact law
        · split
          · exact law
          · split
            · exact (State.useReading_bayQuiet _ s).keeps law
            · exact law
            · exact law
            · exact opened (not_not.1 armed) _ _
    · exact law

theorem State.bayLaw.receiptClose {s : State} (law : s.bayLaw) (tank : Nat) : (receiptClose tank s).2.bayLaw := by
  unfold Machine.receiptClose
  split
  · exact law
  · split
    · exact (State.closeReceipt_bayQuiet _ _ s).keeps law
    · exact law

theorem State.bayLaw.bookSet {s : State} (law : s.bayLaw) (f : BookFields) : (bookSet f s).2.bayLaw := by
  unfold Machine.bookSet
  split
  · exact law
  · split
    · exact law
    · exact (State.modTank_bayQuiet _ _ s id).keeps law

theorem State.bayLaw.machineRead {s : State} (law : s.bayLaw) (machine : Nat) : (machineRead machine s).2.bayLaw := by
  unfold Machine.machineRead
  split
  · exact law
  · exact law.unmoved

theorem State.bayLaw.machineWrite {s : State} (law : s.bayLaw) (f : MachineWriteFields) :
    (machineWrite f s).2.bayLaw := by
  unfold Machine.machineWrite
  split
  · exact law
  · split
    · exact law
    · split
      · exact law
      · exact law.unmoved

theorem State.bayLaw.patternLoad {s : State} (law : s.bayLaw) (f : PatternFields) : (patternLoad f s).2.bayLaw := by
  unfold Machine.patternLoad
  split
  · exact law.unmoved
  · exact law

theorem State.bayLaw.groupApply {s : State} (law : s.bayLaw) (f : GroupFields) : (groupApply f s).2.bayLaw := by
  unfold Machine.groupApply
  split
  · exact law
  · split
    · exact law
    · exact law.unmoved

theorem State.bayLaw.journalRead {s : State} (law : s.bayLaw) (f : JournalReadFields) :
    (journalRead f s).2.bayLaw := by
  unfold Machine.journalRead
  split
  · exact law.unmoved
  · exact law

theorem State.bayLaw.journalAck {s : State} (law : s.bayLaw) (n : Nat) : (journalAck n s).2.bayLaw := by
  unfold Machine.journalAck
  split
  · exact law.unmoved
  · exact law

/-- The bay is armed from DISARMED, its stack empty (07 R167). -/
theorem State.bayLaw.bayArm {s : State} (law : s.bayLaw) : (bayArm s).2.bayLaw := by
  obtain ⟨⟨h1, h2⟩, -, -, h5⟩ := id law
  unfold Machine.bayArm
  split
  · exact law
  · rename_i disarmed
    split
    · exact law
    · refine ⟨⟨?_, h2⟩, fun c => absurd rfl c, fun c => absurd rfl c, h5⟩
      show s.shutdown.stack = [] ↔ BayState.armed.unlatched = true
      rw [h1, not_not.1 disarmed]
      rfl

theorem maskOf_eq_zero {p : Fin 8 → Bool} (h : maskOf p = 0) (i : Fin 8) : p i = false := by
  rw [← maskOf_getLsbD p i, h]
  simp

theorem LaneState.inHand_of_atRest {l : LaneState} (h : l.atRest = true) : l.inHand = false := by
  cases l <;> simp_all [LaneState.atRest, LaneState.inHand]

/-- The bay is disarmed with every lane at rest and every inlet closed, and its headers stop (07 R168). -/
theorem State.bayLaw.bayDisarm {s : State} (law : s.bayLaw) : (bayDisarm s).2.bayLaw := by
  unfold Machine.bayDisarm
  dsimp only
  split
  · exact law
  · rename_i armed
    split
    · exact law
    · rename_i busy
      simp only [not_or, not_not] at busy armed
      obtain ⟨⟨h1, h2⟩, -, -, h5⟩ := law
      obtain ⟨pumps, grants, queue⟩ := (s.modShutdown fun u => { u with bay := .disarmed }).stopHeaders_stopped
      have shutdown : ((s.modShutdown fun u => { u with bay := .disarmed }).stopHeaders).shutdown
          = { s.shutdown with bay := .disarmed } := by simp
      have queued := queue h5
      have tanks : ((s.modShutdown fun u => { u with bay := .disarmed }).stopHeaders).tanks = s.tanks := by simp
      generalize (s.modShutdown fun u => { u with bay := .disarmed }).stopHeaders = t
        at pumps grants shutdown queued tanks
      refine ⟨⟨?_, by rw [shutdown]; exact h2⟩, fun _ i => ?_, fun _ => ⟨pumps, fun k => ?_⟩, queued⟩
      · rw [shutdown, h1, armed]; rfl
      · rw [(grants i).state_eq]
        have atRest : (s.lane i).state.atRest = true := by simpa using maskOf_eq_zero busy.1 i
        exact LaneState.inHand_of_atRest atRest
      · rw [State.tank_congr k s t tanks]
        exact maskOf_eq_zero busy.2 k

/-- The top record is cleared in SHUT; with the last the bay is DISARMED (07 R166). -/
theorem State.bayLaw.bayClear {s : State} (law : s.bayLaw) (kind : Nat) : (bayClear kind s).2.bayLaw := by
  unfold Machine.bayClear
  split
  · exact law
  · split
    · exact law
    · rename_i shut
      split
      · exact law
      · rename_i r rest stack
        split
        · exact law
        · split
          · exact law
          · have shut := not_not.1 shut
            obtain ⟨⟨-, h2⟩, h3, h4, h5⟩ := law
            have barred : s.shutdown.bay ≠ .armed := by rw [shut]; simp
            refine ⟨⟨?_, ?_⟩, fun _ => h3 barred, fun _ => h4 barred, h5⟩
            · show rest = [] ↔ (if rest.isEmpty then BayState.disarmed else .shut).unlatched = true
              cases rest <;> simp [BayState.unlatched]
            · rw [stack] at h2
              exact (List.nodup_cons.1 h2).2

theorem State.bayLaw.pumpReset {s : State} (law : s.bayLaw) (header : Nat) : (pumpReset header s).2.bayLaw := by
  unfold Machine.pumpReset
  split
  · exact law
  · rename_i h _
    split
    · rename_i failed
      dsimp only
      exact law.setPump h .stopped none none (by rw [failed]; simp) (by simp) (by simp)
    · exact law

theorem State.bayLaw.status {s : State} (law : s.bayLaw) (part : Nat) : (status part s).2.bayLaw := by
  unfold Machine.status
  split
  · exact law
  · exact law.unmoved

theorem State.bayLaw.reportRead {s : State} (law : s.bayLaw) (f : ReportReadFields) : (reportRead f s).2.bayLaw := by
  unfold Machine.reportRead
  split
  · split
    · exact law
    · split <;> exact law
  · exact law

/-- Every request's owner keeps the bay's law. -/
theorem State.bayLaw.serveRequest {s : State} (law : s.bayLaw) (r : Request) : (serveRequest r s).2.bayLaw := by
  cases r with
  | productSet f => exact law.productSet f
  | laneSet f => exact law.laneSet f
  | tankSet f => exact law.tankSet f
  | tablePoint f => exact law.tablePoint f
  | tableCommit f => exact law.tableCommit f
  | curvePoint f => exact law.curvePoint f
  | curveCommit f => exact law.curveCommit f
  | baySet f => exact law.baySet f
  | timeSet n => exact law.timeSet n
  | authorise f => exact law.authorise f
  | cancel n => exact law.cancel n
  | laneQuery n => exact law.laneQuery n
  | tankQuery n => exact law.tankQuery n
  | gaugeNow n => exact law.gaugeNow n
  | receiptOpen f => exact law.receiptOpen f
  | receiptClose n => exact law.receiptClose n
  | bookSet f => exact law.bookSet f
  | machineRead n => exact law.machineRead n
  | machineWrite f => exact law.machineWrite f
  | patternLoad f => exact law.patternLoad f
  | groupApply f => exact law.groupApply f
  | journalRead f => exact law.journalRead f
  | journalStop => exact law
  | journalAck n => exact law.journalAck n
  | bayArm => exact law.bayArm
  | bayDisarm => exact law.bayDisarm
  | bayShutdown => exact law.raise .command 0
  | bayClear n => exact law.bayClear n
  | pumpReset n => exact law.pumpReset n
  | status n => exact law.status n
  | reportNow => exact (State.closePeriod_bayQuiet .request none s).keeps law
  | reportRead f => exact law.reportRead f

/-! ## The host link -/

theorem State.holdFrame_bayQuiet (f : HeldFrame) (s : State) : s.bayQuiet (s.holdFrame f) := State.bayQuiet_of_frame

theorem State.bayLaw.putReply {s : State} (law : s.bayLaw) (kind tag : Byte) (a : Answer) :
    (s.putReply kind tag a).bayLaw := law.unmoved

theorem State.bayLaw.modLink {s : State} (law : s.bayLaw) (f : Link → Link) : (s.modLink f).bayLaw :=
  law.unmoved

theorem State.bayLaw.takeHeld {s : State} (law : s.bayLaw) : s.takeHeld.bayLaw := by
  unfold State.takeHeld
  split
  · refine State.bayLaw.putReply ?_ _ _ _
    unfold serveFrame
    split
    · exact (law.modLink _).serveRequest _
    · exact law.modLink _
    · exact law.modLink _
  · exact law

theorem State.bayLaw.frameCompletes {s : State} (law : s.bayLaw) (bytes : List Byte) :
    (s.frameCompletes bytes).bayLaw := by
  unfold State.frameCompletes State.offerFrame
  dsimp only
  split
  · split
    · exact ((State.holdFrame_bayQuiet _ _).keeps (law.modLink _)).takeHeld
    · exact law.modLink _
  · exact law.modLink _

theorem State.bayLaw.hostByteReceived {s : State} (law : s.bayLaw) (b : Byte) : (hostByteReceived b s).bayLaw := by
  unfold Machine.hostByteReceived
  split
  · split
    · exact law.modLink _
    · exact law
  · dsimp only
    split
    · exact law.modLink _
    · split
      · exact law.frameCompletes _
      · exact law.modLink _

theorem State.messageSent_bayQuiet (m : TxMessage) (s : State) : s.bayQuiet (s.messageSent m) := State.bayQuiet_of_frame

theorem State.bayLaw.frameSent {s : State} (law : s.bayLaw) : (frameSent s).bayLaw := by
  unfold Machine.frameSent
  split
  · exact ((State.messageSent_bayQuiet _ _).keeps (law.modLink _)).takeHeld
  · exact law

/-! ## Every command -/

/-- The answer of a command keeps the bay's law. -/
def keepsBayLaw (o : Host.Outcome State Fault Refusal) : Prop := ∀ t, o = .next t → t.bayLaw

theorem keepsBayLaw_next {t : State} (law : t.bayLaw) : keepsBayLaw (.next t) := fun _ e => by
  cases e; exact law

theorem event_keepsBayLaw (f : State → State) {s : State} (law : s.bayLaw) (hf : (f s).bayLaw) :
    keepsBayLaw (event f s) := by
  refine keepsBayLaw_next ?_
  split
  · exact (State.kick_bayQuiet _).keeps hf
  · exact law

theorem request_keepsBayLaw (f : HeldFrame) (owner : State → Answer × State) {s : State} (law : s.bayLaw)
    (hf : (owner s).2.bayLaw) : keepsBayLaw (event (State.request f owner) s) := by
  refine event_keepsBayLaw _ law ?_
  unfold State.request
  split
  · exact (State.holdFrame_bayQuiet f s).keeps law
  · exact hf.putReply _ _ _

end Sys2Proof.Machine
end

section
/-! PROOFS. Every command and every step keeps the bay's law, and what it says of the outputs (O57). -/
namespace Sys2Proof.Machine

/-- Every command keeps the bay's law. -/
theorem exec_keepsBayLaw (c : Instr) {s : State} (law : s.bayLaw) : keepsBayLaw (exec c s) := by
  have quiet : ∀ (f : State → State), s.bayQuiet (f s) → keepsBayLaw (event f s) := fun f q =>
    event_keepsBayLaw f law (q.keeps law)
  cases c with
  | productSet tag f => exact request_keepsBayLaw _ _ law (law.productSet f)
  | laneSet tag f => exact request_keepsBayLaw _ _ law (law.laneSet f)
  | tankSet tag f => exact request_keepsBayLaw _ _ law (law.tankSet f)
  | tablePoint tag f => exact request_keepsBayLaw _ _ law (law.tablePoint f)
  | tableCommit tag f => exact request_keepsBayLaw _ _ law (law.tableCommit f)
  | curvePoint tag f => exact request_keepsBayLaw _ _ law (law.curvePoint f)
  | curveCommit tag f => exact request_keepsBayLaw _ _ law (law.curveCommit f)
  | baySet tag f => exact request_keepsBayLaw _ _ law (law.baySet f)
  | timeSet tag n => exact request_keepsBayLaw _ _ law (law.timeSet n)
  | authorise tag f => exact request_keepsBayLaw _ _ law (law.authorise f)
  | cancel tag n => exact request_keepsBayLaw _ _ law (law.cancel n)
  | laneQuery tag n => exact request_keepsBayLaw _ _ law (law.laneQuery n)
  | tankQuery tag n => exact request_keepsBayLaw _ _ law (law.tankQuery n)
  | gaugeNow tag n => exact request_keepsBayLaw _ _ law (law.gaugeNow n)
  | receiptOpen tag f => exact request_keepsBayLaw _ _ law (law.receiptOpen f)
  | receiptClose tag n => exact request_keepsBayLaw _ _ law (law.receiptClose n)
  | bookSet tag f => exact request_keepsBayLaw _ _ law (law.bookSet f)
  | machineRead tag n => exact request_keepsBayLaw _ _ law (law.machineRead n)
  | machineWrite tag f => exact request_keepsBayLaw _ _ law (law.machineWrite f)
  | patternLoad tag f => exact request_keepsBayLaw _ _ law (law.patternLoad f)
  | groupApply tag f => exact request_keepsBayLaw _ _ law (law.groupApply f)
  | journalRead tag f => exact request_keepsBayLaw _ _ law (law.journalRead f)
  | journalStop tag => exact request_keepsBayLaw _ _ law law
  | journalAck tag n => exact request_keepsBayLaw _ _ law (law.journalAck n)
  | bayArm tag => exact request_keepsBayLaw _ _ law law.bayArm
  | bayDisarm tag => exact request_keepsBayLaw _ _ law law.bayDisarm
  | bayShutdown tag => exact request_keepsBayLaw _ _ law (law.serveRequest .bayShutdown)
  | bayClear tag n => exact request_keepsBayLaw _ _ law (law.bayClear n)
  | pumpReset tag n => exact request_keepsBayLaw _ _ law (law.pumpReset n)
  | status tag n => exact request_keepsBayLaw _ _ law (law.status n)
  | reportNow tag => exact request_keepsBayLaw _ _ law (law.serveRequest .reportNow)
  | reportRead tag f => exact request_keepsBayLaw _ _ law (law.reportRead f)
  | unknownKind tag kind body => exact request_keepsBayLaw _ _ law law
  | malformed tag kind body => exact request_keepsBayLaw _ _ law law
  | frameReceived bytes => exact event_keepsBayLaw _ law (law.frameCompletes bytes)
  | frameGap => exact event_keepsBayLaw _ law (law.modLink _)
  | frameSent => exact event_keepsBayLaw _ law law.frameSent
  | hostByteReceived byte => exact event_keepsBayLaw _ law (law.hostByteReceived byte)
  | pulse lane => exact quiet _ (State.modLane_bayQuiet lane countPulse s id)
  | sample lane => exact event_keepsBayLaw _ law (law.sample lane)
  | nozzleLift lane => exact event_keepsBayLaw _ law (law.nozzleLift lane)
  | nozzleHangup lane => exact event_keepsBayLaw _ law (law.nozzleHangup lane)
  | authorisationExpiry lane => exact event_keepsBayLaw _ law (law.authorisationExpiry lane)
  | maxOpenExpiry lane => exact event_keepsBayLaw _ law (law.maxOpenExpiry lane)
  | closeLimitExpiry lane => exact event_keepsBayLaw _ law (law.closeLimitExpiry lane)
  | creepWindowExpiry lane => exact event_keepsBayLaw _ law (law.creepWindowExpiry lane)
  | grantTaken lane => exact quiet _ (grantTaken_bayQuiet lane s)
  | pumpEnding lane => exact event_keepsBayLaw _ law (law.pumpEnding lane)
  | tankLowEnding lane => exact event_keepsBayLaw _ law (law.tankLowEnding lane)
  | proveChange header active => exact event_keepsBayLaw _ law (law.proveChange header active)
  | provingTimerExpiry header => exact event_keepsBayLaw _ law (law.provingTimerExpiry header)
  | runonExpiry header => exact event_keepsBayLaw _ law (law.runonExpiry header)
  | staggerElapsed => exact event_keepsBayLaw _ law law.staggerElapsed
  | roundDue => exact quiet _ s.roundFallsDue_bayQuiet
  | gaugePollSent => exact quiet _ State.bayQuiet_of_frame
  | gaugeReply bytes => exact event_keepsBayLaw _ law (law.gaugeReply bytes)
  | replyTimerExpiry => exact quiet _ (replyTimerExpiry_bayQuiet s)
  | sumpActive sump active => exact event_keepsBayLaw _ law (law.sumpActive sump active)
  | pressBegin => exact quiet _ (pressBegin_bayQuiet s)
  | pressRelease lengthMs => exact event_keepsBayLaw _ law (law.pressRelease lengthMs)
  | longPress => exact event_keepsBayLaw _ law law.longPress
  | valveFailureReport lane => exact event_keepsBayLaw _ law (law.valveFailureReport lane)
  | creepReport lane => exact event_keepsBayLaw _ law (law.creepReport lane)
  | closingReport lane => exact event_keepsBayLaw _ law (law.closingReport lane)
  | keyTurn => exact event_keepsBayLaw _ law law.keyTurn
  | keySeenHigh => exact quiet _ (State.modShutdown_bayQuiet _ s rfl rfl)
  | boundary => exact quiet _ (boundary_bayQuiet s)
  | powerLoss =>
    refine keepsBayLaw_next ?_
    split
    · exact law
    · exact (State.goDark_bayQuiet _ s).keeps law
  | resetAssert =>
    refine keepsBayLaw_next ?_
    split
    · exact (State.goDark_bayQuiet _ s).keeps law
    · exact law
  | vbatLoss =>
    refine keepsBayLaw_next ?_
    split
    · exact law.unmoved
    · exact law
  | coldStart pins => exact keepsBayLaw_next (law.start pins)
  | warmStart pins => exact keepsBayLaw_next (law.start pins)
  | clockSecond =>
    refine keepsBayLaw_next ?_
    split
    · exact law.unmoved
    · split
      · exact law.unmoved
      · exact law

/-- A step keeps the bay's law. -/
theorem step_keepsBayLaw {s : State} (law : s.bayLaw) : keepsBayLaw (step s) := by
  unfold step
  split
  · exact keepsBayLaw_next law
  · exact exec_keepsBayLaw _ law.unmoved

/-! ## The outputs -/

theorem Lane.valve_of_not_inHand {l : Lane} (h : l.state.inHand = false) : l.valve = .closed := by
  have demand : l.stageDemand = .closed := by
    unfold Lane.stageDemand
    cases hs : l.state
    case flowing | trimming => rw [hs] at h; cases h
    all_goals rfl
  unfold Lane.valve
  rw [demand]

/-- Under the bay's law no output is driven while the bay is not ARMED (07 R147; 10 R200). -/
theorem State.bayLaw.released {s : State} (law : s.bayLaw) (barred : s.shutdown.bay ≠ .armed) :
    (∀ i, s.valveOutput i = .closed) ∧ (∀ h, s.pumpOutput h = false) ∧ ∀ k, s.inletOutput k = false := by
  obtain ⟨-, lanes, units, -⟩ := law
  refine ⟨fun i => ?_, fun h => ?_, fun k => ?_⟩
  · unfold State.valveOutput
    rw [Lane.valve_of_not_inHand (lanes barred i)]
    split <;> rfl
  · unfold State.pumpOutput
    rcases (units barred).1 h with p | p <;> simp [p]
  · unfold State.inletOutput
    rw [(units barred).2 k, Bool.and_false]

end Sys2Proof.Machine

namespace Sys2Proof
open Sys2Proof.Machine

/-- Settles O57: each command's meaning keeps the bay's law, and under the law nothing is driven outside ARMED. -/
theorem bayLawIsKept : Obligations.BayLawIsKept := by
  intro s t law next
  have kept : t.bayLaw := step_keepsBayLaw law t next
  exact ⟨kept, kept.released⟩

end Sys2Proof
end

section
/-! PROOFS. The lane's record, the effective preset and the queries (O8, O16, O20). -/
namespace Sys2Proof.Machine

/-! ## Operands out of range -/

theorem eightNumber_eq_none {n : Nat} (h : 7 < n) : eightNumber n = none := by
  unfold eightNumber
  rw [dif_neg (by omega)]

theorem sixNumber_eq_none {n : Nat} (h : 5 < n) : sixNumber n = none := by
  unfold sixNumber
  rw [dif_neg (by omega)]

theorem machineNumber_eq_none {n : Nat} (h : 511 < n) : machineNumber n = none := by
  unfold machineNumber
  rw [dif_neg (by omega)]

theorem productCode_eq_none {n : Nat} (h : 5 < n) (h' : n ≠ 255) : productCode n = none := by
  unfold productCode
  rw [if_neg h', sixNumber_eq_none h, Option.map_none]

theorem curveCode_eq_none {n : Nat} (h : n = 0 ∨ (6 < n ∧ n ≠ 255)) : curveCode n = none := by
  unfold curveCode
  rcases h with rfl | ⟨h, h'⟩
  · rfl
  · rw [if_neg h', if_pos (by omega), sixNumber_eq_none (by omega), Option.map_none]

/-- The fields of a LANE-SET within the ranges of 01 R2. -/
theorem readLaneRecord_of_ranges (f : LaneFields) (product : Option (Fin 6)) (curve : CurveSource)
    (hp : f.product = indexCode product) (hc : f.curveSource = curve.code) (k1 : 10 ≤ f.kFactor)
    (k2 : f.kFactor ≤ 2000) (t1 : -20000 ≤ f.spanTrim) (t2 : f.spanTrim ≤ 20000)
    (hw : f.window = 4 ∨ f.window = 8 ∨ f.window = 16) :
    readLaneRecord f = some { product := product, kFactor := f.kFactor, curve := curve, spanTrim := f.spanTrim
                              window := f.window } := by
  unfold readLaneRecord
  rw [hp, hc, productCode_indexCode, curveCode_code]
  exact if_pos ⟨k1, k2, t1, t2, hw⟩

/-- A LANE-SET field out of the ranges of 01 R2 leaves no record. -/
theorem readLaneRecord_eq_none (f : LaneFields)
    (h : (5 < f.product ∧ f.product ≠ 255) ∨ f.kFactor < 10 ∨ 2000 < f.kFactor ∨ f.curveSource = 0
      ∨ (6 < f.curveSource ∧ f.curveSource ≠ 255) ∨ f.spanTrim < -20000 ∨ 20000 < f.spanTrim
      ∨ (f.window ≠ 4 ∧ f.window ≠ 8 ∧ f.window ≠ 16)) : readLaneRecord f = none := by
  unfold readLaneRecord
  rcases h with ⟨h, h'⟩ | h
  · rw [productCode_eq_none h h']
  · split
    · rename_i hc
      refine if_neg fun c => ?_
      obtain ⟨k1, k2, t1, t2, hw⟩ := c
      rcases h with h | h | h | h | h | h | h
      · omega
      · omega
      · rw [curveCode_eq_none (Or.inl h)] at hc; cases hc
      · rw [curveCode_eq_none (Or.inr h)] at hc; cases hc
      · omega
      · omega
      · omega
    · rfl

/-! ## What the queries show -/

/-- The valve output by state, stage and grant (01 R5). -/
theorem Lane.valve_eq (l : Lane) : l.valve =
    if l.grant = .hold then .closed
    else if l.state = .flowing ∧ l.stage = some .main ∧ l.grant = .full then .full
    else if l.state = .flowing ∨ l.state = .trimming then .slow
    else .closed := by
  unfold Lane.valve Lane.stageDemand
  cases l.state
  case flowing => by_cases m : l.stage = some .main <;> cases l.grant <;> simp [m]
  case trimming => cases l.grant <;> simp
  all_goals cases l.grant <;> simp

theorem showIf_eq {α : Type} {b : Bool} {p : Prop} [Decidable p] (h : b = true ↔ p) (a : α) :
    showIf b a = if p then some a else none := by
  unfold showIf
  by_cases hb : b = true
  · rw [if_pos hb, if_pos (h.1 hb)]
  · rw [if_neg hb, if_neg fun c => hb (h.2 c)]

/-- A lane out of IDLE holds a reservation or is DONE. -/
theorem LaneState.named_iff (l : LaneState) : (l.holdsReservation || l == .done) = true ↔ l ≠ .idle := by
  cases l <;> decide

/-- A lane out of IDLE and AUTHORISED is metered or DONE. -/
theorem LaneState.metered_or_done_iff (l : LaneState) :
    (l.metered || l == .done) = true ↔ l ≠ .idle ∧ l ≠ .authorised := by
  cases l <;> decide

theorem LaneState.metered_iff (l : LaneState) : l.metered = true ↔ (l ≠ .idle ∧ l ≠ .authorised) ∧ l ≠ .done := by
  cases l <;> decide

/-- What is left of a timer is its seconds left, to within one (log 4). -/
theorem Timer.left_near (t : Timer) (elapsed : Nat) (phase : Bool) :
    t.left elapsed phase ≤ t.start + t.seconds - elapsed
      ∧ t.start + t.seconds - elapsed ≤ t.left elapsed phase + 1 := by
  unfold Timer.left
  have := phase.toNat_le
  omega

end Sys2Proof.Machine

namespace Sys2Proof
open Sys2Proof.Machine

/-- Settles O16: the cases of the table are the branches of the effective preset. -/
theorem effectivePresetTable : Obligations.EffectivePresetTable := by
  intro requested capacity maxFill
  unfold effectivePreset
  refine ⟨fun h => by simp [h], by simp, by simp, fun h => ?_, fun _ => rfl⟩
  have requested_ne : requested ≠ 0 := by omega
  exact ⟨fun h => by simp [requested_ne, h], by simp [requested_ne], by simp [requested_ne]⟩

/-- Settles O8: a LANE-SET within its ranges is read as its record; any other is read as none. -/
theorem laneSetReplacesRecord : Obligations.LaneSetReplacesRecord := by
  refine ⟨fun tag f s i product curve ready hl hp hc k1 k2 t1 t2 hw => ?_, fun tag f s ready h => ?_⟩
  · have read := readLaneRecord_of_ranges f product curve hp hc k1 k2 t1 t2 hw
    refine ⟨fun idle => ?_, fun busy => ?_⟩
    · refine event_request_exact ready _ _ _ _ ready.1 ?_
      unfold laneSet
      rw [hl, eightNumber_val, read]
      dsimp only
      rw [if_neg (not_not.2 idle)]
      cases product <;> rfl
    · refine event_request_exact ready _ _ _ _ ready.1 ?_
      unfold laneSet
      rw [hl, eightNumber_val, read]
      exact if_pos busy
  · refine event_request_exact ready _ _ _ _ ready.1 ?_
    unfold laneSet
    rcases h with h | h
    · rw [eightNumber_eq_none h]
      rfl
    · rw [readLaneRecord_eq_none f h]
      cases eightNumber f.lane <;> rfl

end Sys2Proof
end

section
/-! PROOFS. The queries answer what the part holds and change nothing of it (O20). -/
namespace Sys2Proof.Machine

/-- The seconds left that LANE-QUERY shows in some states (log 4): none in the others, and within one where shown. -/
theorem State.timerLeft_shown (s : State) (shows : Bool) (o : Option Timer) :
    (shows = false ∨ o = none → (if shows then s.timerLeft o else none) = none)
      ∧ ∀ t, shows = true → o = some t → ∃ n, (if shows then s.timerLeft o else none) = some n
        ∧ n ≤ t.start + t.seconds - s.elapsed ∧ t.start + t.seconds - s.elapsed ≤ n + 1 := by
  refine ⟨fun h => ?_, fun t h ht => ?_⟩
  · rcases h with rfl | rfl
    · rfl
    · cases shows <;> rfl
  · subst h ht
    exact ⟨t.left s.elapsed (s.phase 0), rfl, t.left_near _ _⟩

/-- What LANE-QUERY shows, field by field (01 R33). -/
theorem State.laneView_eq (s : State) (i : Fin 8) :
    let l := s.lane i
    let d := l.delivery
    let named := l.state ≠ .idle
    let metered := l.state ≠ .idle ∧ l.state ≠ .authorised
    s.laneView i =
      { state := l.state
        stage := if metered ∧ l.state ≠ .done then l.stage else none
        nozzleOut := l.nozzleOut
        valve :=
          if l.grant = .hold then .closed
          else if l.state = .flowing ∧ l.stage = some .main ∧ l.grant = .full then .full
          else if l.state = .flowing ∨ l.state = .trimming then .slow
          else .closed
        grant := l.grant
        machine := if named then some d.machine.val else none
        operator := if named then some d.operator else none
        preset := if named then some d.preset else none
        authTime := if named then some d.authTime else none
        gross := if metered then some d.gross else none
        net := if metered then some d.net else none
        peak := if metered then some d.peak else none
        rate := if metered then some d.rate else none
        firstFlow := if named then d.firstFlow else none
        endCause := if l.state = .closing ∨ l.state = .done then d.endCause else none
        flags := if named then some d.flags else none
        authLeft := if l.state == .authorised then s.timerLeft l.authTimer else none
        openLeft := if l.state.demands then s.timerLeft l.maxOpen else none
        creep := if l.record.product = none then none else some l.creepCount
        record := l.record
        seq := if l.state = .done then d.seq else none } := by
  intro l d named metered
  have creep : showIf l.record.product.isSome l.creepCount
      = if l.record.product = none then none else some l.creepCount := by
    cases l.record.product <;> rfl
  have named' : l.state.holdsReservation = true ∨ l.state = .done ↔ l.state ≠ .idle := by
    rw [← LaneState.named_iff, Bool.or_eq_true, beq_iff_eq]
  unfold State.laneView
  simp only [showIf_eq (LaneState.named_iff _), showIf_eq (LaneState.metered_or_done_iff _), LaneState.metered_iff,
    ← Lane.valve_eq, Bool.or_eq_true, beq_iff_eq, creep, named', l, d, named, metered]

/-- What TANK-QUERY shows, field by field (04 R105). -/
theorem State.tankView_eq (s : State) (t : Fin 8) :
    let k := s.tank t
    s.tankView t =
      { record := k.record
        configured := decide (k.record.product ≠ none ∧ k.record.address ≠ none ∧ k.table ≠ none)
        points := (k.table.map List.length).getD 0
        status := k.status, fails := k.fails, held := k.held, sincePoll := k.sincePoll
        estimate := k.held.map fun h => h.net - (k.sincePoll : Int)
        band := k.band, book := k.book, bookSaturated := k.bookSaturated, dispensed := k.dispensed
        opening := k.opening, periodDispensed := k.periodDispensed, periodReceipts := k.periodReceipts
        lostDuring := k.lostDuring, overfillStop := k.overfillStop, leak := k.leak, highHigh := k.highHigh
        watch := k.watch, receipt := k.receipt
        inlet := decide (∃ r ∈ k.receipt, r.state = .opened)
        lastReceipt := k.lastReceipt
        queued := decide (t ∈ s.bus.queue)
        outstanding := decide (∃ p ∈ s.bus.poll, p.tank = t) } := by
  intro k
  have configured : k.configured = decide (k.record.product ≠ none ∧ k.record.address ≠ none ∧ k.table ≠ none) := by
    unfold Tank.configured
    cases k.record.product <;> cases k.record.address <;> cases k.table <;> rfl
  have points : (k.table.getD []).length = (k.table.map List.length).getD 0 := by cases k.table <;> rfl
  have inlet : k.inlet = decide (∃ r ∈ k.receipt, r.state = .opened) := by
    unfold Tank.inlet
    cases k.receipt with
    | none => simp
    | some r => cases hr : r.state <;> simp [hr]
  have outstanding : s.bus.poll.any (fun p => p.tank == t) = decide (∃ p ∈ s.bus.poll, p.tank = t) := by
    cases s.bus.poll with
    | none => simp
    | some p => by_cases h : p.tank = t <;> simp [h]
  unfold State.tankView
  dsimp only
  rw [show s.tank t = k from rfl, configured, points, inlet, outstanding, List.contains_eq_mem]
  rfl

/-- REPORT-READ names a part and a number in range (08 R183). -/
theorem reportRange_iff (f : ReportReadFields) : reportRange f = true ↔ f.part = 0 ∨ f.part ≤ 2 ∧ f.number ≤ 7 := by
  have number : (eightNumber f.number).isSome = true ↔ f.number ≤ 7 := by
    unfold eightNumber
    by_cases h : f.number < 8
    · rw [dif_pos h]; simp; omega
    · rw [dif_neg h]; simp; omega
  unfold reportRange
  simp only [Bool.or_eq_true, Bool.and_eq_true, beq_iff_eq, number]
  omega

end Sys2Proof.Machine

namespace Sys2Proof
open Sys2Proof.Machine

/-- Settles O20: each query's answer is its view, field by field, and its owner hands the part back. -/
theorem queriesChangeNothing : Obligations.QueriesChangeNothing := by
  refine ⟨fun tag i s ready => ?_, fun tag t s ready => ?_, fun tag n s ready hn => ⟨?_, ?_⟩,
    fun tag f s r ready held => ⟨fun part => ?_, fun t part number => ?_, fun i part number => ?_⟩,
    fun tag f s ready => ⟨fun out => ?_, fun inRange none => ?_⟩⟩
  · obtain ⟨auth, auth'⟩ := s.timerLeft_shown ((s.lane i).state == .authorised) (s.lane i).authTimer
    obtain ⟨opens, opens'⟩ := s.timerLeft_shown (s.lane i).state.demands (s.lane i).maxOpen
    refine ⟨_, _, event_request_exact ready _ _ _ _ ready.1 ?_, fun h => auth ?_, fun t h => auth' t (by simp [h]),
      opens, opens'⟩
    · unfold laneQuery
      rw [eightNumber_val, ← s.laneView_eq i]
      rfl
    · simpa using h
  · refine event_request_exact ready _ _ _ _ ready.1 ?_
    unfold tankQuery
    rw [eightNumber_val, ← s.tankView_eq t]
    rfl
  · refine event_request_exact ready _ _ _ _ ready.1 ?_
    unfold laneQuery
    rw [eightNumber_eq_none hn]
    rfl
  · refine event_request_exact ready _ _ _ _ ready.1 ?_
    unfold tankQuery
    rw [eightNumber_eq_none hn]
    rfl
  · refine event_request_exact ready _ _ _ _ ready.1 ?_
    unfold reportRead reportPart
    rw [if_pos ((reportRange_iff f).2 (Or.inl part)), held, part]
    rfl
  · refine event_request_exact ready _ _ _ _ ready.1 ?_
    unfold reportRead reportPart
    rw [if_pos ((reportRange_iff f).2 (Or.inr ⟨by omega, by omega⟩)), held, part, number, eightNumber_val]
    rfl
  · refine event_request_exact ready _ _ _ _ ready.1 ?_
    unfold reportRead reportPart
    rw [if_pos ((reportRange_iff f).2 (Or.inr ⟨by omega, by omega⟩)), held, part, number, eightNumber_val]
    rfl
  · refine event_request_exact ready _ _ _ _ ready.1 ?_
    unfold reportRead
    rw [if_neg fun c => ?_]
    · rfl
    · rw [reportRange_iff] at c
      omega
  · refine event_request_exact ready _ _ _ _ ready.1 ?_
    unfold reportRead
    rw [if_pos ((reportRange_iff f).2 inRange), none]
    rfl

end Sys2Proof
end

section
/-! PROOFS. Authorisation: its checks in order, the delivery it takes, and CANCEL (O17, O18, O19). -/
namespace Sys2Proof.Machine

/-! ## The operands of AUTHORISE -/

theorem readAuthorise_of_ranges (f : AuthoriseFields) (i : Fin 8) (m : Fin 512) (service : Bool)
    (hl : f.lane = i.val) (hm : f.machine = m.val) (hs : f.serviceFlag = service.toNat)
    (hh : ∀ h, f.hourReading = some h → h ≤ 9999999) : readAuthorise f = some ⟨i, m, service⟩ := by
  have hours : f.hourReading.all (· ≤ 9999999) = true := by
    cases h : f.hourReading with
    | none => rfl
    | some n => simpa using hh n h
  unfold readAuthorise
  rw [hl, hm, hs, eightNumber_val, machineNumber_val, flagCode_toNat]
  exact if_pos hours

theorem readAuthorise_eq_none (f : AuthoriseFields)
    (h : 7 < f.lane ∨ 511 < f.machine ∨ ∃ n, f.hourReading = some n ∧ 9999999 < n) : readAuthorise f = none := by
  unfold readAuthorise
  rcases h with h | h | ⟨n, hn, h⟩
  · rw [eightNumber_eq_none h]
  · rw [machineNumber_eq_none h]
    split
    · rename_i c _; cases c
    · rfl
  · split
    · rw [hn]
      exact if_neg (by simpa using h)
    · rfl

/-! ## The lane, its product and its tank -/

theorem State.configuredLane_eq_some {s : State} {i : Fin 8} {p : Fin 6} {t : Fin 8}
    (hp : (s.lane i).record.product = some p) (ht : s.feedTank p = some t)
    (hc : (s.lane i).record.curve = .lane → (s.lane i).curve ≠ none) : s.configuredLane i = some (p, t) := by
  unfold State.configuredLane
  rw [hp]
  dsimp only
  rw [ht]
  dsimp only
  split
  · rename_i source absent
    exact absurd absent (hc source)
  · rfl

theorem State.configuredLane_eq_none {s : State} {i : Fin 8}
    (h : (s.lane i).record.product = none
      ∨ (∃ p, (s.lane i).record.product = some p ∧ s.feedTank p = none)
      ∨ ((s.lane i).record.curve = .lane ∧ (s.lane i).curve = none)) : s.configuredLane i = none := by
  unfold State.configuredLane
  rcases h with h | ⟨p, hp, ht⟩ | ⟨source, absent⟩
  · rw [h]
  · rw [hp]
    dsimp only
    rw [ht]
  · rw [source, absent]
    cases (s.lane i).record.product with
    | none => rfl
    | some p =>
      dsimp only
      cases s.feedTank p <;> rfl

/-! ## The machine's checks (05 R108, R109) -/

/-- The machine is engaged on the product: a lane of it holds a reservation for the machine (05 R109). -/
theorem State.engagedLanes_any (s : State) (m : Fin 512) (p : Fin 6) :
    (s.engagedLanes m).any (fun e => e.1 == p) = true ↔
      ∃ j, (s.lane j).record.product = some p ∧ (s.lane j).state.holdsReservation = true
        ∧ (s.lane j).delivery.machine = m := by
  unfold State.engagedLanes State.laneOn
  simp only [List.any_eq_true, List.mem_flatMap, List.mem_map, List.mem_filter, Bool.and_eq_true, beq_iff_eq]
  constructor
  · rintro ⟨_, ⟨q, -, j, ⟨-, ⟨⟨hq, hr⟩, hm⟩⟩, rfl⟩, rfl⟩
    exact ⟨j, hq, hr, hm⟩
  · rintro ⟨j, hq, hr, hm⟩
    exact ⟨(p, j), ⟨p, mem_sixNumbers p, j, ⟨mem_eightNumbers j, ⟨hq, hr⟩, hm⟩, rfl⟩, rfl⟩

theorem State.machineCheck_not_active {s : State} {m : Fin 512} (p : Fin 6) :
    ((s.machine m).status = .vacant → s.machineCheck m p = some .machineVacant)
      ∧ ((s.machine m).status = .barred → s.machineCheck m p = some .machineBarred) := by
  unfold State.machineCheck
  exact ⟨fun h => by rw [h], fun h => by rw [h]⟩

theorem State.machineCheck_active {s : State} {m : Fin 512} (p : Fin 6) (active : (s.machine m).status = .active) :
    s.machineCheck m p =
      if (s.machine m).permitted.getLsbD p.val = false then some .notPermitted
      else if ∃ j, (s.lane j).record.product = some p ∧ (s.lane j).state.holdsReservation = true
        ∧ (s.lane j).delivery.machine = m then some .engaged
      else none := by
  unfold State.machineCheck
  rw [active]
  dsimp only
  simp only [← State.engagedLanes_any, Bool.not_eq_true']

/-! ## The journal place and the stock -/

theorem Journal.free_eq_zero_iff (j : Journal) : j.free = 0 ↔ 2048 ≤ j.held + j.reserved := by
  unfold Journal.free
  omega

/-- The stock check of a tank whose gauge gives an estimate (01 R9 order 9). -/
theorem Tank.stockCheck_of_held {k : Tank} {held : HeldReading} (hs : k.status = .good ∨ k.status = .stale)
    (hh : k.held = some held) :
    k.stockCheck = if held.net - (k.sincePoll : Int) ≤ (k.record.cutOff : Int) then some .tankLow else none := by
  unfold Tank.stockCheck Tank.estimate
  rcases hs with hs | hs <;> rw [hs, hh] <;> rfl

/-! ## The checks in order (01 R9) -/

section
variable {f : AuthoriseFields} {o : AuthoriseOperands} {s : State}

theorem checkAuthorise_unarmed (h : s.shutdown.bay ≠ .armed) : checkAuthorise f o s = (refuse .bayState, s) := by
  unfold checkAuthorise
  exact if_pos h

theorem checkAuthorise_busy (bay : s.shutdown.bay = .armed) (h : (s.lane o.lane).state ≠ .idle) :
    checkAuthorise f o s = (refuse .laneBusy, s) := by
  unfold checkAuthorise
  rw [if_neg (not_not.2 bay)]
  exact if_pos h

theorem checkAuthorise_unconfigured (bay : s.shutdown.bay = .armed) (idle : (s.lane o.lane).state = .idle)
    (h : s.configuredLane o.lane = none) : checkAuthorise f o s = (refuse .notConfigured, s) := by
  unfold checkAuthorise
  rw [if_neg (not_not.2 bay), if_neg (not_not.2 idle), h]

/-- The checks of an AUTHORISE on an IDLE, configured lane of an ARMED bay, from the header's on (01 R9). -/
theorem checkAuthorise_configured {p : Fin 6} {t : Fin 8} (bay : s.shutdown.bay = .armed)
    (idle : (s.lane o.lane).state = .idle) (h : s.configuredLane o.lane = some (p, t)) :
    checkAuthorise f o s =
      if (s.header p).pump = .failed then (refuse .headerFailed, s)
      else match s.machineCheck o.machine p with
        | some st => (refuse st, s)
        | none =>
          if f.preset ≠ 0 ∧ f.preset < 100 then (refuse .range, s)
          else if s.journal.free = 0 then (refuse .journalFull, s)
          else match (s.tank t).stockCheck with
            | some st => (refuse st, s.useReading t)
            | none => acceptAuthorise f o p t s := by
  unfold checkAuthorise
  rw [if_neg (not_not.2 bay), if_neg (not_not.2 idle), h] <;> rfl

/-- The stock checks, reached by an AUTHORISE that passes every check before them. -/
theorem checkAuthorise_stock {p : Fin 6} {t : Fin 8} (bay : s.shutdown.bay = .armed)
    (idle : (s.lane o.lane).state = .idle) (h : s.configuredLane o.lane = some (p, t))
    (pump : (s.header p).pump ≠ .failed) (machine : s.machineCheck o.machine p = none)
    (preset : f.preset = 0 ∨ 100 ≤ f.preset) (place : s.journal.held + s.journal.reserved < 2048) :
    checkAuthorise f o s = match (s.tank t).stockCheck with
      | some st => (refuse st, s.useReading t)
      | none => acceptAuthorise f o p t s := by
  have free : s.journal.free ≠ 0 := fun c => by rw [Journal.free_eq_zero_iff] at c; omega
  rw [checkAuthorise_configured bay idle h, if_neg pump, machine]
  dsimp only
  rw [if_neg (by omega), if_neg free]
end

/-- A reading whose use marks nothing leaves the part as it is (04 R88). -/
theorem State.useReading_of_not_first {s : State} {t : Fin 8}
    (h : (s.tank t).status ≠ .lost ∨ (s.tank t).noticed = true) : s.useReading t = s := by
  unfold State.useReading
  refine if_neg fun c => ?_
  rcases h with h | h
  · exact h c.1
  · rw [h] at c; cases c.2

/-- A use of a LOST gauge's reading marks the tank and raises GAUGE-LOST at the first of its episode (04 R88). -/
theorem State.useReading_of_lost {s : State} {t : Fin 8} (lost : (s.tank t).status = .lost) :
    s.useReading t = { s with tanks := s.tanks.set t { s.tank t with noticed := true }
                              link := s.linkRaising ((s.tank t).useNotice t) } := by
  have used : (s.tank t).used = { s.tank t with noticed := true } := by
    have marked : ((s.tank t).noticed || (s.tank t).status == .lost) = true := by
      rw [lost]; exact Bool.or_true _
    unfold Tank.used
    rw [marked]
  rw [State.useReading_used, used]

/-! ## Hour processing (05 R110 to R115) -/

/-- What hour processing makes of a machine's record and of the link. -/
theorem State.hourProcessing_eq (m : Fin 512) (i : Fin 8) (reading : Option Nat) (s : State) :
    let t := hourSteps s.period.clock s.period.clockSet s.period.number reading (s.machine m)
    let interval := t.record.serviceInterval
    let since := t.record.hoursSinceService
    let due := decide (0 < interval ∧ interval ≤ since)
    let overdue := decide (0 < interval ∧ interval ≤ since ∧ interval * 11 / 10 ≤ since)
    s.hourProcessing m i reading = (⟨t.accrued, t.backward, t.jump, due, overdue⟩,
      { s with machines := s.machines.set m { t.record with overdue := t.record.overdue || overdue }
               link := s.linkRaising
                 (if overdue = true ∧ t.record.overdue = false then [.serviceOverdue m i since interval]
                  else []) }) := by
  intro t interval since due overdue
  have due_eq : serviceDueFlag interval since = due := by
    unfold serviceDueFlag; rw [← Bool.decide_and]
  have overdue_eq : serviceOverdueFlag interval since = overdue := by
    unfold serviceOverdueFlag; rw [← Bool.decide_and, ← Bool.decide_and, decide_eq_decide]; tauto
  unfold State.hourProcessing
  rw [show s.now = s.period.clock from rfl]
  dsimp only
  rw [due_eq, overdue_eq]
  rw [show hourSteps s.period.clock s.period.clockSet s.period.number reading (s.machine m) = t from rfl]
  by_cases found : overdue = true ∧ t.record.overdue = false
  · rw [if_pos (by rw [found.1, found.2]; rfl), if_pos found, found.1, Bool.or_true, State.notify_linkRaising]
    rfl
  · have mark : (t.record.overdue || overdue) = t.record.overdue := by
      cases hm : t.record.overdue
      · exact Bool.eq_false_iff.2 fun c => found ⟨c, hm⟩
      · rfl
    rw [if_neg (by simpa using found), if_neg found, mark]
    rfl

/-- Steps 1 to 3 of hour processing, by the reading (05 R110 to R113). -/
theorem hourSteps_eq (clock : Nat) (clockSet : Bool) (period : Nat) (reading : Option Nat) (r : MachineRecord) :
    let rolled := r.roll period
    let step : ReadingResult := match reading with
      | none => ⟨0, false, false, rolled⟩
      | some h => readingStep clock clockSet h rolled
    hourSteps clock clockSet period reading r =
      { step with
        record :=
          if reading = none then rolled
          else
            { step.record with
              hoursSinceBurn := min 9999999 (step.record.hoursSinceBurn + step.accrued)
              hoursSinceService := min 9999999 (step.record.hoursSinceService + step.accrued)
              periodHours := min 9999999 (step.record.periodHours + step.accrued) } } := by
  cases reading <;> rfl

/-- The low-band flag of an estimate above the cut-off (01 R12). -/
theorem TankRecord.bandOf_eq_lowBand (r : TankRecord) (e : Int) (above : (r.cutOff : Int) < e) :
    (r.bandOf (some e) == .lowBand) = decide (e ≤ r.cutOff + r.lowBand) := by
  unfold TankRecord.bandOf
  dsimp only
  rw [if_neg (by omega)]
  by_cases h : e ≤ (r.cutOff : Int) + r.lowBand
  · rw [if_pos h, decide_eq_true h]; rfl
  · rw [if_neg h, decide_eq_false h]; rfl

/-! ## CANCEL (01 R14) -/

/-- A lane that demands is in CLOSING once it has been closed. -/
theorem State.closeLane_state {s : State} {i : Fin 8} (cause : EndCause) (h : (s.lane i).state.demands = true) :
    ((s.closeLane i cause).lane i).state = .closing := by
  have core : ((s.closeCore i cause).lane i).state = .closing := by
    show ((s.modLane i (Lane.enterClosing cause (s.startTimer 5))).lane i).state = .closing
    rw [State.lane_modLane_same]
    rfl
  unfold State.closeLane State.laneDemandLeft
  rw [if_pos h]
  split
  · rw [((State.demandLeft_headerMoved _ _).lanes i).state_eq, core]
  · exact core

end Sys2Proof.Machine

namespace Sys2Proof
open Sys2Proof.Machine

/-- Settles O18: each refusal is the first failing branch of the ordered checks. -/
theorem authoriseChecksInOrder : Obligations.AuthoriseChecksInOrder := by
  refine ⟨fun tag f s ready out => ?_, fun tag f s i m service ready hl hm hs hh => ?_⟩
  · refine event_request_exact ready _ _ _ _ ready.1 ?_
    unfold authorise
    rw [readAuthorise_eq_none f out]
    rfl
  · have answers : ∀ (st : Status) (u : State), u.power = .running →
        checkAuthorise f ⟨i, m, service⟩ s = (refuse st, u) →
        exec (.authorise tag f) s = u.answers 0x10 tag ⟨st, .empty⟩ := by
      intro st u running check
      refine event_request_exact ready _ _ _ _ running ?_
      unfold authorise
      rw [readAuthorise_of_ranges f i m service hl hm hs hh]
      exact check
    refine ⟨fun bay => answers _ _ ready.1 (checkAuthorise_unarmed bay), fun bay => ⟨fun busy =>
      answers _ _ ready.1 (checkAuthorise_busy bay busy), fun idle => ⟨fun none => answers _ _ ready.1
        (checkAuthorise_unconfigured bay idle (State.configuredLane_eq_none none)), fun p t hp ht hc => ?_⟩⟩⟩
    have configured := State.configuredLane_eq_some hp ht hc
    have checks := checkAuthorise_configured (f := f) (o := ⟨i, m, service⟩) bay idle configured
    refine ⟨fun failed => answers _ _ ready.1 ?_, fun pump => ⟨fun vacant => answers _ _ ready.1 ?_,
      fun barred => answers _ _ ready.1 ?_, fun active => ?_⟩⟩
    · rw [checks, if_pos failed]
    · rw [checks, if_neg pump, (State.machineCheck_not_active p).1 vacant]
    · rw [checks, if_neg pump, (State.machineCheck_not_active p).2 barred]
    have machine := State.machineCheck_active p active
    refine ⟨fun forbidden => answers _ _ ready.1 ?_, fun permitted => ⟨fun engaged => answers _ _ ready.1 ?_,
      fun free => ?_⟩⟩
    · rw [checks, if_neg pump, machine, if_pos forbidden]
    · rw [checks, if_neg pump, machine, if_neg (by simp [permitted]), if_pos engaged]
    have passes : s.machineCheck m p = none := by
      rw [machine, if_neg (by simp [permitted]), if_neg]
      rintro ⟨j, h1, h2, h3⟩
      exact free j h1 h2 h3
    refine ⟨fun low => answers _ _ ready.1 ?_, fun preset => ⟨fun full => answers _ _ ready.1 ?_, fun place => ?_⟩⟩
    · rw [checks, if_neg pump, passes]
      exact if_pos ⟨by omega, low.2⟩
    · rw [checks, if_neg pump, passes]
      dsimp only
      rw [if_neg (by omega), if_pos ((Journal.free_eq_zero_iff _).2 full)]
    have stock := checkAuthorise_stock (o := ⟨i, m, service⟩) bay idle configured pump passes preset place
    refine ⟨fun unpolled => answers _ _ ready.1 ?_, fun lost noticed => answers _ _ ready.1 ?_,
      fun lost _ => answers _ _ ready.1 ?_, fun held status hh low => answers _ _ ready.1 ?_⟩
    · rw [stock, show (s.tank t).stockCheck = some .gaugeUnpolled by unfold Tank.stockCheck; rw [unpolled]]
      exact congrArg _ (State.useReading_of_not_first (Or.inl (by rw [unpolled]; simp)))
    · rw [stock, show (s.tank t).stockCheck = some .gaugeLost by unfold Tank.stockCheck; rw [lost]]
      exact congrArg _ (State.useReading_of_not_first (Or.inr noticed))
    · rw [stock, show (s.tank t).stockCheck = some .gaugeLost by unfold Tank.stockCheck; rw [lost]]
      exact congrArg _ (State.useReading_of_lost lost)
    · rw [stock, Tank.stockCheck_of_held status hh, if_pos low]
      exact congrArg _ (State.useReading_of_not_first (Or.inl (by rcases status with h | h <;> rw [h] <;> simp)))

/-- Settles O17: an AUTHORISE that passes the checks is accepted on the hours its machine then has. -/
theorem authoriseTakesDelivery : Obligations.AuthoriseTakesDelivery := by
  intro tag f s i m p t held service ready hl hm hs hh bay idle hp ht hc pump active permitted free preset place status
    hheld above effective rolled step hours interval since due overdue clamped
  have passes : s.machineCheck m p = none := by
    rw [State.machineCheck_active p active, if_neg (by simp [permitted]), if_neg]
    rintro ⟨j, h1, h2, h3⟩
    exact free j h1 h2 h3
  have stock : (s.tank t).stockCheck = none := by
    rw [Tank.stockCheck_of_held status hheld, if_neg (by omega)]
  have estimate : (s.tank t).estimate = some (held.net - (s.tank t).sincePoll) := by
    unfold Tank.estimate
    rw [hheld]
    rfl
  have steps : hourSteps s.period.clock s.period.clockSet s.period.number f.hourReading (s.machine m)
      = { step with record := hours } := hourSteps_eq ..
  have processed := s.hourProcessing_eq m i f.hourReading
  rw [steps] at processed
  refine event_request_exact ready _ _ _ _ ready.1 ?_
  unfold authorise
  rw [readAuthorise_of_ranges f i m service hl hm hs hh]
  dsimp only
  rw [checkAuthorise_stock bay idle (State.configuredLane_eq_some hp ht hc) pump passes preset place, stock]
  dsimp only
  unfold acceptAuthorise
  dsimp only
  rw [processed, estimate, TankRecord.bandOf_eq_lowBand _ _ above]
  rfl

/-- Settles O19: CANCEL withdraws an AUTHORISED lane, closes one that demands and leaves the others. -/
theorem cancelByLaneState : Obligations.CancelByLaneState := by
  refine ⟨fun tag n s ready hn => ?_, fun tag i s ready => ⟨fun authorised => ?_, fun demands => ?_, fun rest => ?_⟩⟩
  · refine event_request_exact ready _ _ _ _ ready.1 ?_
    unfold cancel
    rw [eightNumber_eq_none hn]
    rfl
  · have withdrawn : s.cancelLane i = s.withdrawLane i := if_pos authorised
    have idle : ((s.withdrawLane i).lane i).state = .idle := by
      show ((s.modLane i Lane.toIdle).lane i).state = .idle
      rw [State.lane_modLane_same]
      rfl
    refine event_request_exact ready _ _ _ _ ready.1 ?_
    unfold cancel
    rw [eightNumber_val]
    dsimp only
    rw [withdrawn, idle]
    rfl
  · have closed : s.cancelLane i = s.closeLane i .cancel := if_neg fun c => by rw [c] at demands; cases demands
    refine ⟨s.closeLane i .cancel, event_request_exact ready _ _ _ _ (by simp [ready.1]) ?_,
      State.closeLane_entersClosing i .cancel s demands⟩
    unfold cancel
    rw [eightNumber_val]
    dsimp only
    rw [closed, State.closeLane_state .cancel demands]
    rfl
  · have kept : s.cancelLane i = s := by
      unfold State.cancelLane
      rw [if_neg (by rcases rest with h | h | h <;> rw [h] <;> simp)]
      exact State.closeLane_of_not_demands i .cancel s (by rcases rest with h | h | h <;> rw [h] <;> rfl)
    refine event_request_exact ready _ _ _ _ ready.1 ?_
    unfold cancel
    rw [eightNumber_val]
    dsimp only
    rw [kept]
    rfl

end Sys2Proof
end

section
/-! PROOFS. The lane takes its grant, its endings, its pulses and its creep window (O40, O42, O43). -/
namespace Sys2Proof.Machine

/-- Two changes of one lane are one change. -/
theorem State.modLane_modLane (i : Fin 8) (f g : Lane → Lane) (s : State) :
    (s.modLane i f).modLane i g = s.modLane i fun l => g (f l) := by
  unfold State.modLane State.setLanes
  simp only [Vector.set_set, Fin.getElem_fin, Vector.getElem_set_self]

/-- A notice below level 7 is offered to the queue where the mask level lets it in (09 R194). -/
theorem State.linkRaising_unmasked (s : State) (b : NoticeBody) (h : b.level ≠ 7) :
    s.linkRaising [b] =
      if s.settings.maskLevel < b.level then s.link.offer ⟨s.period.clock, b⟩ else s.link := by
  unfold State.linkRaising
  simp only [List.foldl_cons, List.foldl_nil, Link.raised, h, false_or]

/-! ## The grant (01 R15, R16) -/

theorem grantTaken_flows {i : Fin 8} {s : State} (waiting : (s.lane i).state = .waiting)
    (g : (s.lane i).arbiterGrant ≠ .hold) :
    grantTaken i s =
      { s with
        lanes := s.lanes.set i ((s.lane i).enterFlow (s.lane i).arbiterGrant)
        link := if (s.lane i).delivery.flowNotified = false ∧ s.settings.maskLevel < 2 then
            s.link.offer ⟨s.period.clock, .laneFlow i (s.lane i).delivery.machine⟩ else s.link } := by
  unfold grantTaken
  dsimp only
  rw [waiting]
  dsimp only
  rw [if_neg g]
  cases noted : (s.lane i).delivery.flowNotified
  · rw [if_neg (by simp), State.notify_linkRaising, State.linkRaising_unmasked _ _ (by simp [NoticeBody.level])]
    simp only [true_and]
    rfl
  · rfl

theorem grantTaken_waits {i : Fin 8} {s : State} (waiting : (s.lane i).state = .waiting)
    (g : (s.lane i).arbiterGrant = .hold) :
    grantTaken i s = s.modLane i fun l => { l with grant := .hold } := by
  unfold grantTaken
  dsimp only
  rw [waiting]
  exact if_pos g

theorem grantTaken_held {i : Fin 8} {s : State} (flows : (s.lane i).state = .flowing ∨ (s.lane i).state = .trimming)
    (g : (s.lane i).arbiterGrant = .hold) :
    grantTaken i s = s.modLane i Lane.holdFlow := by
  unfold grantTaken
  dsimp only
  rcases flows with h | h <;> rw [h] <;> exact if_pos g

theorem grantTaken_follows {i : Fin 8} {s : State}
    (flows : (s.lane i).state = .flowing ∨ (s.lane i).state = .trimming) (g : (s.lane i).arbiterGrant ≠ .hold) :
    grantTaken i s = s.modLane i fun l => { l with grant := (s.lane i).arbiterGrant } := by
  unfold grantTaken
  dsimp only
  rcases flows with h | h <;> rw [h] <;> exact if_neg g

theorem grantTaken_idle {i : Fin 8} {s : State} (h : (s.lane i).state.demands = false) :
    grantTaken i s = s.modLane i fun l => { l with grant := (s.lane i).arbiterGrant } := by
  unfold grantTaken
  dsimp only
  cases hs : (s.lane i).state
  case waiting | flowing | trimming => rw [hs] at h; cases h
  all_goals rfl

/-! ## Endings -/

/-- A lane changed before its ending and demanding then enters CLOSING from the change (01 R23). -/
theorem State.closeLane_after (i : Fin 8) (f : Lane → Lane) (cause : EndCause) (s : State)
    (h : (f (s.lane i)).state.demands = true) :
    ({ s with lanes := s.lanes.set i (f (s.lane i)) } : State).entersClosing ((s.modLane i f).closeLane i cause) i
      cause :=
  State.closeLane_entersClosing i cause (s.modLane i f) (by rw [State.lane_modLane_same]; exact h)

/-- A lane changed before its ending and not demanding then is only changed (01 R22). -/
theorem State.closeLane_after_of_not_demands (i : Fin 8) (f : Lane → Lane) (cause : EndCause) (s : State)
    (h : (f (s.lane i)).state.demands = false) :
    (s.modLane i f).closeLane i cause = { s with lanes := s.lanes.set i (f (s.lane i)) } :=
  State.closeLane_of_not_demands i cause (s.modLane i f) (by rw [State.lane_modLane_same]; exact h)

/-- A lane put back as it was leaves the lanes as they were. -/
theorem State.lanes_set_self (s : State) (i : Fin 8) : s.lanes.set i (s.lane i) = s.lanes := by
  ext j hj
  simp only [State.lane, Vector.getElem_set]
  split
  · rename_i h; subst h; rfl
  · rfl

/-- A lane whose flag is clear is the lane with the flag cleared. -/
theorem State.set_lane_eq_self {s : State} {i : Fin 8} {l : Lane} (h : l = s.lane i) :
    ({ s with lanes := s.lanes.set i l } : State) = s := by
  rw [h, State.lanes_set_self]

/-! ## Samples of a lane at rest (01 R28; 02 R35) -/

/-- A lane in IDLE, AUTHORISED or DONE is not metered, and its no-flow run only restarts. -/
theorem Lane.readCount_of_rest {l : Lane} (h : l.state = .idle ∨ l.state = .authorised ∨ l.state = .done) :
    l.state.metered = false ∧ l.readCount =
      { l with pulses := 0, quietRun := if l.pulses = 0 then min 5 (l.quietRun + 1) else 0
               noFlowRun := if l.pulses = 0 then l.noFlowRun else 0 } := by
  have still : ¬ (l.state = .flowing ∨ l.state = .trimming) := by
    rcases h with h | h | h <;> rw [h] <;> simp
  refine ⟨by rcases h with h | h | h <;> rw [h] <;> rfl, ?_⟩
  rw [Lane.readCount_eq, if_neg still, ite_not]

/-- SAMPLE of a lane at rest: the count joins the creep count of a lane with a product (01 R28). -/
theorem sample_of_rest {i : Fin 8} {s : State}
    (h : (s.lane i).state = .idle ∨ (s.lane i).state = .authorised ∨ (s.lane i).state = .done) :
    sample i s = match (s.lane i).record.product with
      | none => s.modLane i Lane.readCount
      | some p => s.modLane i fun l => l.readCount.creepSample
          (creepThreshold (s.product p).creepVolume (s.lane i).record.kFactor) (s.lane i).pulses ⟨s.elapsed, 60⟩ := by
  unfold sample State.laneProduct
  dsimp only
  rw [(Lane.readCount_of_rest h).1]
  cases (s.lane i).record.product with
  | none => rfl
  | some p =>
    exact State.modLane_modLane i _ _ s

end Sys2Proof.Machine

namespace Sys2Proof
open Sys2Proof.Machine

/-- Settles O40: the row by the lane's state and grant, and the pass by what it moves. -/
theorem grantTakenMovesLane : Obligations.GrantTakenMovesLane := by
  refine ⟨fun i s running => ?_, fun h s => ⟨s.grantPass_passOf h, (s.grantPass_grantsMoved h).1⟩⟩
  have taken : ∀ u, grantTaken i s = u → exec (.grantTaken i) s = u.settled := fun u e => by
    rw [← e]; exact event_of_running running _
  exact ⟨fun waiting g => taken _ (grantTaken_flows waiting g), fun waiting g => taken _ (grantTaken_waits waiting g),
    fun flows g => taken _ (grantTaken_held flows g), fun flows g => taken _ (grantTaken_follows flows g),
    fun rest => taken _ (grantTaken_idle rest)⟩

/-- Settles O42: each ending closes a demanding lane, and its gate or another state leaves the rest alone. -/
theorem endingsCloseLane : Obligations.EndingsCloseLane := by
  intro i s running l
  have event : ∀ (f : State → State) (u : State), f s = u → Machine.event f s = u.settled := fun f u e => by
    rw [← e]; exact event_of_running running f
  have done_rest : l.state = .done → l.state.demands = false := fun h => by rw [h]; rfl
  refine ⟨fun inside => event _ _ ?_, fun out demands => ⟨_, event _ _ rfl, ?_⟩, fun out done => event _ _ ?_,
    fun out rest => event _ _ ?_, fun timer demands => ⟨_, event _ _ rfl, ?_⟩, fun off => event _ _ ?_,
    fun sent demands => ⟨_, event _ _ rfl, ?_⟩, fun off => event _ _ ?_, fun sent demands => ⟨_, event _ _ rfl, ?_⟩,
    fun off => event _ _ ?_, fun authorised timer => event _ _ ?_, fun off => event _ _ ?_⟩
  · exact if_neg (by rw [inside]; simp)
  · unfold nozzleHangup
    rw [if_pos out]
    dsimp only
    rw [if_neg fun c => by rw [done_rest c] at demands; cases demands]
    exact State.closeLane_after i (fun l => { l with nozzleOut := false }) .hangup s demands
  · unfold nozzleHangup
    rw [if_pos out]
    dsimp only
    rw [if_pos done]
    exact State.modLane_modLane i _ _ s
  · unfold nozzleHangup
    rw [if_pos out]
    dsimp only
    rw [if_neg (by rcases rest with h | h | h <;> rw [h] <;> simp)]
    exact State.closeLane_after_of_not_demands i (fun l => { l with nozzleOut := false }) .hangup s
      (by rcases rest with h | h | h <;> exact (by rw [h]; rfl : l.state.demands = false))
  · unfold maxOpenExpiry
    rw [if_pos timer]
    exact State.closeLane_entersClosing i .time s demands
  · unfold maxOpenExpiry
    rcases off with off | off
    · exact if_neg (not_not.2 off)
    · split
      · exact State.closeLane_of_not_demands i .time s off
      · rfl
  · unfold pumpEnding
    rw [if_pos sent]
    exact State.closeLane_after i (fun l => { l with pumpEnding := false }) .pump s demands
  · unfold pumpEnding
    cases sent : (s.lane i).pumpEnding
    · rw [if_neg (by simp)]
      exact (State.set_lane_eq_self (by rw [← sent])).symm
    · rw [if_pos rfl]
      exact State.closeLane_after_of_not_demands i (fun l => { l with pumpEnding := false }) .pump s
        (off.resolve_left (by rw [show l.pumpEnding = true from sent]; simp))
  · unfold tankLowEnding
    rw [if_pos sent]
    exact State.closeLane_after i (fun l => { l with tankLowEnding := false }) .tankLow s demands
  · unfold tankLowEnding
    cases sent : (s.lane i).tankLowEnding
    · rw [if_neg (by simp)]
      exact (State.set_lane_eq_self (by rw [← sent])).symm
    · rw [if_pos rfl]
      exact State.closeLane_after_of_not_demands i (fun l => { l with tankLowEnding := false }) .tankLow s
        (off.resolve_left (by rw [show l.tankLowEnding = true from sent]; simp))
  · unfold authorisationExpiry
    rw [if_pos ⟨authorised, timer⟩, State.notify_linkRaising,
      State.linkRaising_unmasked _ _ (by simp [NoticeBody.level])]
    rfl
  · unfold authorisationExpiry
    refine if_neg fun c => ?_
    rcases off with off | off
    · exact off c.1
    · exact c.2 off

/-- Settles O43: a pulse counts; a sample of a lane at rest joins its creep window, which restarts at the threshold. -/
theorem pulsesAndCreep : Obligations.PulsesAndCreep := by
  intro i s running l read
  refine ⟨event_of_running running _, fun rest => ⟨fun none => ?_, fun p hp => ⟨fun below => ?_, fun reached => ?_⟩⟩,
    fun off => ?_, fun p hp on => ?_⟩
  · refine (event_of_running running _).trans ?_
    have counted : l.readCount = read := (Lane.readCount_of_rest rest).2
    rw [sample_of_rest rest, none, ← counted]
    rfl
  · have counted : l.readCount.creepSample (creepThreshold (s.product p).creepVolume l.record.kFactor) l.pulses
        ⟨s.elapsed, 60⟩ = { read with creepCount := l.creepCount + l.pulses } := by
      rw [(Lane.readCount_of_rest rest).2]
      exact if_neg (Nat.not_le.2 below)
    refine (event_of_running running _).trans ?_
    rw [sample_of_rest rest, hp, ← counted]
    rfl
  · have counted : l.readCount.creepSample (creepThreshold (s.product p).creepVolume l.record.kFactor) l.pulses
        ⟨s.elapsed, 60⟩ = { read with creepCount := 0, creepReports := l.creepReports + 1
                                      creepTimer := some ⟨s.elapsed, 60⟩ } := by
      rw [(Lane.readCount_of_rest rest).2]
      refine (if_pos reached).trans ?_
      unfold Lane.restartCreep
      dsimp only
      rw [if_pos (by rw [hp]; rfl)]
    refine (event_of_running running _).trans ?_
    rw [sample_of_rest rest, hp, ← counted]
    rfl
  · refine (event_of_running running _).trans (congrArg _ ?_)
    exact if_neg (not_not.2 off)
  · refine (event_of_running running _).trans (congrArg _ ?_)
    unfold creepWindowExpiry
    rw [if_pos on]
    have restarted : l.restartCreep ⟨s.elapsed, 60⟩ =
        { l with creepCount := 0, creepTimer := some ⟨s.elapsed, 60⟩ } := by
      unfold Lane.restartCreep
      rw [if_pos (by rw [hp]; rfl)]
    rw [← restarted]
    rfl

end Sys2Proof
end

section
/-! PROOFS. A close that completes, and the commit of its delivery (O47). -/
namespace Sys2Proof.Machine

/-! ## The credit (05 R116 to R120) -/

/-- The rolled record with the net added: to the product's figure always, to the fuel figures for FUEL alone. -/
theorem MachineRecord.addNet_eq (period : Nat) (p : Fin 6) (kind : ProductKind) (net : Nat) (r : MachineRecord) :
    r.addNet period p kind net =
      { r.roll period with
        periodNet := (r.roll period).periodNet.set p (min 4294967295 ((r.roll period).periodNet[p] + net))
        lifetime := if kind = .fuel then min 281474976710655 ((r.roll period).lifetime + net)
          else (r.roll period).lifetime
        fuelSinceBurn := if kind = .fuel then min 4294967295 ((r.roll period).fuelSinceBurn + net)
          else (r.roll period).fuelSinceBurn } := by
  unfold MachineRecord.addNet satAdd
  split <;> rfl

/-- BURN-HIGH's test (05 R118 step 3). -/
theorem burnHigh_iff (burn average band : Nat) :
    burnHigh burn average band = true ↔ average * (100 + band) < burn * 100 := by
  unfold burnHigh
  exact decide_eq_true_iff

/-- The burn computation, field by field: a burn is found for FUEL delivered with 1.0 h or more since the last. -/
theorem burnStep_eq (kind : ProductKind) (net band : Nat) (r : MachineRecord) :
    let burns := kind = .fuel ∧ 0 < net ∧ 10 ≤ r.hoursSinceBurn
    let burn := min 65535 (r.fuelSinceBurn / r.hoursSinceBurn)
    burnStep kind net band r =
      { record :=
          { r with
            fuelSinceBurn := if burns then 0 else r.fuelSinceBurn
            hoursSinceBurn := if burns then 0 else r.hoursSinceBurn
            burnAverage := if burns then
                if r.burnAverage = 0 then burn
                else ((r.burnAverage : Int) + ((burn : Int) - r.burnAverage).tdiv 4).toNat
              else r.burnAverage }
        burn := if burns then some burn else none
        highFrom := if burns ∧ r.burnAverage ≠ 0 ∧ r.burnAverage * (100 + band) < burn * 100 then
            some r.burnAverage else none
        serviceReset := false } := by
  intro burns burn
  unfold burnStep
  by_cases h : burns
  · rw [if_pos h]
    simp only [h, if_true, true_and, burnHigh_iff]
    rfl
  · rw [if_neg h]
    simp only [h, if_false, false_and]

/-- The service reset, field by field. -/
theorem serviceStep_eq (service : Bool) (net : Nat) (c : Credit) (fresh : c.serviceReset = false) :
    serviceStep service net c =
      { c with
        record :=
          { c.record with
            hoursSinceService := if service = true ∧ 0 < net then 0 else c.record.hoursSinceService
            overdue := if service = true ∧ 0 < net then false else c.record.overdue }
        serviceReset := decide (service = true ∧ 0 < net) } := by
  unfold serviceStep
  split
  · rename_i h
    simp only [h, and_self, decide_true]
  · rename_i h
    simp only [h, decide_false, ← fresh]

/-- The credit of a commit is the one the formulas of 05 R116 to R120 give. -/
theorem State.laneCredit_credited (s : State) (i : Fin 8) : s.laneCredit i = s.credited i := by
  unfold State.laneCredit State.credited
  dsimp only
  cases product : (s.lane i).record.product with
  | none => rfl
  | some p =>
    dsimp only
    unfold MachineRecord.credit
    rw [burnStep_eq, serviceStep_eq _ _ _ rfl, MachineRecord.addNet_eq]
    dsimp only
    simp only [Bool.and_eq_true, and_assoc]
    by_cases fuel : (s.product p).kind = .fuel
    · simp only [fuel, true_and, if_true]
    · simp only [fuel, false_and, if_false]

/-! ## The record (06 R134) -/

/-- The clamped temperature of the feed tank's gauge (02 R49, R50). -/
theorem State.laneTemperature_fst (s : State) (i : Fin 8) : (s.laneTemperature i).1 = s.temperatureOf i := by
  unfold State.laneTemperature State.temperatureOf
  cases s.laneTank i <;> rfl

/-- The flags of a record: the delivery's and the four the commit finds. -/
theorem recordFlags_eq (d : Delivery) (cause : EndCause) (ahead : Nat) (valveHeld : Bool) (c : Credit) :
    recordFlags d cause ahead valveHeld c =
      { d.flags with
        short := d.flags.short || decide (cause ≠ .preset ∧ d.gross + ahead < d.preset)
        valveHeld := d.flags.valveHeld || valveHeld
        burnHigh := d.flags.burnHigh || c.highFrom.isSome
        serviceReset := d.flags.serviceReset || c.serviceReset } := by
  have short : shortFlag cause d.gross ahead d.preset = decide (cause ≠ .preset ∧ d.gross + ahead < d.preset) := by
    unfold shortFlag
    cases cause <;> simp
  unfold recordFlags JournalFlags.union
  simp only [short, Bool.or_false]

/-- The record the lane builds is the one committed, but for the number and period the journal gives it. -/
theorem State.buildRecord_recordOf {s : State} {i : Fin 8} {cause : EndCause} (valveHeld : Bool)
    (ending : (s.lane i).delivery.endCause = some cause) :
    ({ s.buildRecord i valveHeld with seq := nextSeq s.journal.lastSeq, period := s.period.number } : JournalRecord) =
      s.recordOf i cause valveHeld := by
  have caused : (s.lane i).cause = cause := by unfold Lane.cause; rw [ending]; rfl
  have ahead : s.closeAhead i = ((s.lane i).record.product.map fun p => (s.product p).closeAhead).getD 0 := by
    unfold State.closeAhead State.laneProduct
    rw [Option.map_map]; rfl
  unfold State.buildRecord State.recordOf State.endTemperature
  simp only [caused, recordFlags_eq, ahead, State.laneCredit_credited, State.laneTemperature_fst]
  rfl

/-! ## The commit (01 R24) -/

theorem LaneTotals.count_counting (cause : EndCause) (t : LaneTotals) : t.count cause = t.counting cause := by
  cases cause <;> rfl

/-- The list of BURN-HIGH a credit raises (05 R118 step 3). -/
def Credit.notices (i : Fin 8) (m : Fin 512) (c : Credit) : List NoticeBody :=
  match c.highFrom with
  | some average => [.burnHigh m i (c.burn.getD 0) average]
  | none => []

/-- The credit and its notice: the machine's record is the credit's, and nothing else but the link changes. -/
theorem State.creditMachine_credited (i : Fin 8) (s : State) :
    s.creditMachine i =
      { s with
        machines := s.machines.set (s.lane i).delivery.machine (s.credited i).record
        link := s.linkRaising ((s.credited i).notices i (s.lane i).delivery.machine) } := by
  unfold State.creditMachine Credit.notices
  dsimp only
  rw [State.laneCredit_credited]
  cases (s.credited i).highFrom with
  | none => rfl
  | some average =>
    dsimp only
    rw [State.notify_linkRaising]
    rfl

/-- The commit: the journal's, the machine's and the lane's part, and the notices in their order. -/
theorem State.commitDelivery_eq (i : Fin 8) (valveHeld : Bool) (s : State) :
    s.commitDelivery i valveHeld =
      { s with
        journal := s.journal.commit (s.buildRecord i valveHeld) s.period.number
        machines := s.machines.set (s.lane i).delivery.machine (s.credited i).record
        lanes := s.lanes.set i ((s.lane i).committed (s.buildRecord i valveHeld) (nextSeq s.journal.lastSeq))
        link := s.linkRaising ((s.credited i).notices i (s.lane i).delivery.machine
          ++ [.deliveryEnd i (nextSeq s.journal.lastSeq) (s.buildRecord i valveHeld).cause
            (s.buildRecord i valveHeld).gross (s.buildRecord i valveHeld).net]) } := by
  unfold State.commitDelivery
  dsimp only
  rw [State.creditMachine_credited, State.notify_linkRaising, State.linkRaising_append]
  rfl

/-- The commit, and the lane's state after it, by the nozzle. -/
theorem State.commitDelivery_committed {s : State} {i : Fin 8} {cause : EndCause} (valveHeld nozzleOut : Bool)
    (ending : (s.lane i).delivery.endCause = some cause) :
    (s.commitDelivery i valveHeld).modLane i (Lane.afterCommit nozzleOut) =
      s.committed i cause valveHeld nozzleOut := by
  have record := State.buildRecord_recordOf valveHeld ending
  have caused : (s.buildRecord i valveHeld).cause = cause := (congrArg JournalRecord.cause record :)
  have flags : (s.buildRecord i valveHeld).flags = (s.recordOf i cause valveHeld).flags :=
    (congrArg JournalRecord.flags record :)
  have lane : ((s.lane i).committed (s.buildRecord i valveHeld) (nextSeq s.journal.lastSeq)).afterCommit nozzleOut =
      { s.lane i with
        state := if nozzleOut then .done else .idle
        stage := none, closeLimit := none, grossResidue := 0, netResidue := 0, pumpEnding := false
        tankLowEnding := false, totals := (s.lane i).totals.counting cause
        authTimer := if nozzleOut then (s.lane i).authTimer else none
        delivery := if nozzleOut then
            { (s.lane i).delivery with
              endCause := some cause, flags := (s.recordOf i cause valveHeld).flags
              seq := some (s.recordOf i cause valveHeld).seq }
          else {} } := by
    unfold Lane.committed
    rw [caused, flags, LaneTotals.count_counting, ← ending]
    cases nozzleOut <;> rfl
  have journal : s.journal.commit (s.buildRecord i valveHeld) s.period.number =
      { records := s.journal.records ++ [s.recordOf i cause valveHeld]
        lastSeq := (s.recordOf i cause valveHeld).seq
        wrapped := s.journal.wrapped || s.journal.lastSeq == 4294967295, reserved := s.journal.reserved - 1 } := by
    rw [← record]
    rfl
  have lanes : (s.lanes.set i ((s.lane i).committed (s.buildRecord i valveHeld) (nextSeq s.journal.lastSeq))).set i
      (((s.lane i).committed (s.buildRecord i valveHeld) (nextSeq s.journal.lastSeq)).afterCommit nozzleOut) =
      (s.committed i cause valveHeld nozzleOut).lanes := by
    rw [Vector.set_set, lane]
    rfl
  rw [State.commitDelivery_eq]
  unfold State.modLane State.setLanes
  simp only [Fin.getElem_fin, Vector.getElem_set_self]
  rw [lanes, journal, caused]
  rfl

/-- A close that completes: the commit by the nozzle, and the report of leaving (01 R24, R25). -/
theorem State.finishClose_committed {s : State} {i : Fin 8} {cause : EndCause} (valveHeld : Bool)
    (ending : (s.lane i).delivery.endCause = some cause) :
    s.finishClose i valveHeld =
      (s.committed i cause valveHeld (s.lane i).nozzleOut).modLane i fun l => { l with leaveReport := true } := by
  have nozzle : ((s.commitDelivery i valveHeld).lane i).nozzleOut = (s.lane i).nozzleOut := by
    rw [State.commitDelivery_eq]
    unfold State.lane
    simp only [Fin.getElem_fin, Vector.getElem_set_self]
    rfl
  rw [← State.commitDelivery_committed valveHeld _ ending, State.modLane_modLane, ← nozzle]
  rfl

/-! ## The sample that completes a close -/

/-- Metering depends on the lane's record, curve, window and residues alone of the lane. -/
theorem State.metering_modLane_readCount (i : Fin 8) (n : Nat) (s : State) :
    (s.modLane i Lane.readCount).metering i n = s.metering i n := by
  unfold State.metering State.laneTemperature State.laneTank State.laneAlpha
  simp only [State.lane_modLane_same]
  rfl

/-- A zero sample adds nothing, keeps the residues and finds no flag (02 R36). -/
theorem Lane.addSample_zero (m : Metered) (now : Nat) (l : Lane) (gross : m.gross = 0) (net : m.net = 0)
    (grossResidue : m.grossResidue = l.grossResidue) (netResidue : m.netResidue = l.netResidue)
    (temperature : m.t10 = none) (flags : m.flags = {}) :
    l.addSample 0 m now =
      { l with
        rates := m.rates
        totals := { l.totals with
                    gross := min 281474976710655 l.totals.gross, net := min 281474976710655 l.totals.net
                    peak := max l.totals.peak m.rate }
        delivery := { l.delivery with peak := max l.delivery.peak m.rate, rate := m.rate } } := by
  have union : l.delivery.flags.union {} = l.delivery.flags := by
    unfold JournalFlags.union
    simp only [Bool.or_false]
  unfold Lane.addSample Delivery.addSample LaneTotals.addSample satAdd totalLimit
  rw [gross, net, grossResidue, netResidue, temperature, flags, union]
  rfl

/-- Two changes of a lane that agree on it as it stands are one. -/
theorem State.modLane_eq_of_lane {i : Fin 8} {f g : Lane → Lane} {s : State} (h : f (s.lane i) = g (s.lane i)) :
    s.modLane i f = s.modLane i g := congrArg (fun l => ({ s with lanes := s.lanes.set i l } : State)) h

/-- The lane once it has taken a zero sample in CLOSING that makes its quiet run 5 (01 R17, R24; 02 R36). -/
def Lane.quietSample (m : Metered) (l : Lane) : Lane :=
  { l with
    pulses := 0, quietRun := 5, rates := m.rates
    totals := { l.totals with
                gross := min 281474976710655 l.totals.gross, net := min 281474976710655 l.totals.net
                peak := max l.totals.peak m.rate }
    delivery := { l.delivery with peak := max l.delivery.peak m.rate, rate := m.rate } }

/-- A zero sample in CLOSING that makes the quiet run 5 is taken, and the close completes (01 R24). -/
theorem sample_completes {i : Fin 8} {s : State} (closing : (s.lane i).state = .closing)
    (zero : (s.lane i).pulses = 0) (quiet : 4 ≤ (s.lane i).quietRun) :
    sample i s = (s.modLane i (Lane.quietSample (s.metering i 0))).finishClose i false := by
  have read : (s.lane i).readCount = { s.lane i with pulses := 0, quietRun := 5 } := by
    rw [Lane.readCount_eq, if_pos zero, if_neg (not_not.2 zero), if_neg (by rw [closing]; simp),
      Nat.min_eq_left (by omega)]
  have taken : (s.lane i).readCount.addSample 0 (s.metering i 0) s.now =
      (s.lane i).quietSample (s.metering i 0) := by
    rw [read]
    exact Lane.addSample_zero _ _ _ rfl rfl rfl rfl rfl rfl
  have sampled : (s.modLane i Lane.readCount).modLane i (Lane.addSample 0 (s.metering i 0) s.now) =
      s.modLane i (Lane.quietSample (s.metering i 0)) := by
    rw [State.modLane_modLane]
    exact State.modLane_eq_of_lane taken
  have metered : (s.lane i).state.metered = true := by rw [closing]; rfl
  unfold sample
  dsimp only
  rw [if_pos metered, zero]
  unfold State.meteredSample
  dsimp only
  rw [if_pos rfl, if_pos rfl, State.metering_modLane_readCount]
  refine (congrArg (State.laneTests i) sampled).trans ?_
  unfold State.laneTests State.closeTest
  rw [State.lane_modLane_same, if_pos (by exact closing), if_pos (by exact Nat.le_refl 5)]

/-- A close that completes after a change of the lane that leaves its nozzle as it was. -/
theorem State.finishClose_modLane {s : State} {i : Fin 8} {f : Lane → Lane} {cause : EndCause} (valveHeld : Bool)
    (ending : (f (s.lane i)).delivery.endCause = some cause)
    (nozzle : (f (s.lane i)).nozzleOut = (s.lane i).nozzleOut) :
    (s.modLane i f).finishClose i valveHeld =
      ((s.modLane i f).committed i cause valveHeld (s.lane i).nozzleOut).modLane i
        fun l => { l with leaveReport := true } := by
  have lane := State.lane_modLane_same i f s
  rw [State.finishClose_committed valveHeld (by rw [lane]; exact ending), lane, nozzle]

end Sys2Proof.Machine

namespace Sys2Proof
open Sys2Proof.Machine

/-- Settles O47: both completions are `finishClose`, whose commit is the one the chapters' formulas give. -/
theorem closeCommitsDelivery : Obligations.CloseCommitsDelivery := by
  refine ⟨fun i s cause running closing timer ending => ?_, fun i s cause running closing ending zero quiet => ?_,
    fun i s running off => (event_of_running running _).trans (congrArg _ (if_neg fun c => ?_))⟩
  · intro c
    have reports : (c.lane i).valveReports = (s.lane i).valveReports := by
      unfold c State.committed State.lane
      simp only [Fin.getElem_fin, Vector.getElem_set_self]
    refine (event_of_running running _).trans (congrArg _ ?_)
    unfold closeLimitExpiry
    rw [if_pos ⟨closing, timer⟩, State.finishClose_committed true ending, State.modLane_modLane, ← reports]
    rfl
  · intro m d sampled c
    refine (event_of_running running _).trans (congrArg _ ?_)
    rw [sample_completes closing zero quiet]
    exact State.finishClose_modLane false ending rfl
  · exact off.elim (fun h => h c.1) (fun h => c.2 h)

end Sys2Proof
end

section
/-! PROOFS. A nozzle lift: the demand that appears, and the two exceptions to waiting (O41). -/
namespace Sys2Proof.Machine

/-! ## A demand that appears (03 R62 to R66) -/

/-- Header h at the tail of the start queue and QUEUED, before the slot is tested (03 R63). -/
def State.queued (h : Fin 6) (s : State) : State :=
  (s.modSlot fun k => { k with queue := k.queue ++ [h] }).setPump h .queued none none

theorem State.slot_queued (h : Fin 6) (s : State) :
    (s.queued h).slot = { s.slot with queue := s.slot.queue ++ [h] } := State.slot_setPump ..

theorem State.queued_headerMoved (h : Fin 6) (s : State) : s.headerMoved h (s.queued h) :=
  (State.modSlot_headerMoved h _ s).trans (State.setPump_headerMoved ..)

theorem State.queued_passOf (h : Fin 6) (s : State) : s.passOf (s.queued h) h :=
  State.passOf_of_lanes (t := s.modSlot fun k => { k with queue := k.queue ++ [h] }) rfl
    (State.setPump_passOf h _ _ _ _)

theorem State.header_queued (h : Fin 6) (s : State) :
    (s.queued h).header h = (s.header h).inState .queued none none := State.header_setPump_same ..

theorem State.joinQueue_eq (h : Fin 6) (s : State) :
    s.joinQueue h =
      if s.slot.queue.isEmpty then serveHeads (s.queued h).slot.queue (s.queued h) else s.queued h := by
  unfold State.joinQueue State.testSlot State.queued
  rfl

/-- A header that joins an empty queue starts where the slot is free (03 R63, R64). -/
theorem State.joinQueue_of_empty {h : Fin 6} {s : State} (queue : s.slot.queue = []) :
    s.joinQueue h = if s.slot.free then (s.queued h).startPump h else s.queued h := by
  rw [State.joinQueue_eq, if_pos (by rw [queue]; rfl), State.slot_queued, queue]
  dsimp only
  rw [List.nil_append]
  unfold serveHeads
  rw [State.slot_queued]
  rfl

/-- A header that joins a queue with others in it, or an occupied slot, waits in the queue (03 R63). -/
theorem State.joinQueue_waits {h : Fin 6} {s : State} (off : ¬ (s.slot.queue = [] ∧ s.slot.free = true)) :
    s.joinQueue h = s.queued h := by
  by_cases queue : s.slot.queue = []
  · rw [State.joinQueue_of_empty queue, if_neg fun free => off ⟨queue, free⟩]
  · rw [State.joinQueue_eq, if_neg fun empty => queue (List.isEmpty_iff.1 empty)]

/-- A STOPPED header that joins: others are left alone, and it starts or waits, with a grant pass (03 R63 to R65). -/
theorem State.joinQueue_joined {h : Fin 6} {s : State} (demand : s.headerDemand h = true) :
    s.headerMoved h (s.joinQueue h) ∧ s.passOf (s.joinQueue h) h
      ∧ (s.slot.queue = [] ∧ s.slot.free = true →
        (s.joinQueue h).header h =
            (if (s.header h).prove = false then (s.header h).inState .starting (some ⟨s.elapsed, 10⟩) none
              else (s.header h).inState .running none none)
          ∧ (s.joinQueue h).slot = { queue := [], free := s.settings.stagger == 0, lastStart := s.elapsed })
      ∧ (¬ (s.slot.queue = [] ∧ s.slot.free = true) →
        (s.joinQueue h).header h = (s.header h).inState .queued none none
          ∧ (s.joinQueue h).slot = { s.slot with queue := s.slot.queue ++ [h] }) := by
  have moved := s.queued_headerMoved h
  have pass := s.queued_passOf h
  have header := s.header_queued h
  have slot := s.slot_queued h
  by_cases starts : s.slot.queue = [] ∧ s.slot.free = true
  · rw [State.joinQueue_of_empty starts.1, if_pos starts.2]
    generalize s.queued h = t at moved pass header slot ⊢
    obtain ⟨started, taken, passed⟩ := t.startPump_started h
    have elapsed : t.elapsed = s.elapsed := by rw [moved.rest]
    have settings : t.settings = s.settings := by rw [moved.rest]
    have demands : t.headerDemand h = true := by rw [State.headerDemand_of_sameButGrant h moved.lanes, demand]
    refine ⟨moved.trans (State.startPump_headerMoved h t),
      State.passOf_after_hold pass (by rw [header]; simp [Header.inState]) passed, fun _ => ⟨?_, ?_⟩,
      fun off => absurd starts off⟩
    · rw [started, header, elapsed]
      unfold Header.started
      rw [if_pos demands]
      rfl
    · rw [taken, slot, settings, elapsed, starts.1, List.nil_append, List.erase_cons_head]
  · rw [State.joinQueue_waits starts]
    exact ⟨moved, pass, fun on => absurd on starts, fun _ => ⟨header, slot⟩⟩

/-- A demand that appears over a header that only makes a pass. -/
theorem State.grantPass_demandShows {w : State} {i : Fin 8} {p : Fin 6}
    (off : ¬ ((∀ j, j ≠ i → (w.lane j).record.product = some p → (w.lane j).state.demands = false)
      ∧ ((w.header p).pump = .stopped ∨ (w.header p).pump = .runon))) :
    w.demandShows (w.grantPass p) i p := by
  have moved := State.grantPass_headerMoved p w
  have header : (w.grantPass p).header p = w.header p := State.header_congr p _ _ (by simp)
  refine ⟨moved.others, fun starts => absurd ⟨starts.1.1, Or.inl starts.1.2⟩ off,
    fun starts => absurd ⟨starts.1.1, Or.inl starts.1.2⟩ off, fun starts => absurd ⟨starts.1.1, Or.inl starts.1.2⟩ off,
    fun joins => absurd ⟨joins.1, Or.inl joins.2⟩ off, fun first runon => absurd ⟨first, Or.inr runon⟩ off,
    fun _ => ⟨by simp, fun _ => header⟩, State.grantPass_passOf p w, moved.rest⟩

/-- A lane's demand appears at its header, which had demand before exactly where another lane demands (03 R62 to
R66). -/
theorem State.demandAppeared_demandShows {w : State} {i : Fin 8} {p : Fin 6} {had : Bool}
    (product : (w.lane i).record.product = some p) (demands : (w.lane i).state.demands = true)
    (others : had = false ↔ ∀ j, j ≠ i → (w.lane j).record.product = some p → (w.lane j).state.demands = false) :
    w.demandShows (w.demandAppeared p had) i p := by
  have demand : w.headerDemand p = true := (w.headerDemand_iff p).2 ⟨i, product, demands⟩
  unfold State.demandAppeared
  cases had
  · have first := others.1 rfl
    rw [if_neg (by simp)]
    cases pump : (w.header p).pump
    case stopped =>
      obtain ⟨moved, pass, starts, waits⟩ := w.joinQueue_joined demand
      refine ⟨moved.others, fun now proved => ?_, fun now unproved => ?_, fun now => (starts now.2).2,
        fun joins off => waits fun now => off ⟨joins, now⟩, fun _ runon => ?_, fun off => absurd ⟨first, pump⟩ off,
        pass, moved.rest⟩
      · rw [(starts now.2).1, if_neg (by rw [proved]; simp)]
      · rw [(starts now.2).1, if_pos unproved]
      · rw [pump] at runon; cases runon
    case runon =>
      have moved := State.setPump_headerMoved p .running none none w
      have stopped : (w.header p).pump ≠ .stopped := by rw [pump]; simp
      exact ⟨moved.others, fun now => absurd now.1.2 stopped, fun now => absurd now.1.2 stopped,
        fun now => absurd now.1.2 stopped, fun joins => absurd joins.2 stopped,
        fun _ _ => State.header_setPump_same ..,
        fun _ => ⟨State.slot_setPump .., fun off => absurd ⟨first, pump⟩ off⟩, State.setPump_passOf p _ _ _ _,
        moved.rest⟩
    all_goals exact State.grantPass_demandShows fun c => by rw [pump] at c; simp at c
  · rw [if_pos rfl]
    exact State.grantPass_demandShows fun c => by simpa using others.2 c.1

/-! ## The exceptions to waiting (01 R13) -/

/-- A pass moves grants alone. -/
theorem State.passOf.sameButGrant {s t : State} {h : Fin 6} (pass : s.passOf t h) (i : Fin 8) :
    (s.lane i).sameButGrant (t.lane i) := by
  rw [pass i]
  split <;> exact Lane.sameButGrant_refl _

/-- A pass over a pump that is not running gives HOLD alone, so a demand that leaves after it and makes the pass again
leaves as without it (03 R70). -/
theorem State.demandLeaves_of_passOf {s t u : State} {i : Fin 8} {h : Fin 6} (rest : t = { s with lanes := t.lanes })
    (pass : s.passOf t h) (still : (s.header h).pump ≠ .running) (product : (s.lane i).record.product = some h)
    (leaves : t.demandLeaves u i) : s.demandLeaves u i := by
  have product' : (t.lane i).record.product = some h := by rw [(pass.sameButGrant i).record_eq, product]
  have demand : t.headerDemand h = s.headerDemand h := State.headerDemand_of_sameButGrant h pass.sameButGrant
  have headers : t.headers = s.headers := by rw [rest]
  have products : t.products = s.products := by rw [rest]
  have elapsed : t.elapsed = s.elapsed := by rw [rest]
  have slot : t.slot = s.slot := by rw [rest]
  have header : ∀ k, t.header k = s.header k := fun k => State.header_congr k _ _ headers
  unfold State.demandLeaves at leaves ⊢
  rw [product'] at leaves
  rw [product]
  dsimp only at leaves ⊢
  rw [demand, header, State.product_congr h s t products, elapsed, slot] at leaves
  obtain ⟨others, queue, again, fields⟩ := leaves
  refine ⟨fun k => by rw [others k, header], queue,
    State.passOf_after_hold pass (by rw [header]; exact still) again, ?_⟩
  rw [fields, rest]

/-- An entry to CLOSING is the lane's own part, and then a demand that leaves (01 R23). -/
theorem State.entersClosing_iff (s u : State) (i : Fin 8) (cause : EndCause) :
    s.entersClosing u i cause ↔ (s.closeCore i cause).demandLeaves u i := by
  unfold State.entersClosing
  rw [← Lane.enterClosing_eq]
  rfl

theorem State.lane_closeCore_same (i : Fin 8) (cause : EndCause) (s : State) :
    (s.closeCore i cause).lane i = (s.lane i).enterClosing cause (s.startTimer 5) := State.lane_modLane_same i _ s

theorem State.lane_closeCore_ne (i j : Fin 8) (h : j ≠ i) (cause : EndCause) (s : State) :
    (s.closeCore i cause).lane j = s.lane j := State.lane_modLane_ne i j h _ s

/-- States that differ in their lanes still do when a lane of both enters CLOSING. -/
theorem State.closeCore_rest {w v : State} (i : Fin 8) (cause : EndCause) (rest : v = { w with lanes := v.lanes }) :
    v.closeCore i cause = { w.closeCore i cause with lanes := (v.closeCore i cause).lanes } := by
  generalize v.lanes = lanes at rest
  subst rest
  rfl

/-- A pass that gives HOLD alone stays one when a lane then enters CLOSING. -/
theorem State.passOf.closeCore {w v : State} {i : Fin 8} {p : Fin 6} (cause : EndCause)
    (elapsed : v.elapsed = w.elapsed) (still : (v.header p).pump ≠ .running) (pass : w.passOf v p) :
    (w.closeCore i cause).passOf (v.closeCore i cause) p := by
  have held : ∀ n l, v.grantFor p n l = .hold := fun n l => if_neg fun c => still c.2
  have closed : ∀ n l, (v.closeCore i cause).grantFor p n l = .hold := fun n l => if_neg fun c => still c.2
  intro j
  rw [closed]
  by_cases hj : j = i
  · subst hj
    rw [State.lane_closeCore_same, State.lane_closeCore_same, pass j, held]
    unfold State.startTimer
    rw [elapsed]
    by_cases product : (w.lane j).record.product = some p
    · rw [if_pos product, if_pos (by exact product)]
      unfold Lane.withGrant Lane.enterClosing
      simp
      rfl
    · rw [if_neg product, if_neg (by exact product)]
  · rw [State.lane_closeCore_ne i j hj, State.lane_closeCore_ne i j hj, pass j, held]
    rfl

/-- An entry to CLOSING after a pass over a pump that is not running is one from before the pass (01 R23; 03 R70). -/
theorem State.entersClosing_of_grantPass {w v u : State} {i : Fin 8} {p : Fin 6} {cause : EndCause}
    (made : v = w.grantPass p) (still : (w.header p).pump ≠ .running)
    (product : (w.lane i).record.product = some p) (closes : v.entersClosing u i cause) :
    w.entersClosing u i cause := by
  have rest : v = { w with lanes := v.lanes } := by rw [made]; exact (w.grantPass_grantsMoved p).1
  have pass : w.passOf v p := by rw [made]; exact State.grantPass_passOf p w
  clear made
  have elapsed : v.elapsed = w.elapsed := by rw [rest]
  have other : (v.header p).pump ≠ .running := by
    rw [State.header_congr p w v (by rw [rest])]; exact still
  rw [State.entersClosing_iff] at closes ⊢
  exact State.demandLeaves_of_passOf (State.closeCore_rest i cause rest) (pass.closeCore cause elapsed other) still
    (by rw [State.lane_closeCore_same]; exact product) closes

/-- Over a demand that appears a pump is FAILED exactly where it was. -/
theorem State.demandShows.pump_failed_iff {w v : State} {i : Fin 8} {p : Fin 6} (shows : w.demandShows v i p) :
    (v.header p).pump = .failed ↔ (w.header p).pump = .failed := by
  obtain ⟨_, proved, unproved, _, waits, runs, stays, _, _⟩ := shows
  by_cases first : ∀ j, j ≠ i → (w.lane j).record.product = some p → (w.lane j).state.demands = false
  · by_cases stopped : (w.header p).pump = .stopped
    · by_cases now : w.slot.queue = [] ∧ w.slot.free = true
      · cases prove : (w.header p).prove
        · rw [unproved ⟨⟨first, stopped⟩, now⟩ prove, stopped]; simp [Header.inState]
        · rw [proved ⟨⟨first, stopped⟩, now⟩ prove, stopped]; simp [Header.inState]
      · rw [(waits ⟨first, stopped⟩ fun c => now c.2).1, stopped]; simp [Header.inState]
    · by_cases runon : (w.header p).pump = .runon
      · rw [runs first runon, runon]; simp [Header.inState]
      · rw [(stays fun c => stopped c.2).2 fun c => runon c.2]
  · rw [(stays fun c => first c.1).2 fun c => first c.1]

/-- A demand that appears leaves the lane's state. -/
theorem State.demandShows.state_eq {w v : State} {i : Fin 8} {p : Fin 6} (shows : w.demandShows v i p) :
    (v.lane i).state = (w.lane i).state := by
  obtain ⟨_, _, _, _, _, _, _, pass, _⟩ := shows
  rw [pass i]
  split <;> rfl

/-- A demand that appears at a FAILED header makes a grant pass (03 R72). -/
theorem State.demandAppeared_of_failed {w : State} {p : Fin 6} (had : Bool) (failed : (w.header p).pump = .failed) :
    w.demandAppeared p had = w.grantPass p := by
  unfold State.demandAppeared
  rw [failed]
  exact ite_self _

/-- The tank's estimate is at or below its cut-off. -/
theorem Tank.atCutOff_iff (k : Tank) :
    k.atCutOff = true ↔ ∃ h, k.held = some h ∧ h.net - k.sincePoll ≤ (k.record.cutOff : Int) := by
  unfold Tank.atCutOff Tank.estimate
  cases k.held <;> simp

/-- A demand that appears leaves the estimates and the cut-offs. -/
theorem State.demandAppeared_cutOff_iff (w : State) (p : Fin 6) (had : Bool) :
    ((w.demandAppeared p had).feedTank p).any (fun t => ((w.demandAppeared p had).tank t).atCutOff) = true ↔
      ∃ t h, w.feedTank p = some t ∧ (w.tank t).held = some h
        ∧ h.net - (w.tank t).sincePoll ≤ ((w.tank t).record.cutOff : Int) := by
  have tank := fun t => State.tank_congr t w (w.demandAppeared p had) (by simp)
  have feeds : (w.demandAppeared p had).feedTank p = w.feedTank p := by
    unfold State.feedTank
    simp only [State.product_congr p w (w.demandAppeared p had) (by simp), tank]
  simp only [feeds, tank, Option.any_eq_true, Tank.atCutOff_iff]
  exact exists_congr fun t => exists_and_left.symm

theorem State.liftExceptions_eq (i : Fin 8) (p : Fin 6) (s : State) :
    s.liftExceptions i p =
      if (s.header p).pump = .failed then s.closeLane i .pump
      else if (s.feedTank p).any (fun t => (s.tank t).atCutOff) = true then s.closeLane i .tankLow else s := by
  unfold State.liftExceptions
  cases s.feedTank p <;> rfl

/-- The lane at the lift that begins its delivery (01 R13). -/
def Lane.liftedOn (elapsed minutes : Nat) (l : Lane) : Lane :=
  { l with
    nozzleOut := true, state := .waiting, stage := some .prime, authTimer := none
    maxOpen := some ⟨elapsed, minutes * 60⟩, rates := [], grossResidue := 0, netResidue := 0
    noFlowRun := 0, quietRun := 0, hoseCount := 0, creepCount := 0, creepTimer := some ⟨elapsed, 60⟩ }

/-- The lift of an AUTHORISED lane: its demand appears over the other lanes', and the exceptions are tested (01 R13). -/
theorem nozzleLift_starts {i : Fin 8} {s : State} {p : Fin 6} (inside : (s.lane i).nozzleOut = false)
    (authorised : (s.lane i).state = .authorised) (product : (s.lane i).record.product = some p) :
    ∃ had, nozzleLift i s =
        ((s.modLane i (Lane.liftedOn s.elapsed (s.product p).maxOpen)).demandAppeared p had).liftExceptions i p
      ∧ (had = false ↔ ∀ j, j ≠ i → (s.lane j).record.product = some p → (s.lane j).state.demands = false) := by
  refine ⟨s.headerDemand p, ?_, ?_⟩
  · have lane := State.lane_modLane_same i (fun l => { l with nozzleOut := true }) s
    have demand : (s.modLane i fun l => { l with nozzleOut := true }).headerDemand p = s.headerDemand p := by
      unfold State.headerDemand State.laneOn
      congr 1
      funext j
      by_cases h : j = i
      · rw [h, lane]
      · rw [State.lane_modLane_ne i j h]
    unfold nozzleLift
    rw [if_neg (by rw [inside]; simp)]
    dsimp only
    rw [if_pos authorised]
    unfold State.startDelivery
    rw [lane]
    dsimp only
    rw [product]
    dsimp only
    rw [demand, State.modLane_modLane]
    have lifted : ({ s.lane i with nozzleOut := true } : Lane).lifted ⟨s.elapsed, (s.product p).maxOpen * 60⟩
        ⟨s.elapsed, 60⟩ = (s.lane i).liftedOn s.elapsed (s.product p).maxOpen := by
      unfold Lane.lifted Lane.restartCreep
      dsimp only
      rw [if_pos (by rw [product]; rfl)]
      rfl
    have moved := State.modLane_eq_of_lane (s := s) (i := i)
      (f := fun l => ({ l with nozzleOut := true } : Lane).lifted ⟨s.elapsed, (s.product p).maxOpen * 60⟩
        ⟨s.elapsed, 60⟩) lifted
    exact congrArg (fun t => State.liftExceptions i p (State.demandAppeared p (s.headerDemand p) t)) moved
  · rw [← Bool.not_eq_true, State.headerDemand_iff]
    constructor
    · exact fun none j _ on => Bool.eq_false_iff.2 fun demands => none ⟨j, on, demands⟩
    · rintro off ⟨j, on, demands⟩
      by_cases h : j = i
      · rw [h, authorised] at demands; cases demands
      · rw [off j h on] at demands; cases demands

end Sys2Proof.Machine

namespace Sys2Proof
open Sys2Proof.Machine

/-- Settles O41: the demand appears at the header in each of its pump states, and each exception is an entry to
CLOSING. -/
theorem liftStartsDelivery : Obligations.LiftStartsDelivery := by
  intro i s running
  refine ⟨fun out => ?_, fun inside other => ?_, fun p inside authorised product => ?_⟩
  · exact (event_of_running running _).trans (congrArg _ (if_pos out))
  · refine (event_of_running running _).trans (congrArg _ ?_)
    unfold nozzleLift
    rw [if_neg (by rw [inside]; simp)]
    exact if_neg other
  intro lifted atCutOff w
  obtain ⟨had, lift, first⟩ := nozzleLift_starts inside authorised product
  have here : w.lane i = lifted := State.lane_modLane_same i (fun _ => lifted) s
  have elsewhere : ∀ j, j ≠ i → w.lane j = s.lane j := fun j hj => State.lane_modLane_ne i j hj (fun _ => lifted) s
  have on : (w.lane i).record.product = some p := by rw [here]; exact product
  have demands : (w.lane i).state.demands = true := by rw [here]; rfl
  have shows : w.demandShows (w.demandAppeared p had) i p :=
    State.demandAppeared_demandShows on demands (first.trans (forall₂_congr fun j hj => by rw [elsewhere j hj]))
  have runs : exec (.nozzleLift i) s = ((w.demandAppeared p had).liftExceptions i p).settled :=
    (event_of_running running _).trans (congrArg _ lift)
  have failed_iff : ((w.demandAppeared p had).header p).pump = .failed ↔ (s.header p).pump = .failed :=
    shows.pump_failed_iff
  have still : ((w.demandAppeared p had).lane i).state.demands = true := by rw [shows.state_eq]; exact demands
  have cutOff_iff : ((w.demandAppeared p had).feedTank p).any (fun t => ((w.demandAppeared p had).tank t).atCutOff) =
      true ↔ atCutOff :=
    w.demandAppeared_cutOff_iff p had
  refine ⟨fun failed => ⟨_, runs, ?_⟩, fun sound low => ⟨w.demandAppeared p had, _, runs, shows, ?_⟩,
    fun sound high => ⟨_, runs, ?_⟩⟩
  · rw [State.liftExceptions_eq, if_pos (failed_iff.2 failed)]
    have failing : (w.header p).pump = .failed := failed
    exact State.entersClosing_of_grantPass (State.demandAppeared_of_failed had failing) (by rw [failing]; simp) on
      (State.closeLane_entersClosing i .pump _ still)
  · rw [State.liftExceptions_eq, if_neg fun c => sound (failed_iff.1 c), if_pos (cutOff_iff.2 low)]
    exact State.closeLane_entersClosing i .tankLow _ still
  · rw [State.liftExceptions_eq, if_neg fun c => sound (failed_iff.1 c), if_neg fun c => high (cutOff_iff.1 c)]
    exact shows

end Sys2Proof
end

section
/-! PROOFS. A tank's estimate put into its band, and the debit of a sample (for O46). -/
namespace Sys2Proof.Machine

/-- The tank in its band is the tank with the band of its estimate (04 R91). -/
theorem Tank.banded_eq (k : Tank) : k.banded = { k with band := k.record.bandOf k.estimate } := by
  unfold Tank.banded TankRecord.bandOf
  cases k.estimate <;> rfl

/-- A lane draws from tank t where its product is the one t feeds. -/
theorem State.laneTank_eq_some_iff (s : State) (i : Fin 8) (t : Fin 8) :
    s.laneTank i = some t ↔ ∃ p, (s.lane i).record.product = some p ∧ s.fedProduct t = some p := by
  unfold State.laneTank
  cases (s.lane i).record.product with
  | none => simp
  | some p => simp [State.feedTank_iff_fedProduct]

/-- A change of a tank that keeps its product leaves which tank feeds which product. -/
theorem State.feedTank_modTank {s : State} {t : Fin 8} {f : Tank → Tank}
    (h : (f (s.tank t)).record.product = (s.tank t).record.product) (p : Fin 6) :
    (s.modTank t f).feedTank p = s.feedTank p := by
  have product : ∀ k, ((s.modTank t f).tank k).record.product = (s.tank k).record.product := by
    intro k
    by_cases hk : k = t
    · rw [hk, State.tank_modTank_same, h]
    · rw [State.tank_modTank_ne t k hk]
  unfold State.feedTank
  simp only [product]
  rfl

theorem State.laneTank_modTank {s : State} {t : Fin 8} {f : Tank → Tank}
    (h : (f (s.tank t)).record.product = (s.tank t).record.product) (i : Fin 8) :
    (s.modTank t f).laneTank i = s.laneTank i := by
  unfold State.laneTank
  simp only [State.feedTank_modTank h]
  rfl

/-- The part of an evaluation that sends the endings of a fall to cut-off (04 R91). -/
def State.sendLow (t : Fin 8) (old : Band) (s : State) : State :=
  if (s.tank t).band = .cutOff ∧ old ≠ .cutOff then
    (match s.fedProduct t with
      | some p => s.sendEnding p fun l => { l with tankLowEnding := true }
      | none => s).notify (.tankLow t (s.tank t).record.product ((s.tank t).estimate.getD 0))
  else s

/-- The lanes as `lanesBanded` marks them. -/
def State.lanesMarked (t : Fin 8) (crossing : Prop) [Decidable crossing] (s : State) : Vector Lane 8 :=
  Vector.ofFn fun i =>
    if crossing ∧ (s.lane i).state.demands = true ∧ s.laneTank i = some t then
      { s.lane i with tankLowEnding := true }
    else s.lane i

theorem State.lanes_eq_of_lane {s : State} {lanes : Vector Lane 8} (h : ∀ i, s.lane i = lanes[i]) :
    s.lanes = lanes :=
  Vector.ext fun j hj => h ⟨j, hj⟩

/-- The lanes a tank feeds and no others are marked. -/
theorem State.sendEnding_marked {s : State} {t : Fin 8} {p : Fin 6} {crossing : Prop} [Decidable crossing]
    (fed : s.fedProduct t = some p) (crosses : crossing) :
    s.sendEnding p (fun l => { l with tankLowEnding := true }) = { s with lanes := s.lanesMarked t crossing } := by
  have lanes : (s.sendEnding p fun l => { l with tankLowEnding := true }).lanes = s.lanesMarked t crossing := by
    refine State.lanes_eq_of_lane fun i => ?_
    have feeds : s.laneTank i = some t ↔ (s.lane i).record.product = some p := by
      rw [State.laneTank_eq_some_iff, fed]
      simp
    unfold State.lanesMarked
    rw [State.sendEnding_lane, Fin.getElem_fin, Vector.getElem_ofFn]
    simp only [Fin.eta, crosses, true_and, feeds, and_comm]
  rw [← lanes]
  apply State.ext_fields <;> simp

/-- With nothing crossed, or no lane fed, no lane is marked. -/
theorem State.lanesMarked_eq_lanes {s : State} {t : Fin 8} {crossing : Prop} [Decidable crossing]
    (off : ¬ crossing ∨ s.fedProduct t = none) : s.lanesMarked t crossing = s.lanes := by
  refine (State.lanes_eq_of_lane fun i => ?_).symm
  unfold State.lanesMarked
  rw [Fin.getElem_fin, Vector.getElem_ofFn, Fin.eta, if_neg]
  rintro ⟨crosses, _, feeds⟩
  rcases off with off | off
  · exact off crosses
  · rw [State.laneTank_eq_some_iff, off] at feeds
    simp at feeds

/-- The endings of a fall to cut-off are marks on the lanes the tank feeds, and the notice is TANK-LOW (04 R91). -/
theorem State.sendLow_eq (t : Fin 8) (old : Band) (s : State) :
    s.sendLow t old =
      { s with lanes := s.lanesMarked t ((s.tank t).band = .cutOff ∧ old ≠ .cutOff)
               link := s.linkRaising ((s.tank t).lowNotice t old) } := by
  unfold State.sendLow Tank.lowNotice
  by_cases crosses : (s.tank t).band = .cutOff ∧ old ≠ .cutOff
  · rw [if_pos crosses, if_pos crosses, State.notify_linkRaising]
    cases fed : s.fedProduct t with
    | none =>
      rw [State.lanesMarked_eq_lanes (Or.inr fed)]
    | some p =>
      dsimp only
      rw [State.sendEnding_marked fed crosses]
      rfl
  · rw [if_neg crosses, if_neg crosses, State.lanesMarked_eq_lanes (Or.inl crosses)]
    rfl

/-- An evaluation: the band, the endings it sends, and a pass where the low band is entered or left (04 R91). -/
theorem State.evaluateBand_eq (t : Fin 8) (s : State) :
    s.evaluateBand t =
      if ((s.tank t).banded.band == .lowBand) = ((s.tank t).band == .lowBand) then
        (s.modTank t Tank.banded).sendLow t (s.tank t).band
      else
        match s.fedProduct t with
        | some p => ((s.modTank t Tank.banded).sendLow t (s.tank t).band).grantPass p
        | none => (s.modTank t Tank.banded).sendLow t (s.tank t).band := by
  have band : (s.tank t).banded = { s.tank t with band := (s.tank t).record.bandOf (s.tank t).estimate } :=
    Tank.banded_eq _
  have here : (s.modTank t Tank.banded).tank t = (s.tank t).banded := State.tank_modTank_same ..
  have moved : (s.modTank t fun k => { k with band := (s.tank t).record.bandOf (s.tank t).estimate }) =
      s.modTank t Tank.banded :=
    congrArg (fun k => ({ s with tanks := s.tanks.set t k } : State)) band.symm
  have fed : (s.modTank t Tank.banded).fedProduct t = s.fedProduct t := by
    unfold State.fedProduct
    rw [here, band]
    rfl
  unfold State.evaluateBand State.sendLow
  dsimp only
  rw [moved, here, fed, band]
  rfl

/-- The two ways the low band's test is written agree. -/
theorem Band.beq_lowBand_eq_iff (a b : Band) :
    ((a == .lowBand) = (b == .lowBand)) ↔ (a = .lowBand ↔ b = .lowBand) := by
  cases a <;> cases b <;> decide

/-- The lanes of an evaluation over marked lanes, by the pass it makes (04 R91). -/
theorem State.lanesBanded_of_pass {s low u : State} {t : Fin 8} {old : Band} {k : Tank}
    (tank : low.tank t = k) (lanes : low.lanes = s.lanesMarked t (k.band = .cutOff ∧ old ≠ .cutOff))
    (pass : u = if (k.band == .lowBand) = (old == .lowBand) then low
      else match s.fedProduct t with
        | some p => low.grantPass p
        | none => low) :
    s.lanesBanded u t old ∧ u = { low with lanes := u.lanes } := by
  have moved : u = { low with lanes := u.lanes } ∧ u.tanks = low.tanks := by
    rw [pass]
    split
    · exact ⟨rfl, rfl⟩
    · split
      · exact ⟨(low.grantPass_grantsMoved _).1, by simp⟩
      · exact ⟨rfl, rfl⟩
  refine ⟨?_, moved.1⟩
  unfold State.lanesBanded
  rw [State.tank_congr t low u moved.2, tank]
  refine ⟨fun p flips feeds => ?_, fun still => ?_⟩
  · rw [State.feedTank_iff_fedProduct] at feeds
    rw [if_neg fun c => flips ((Band.beq_lowBand_eq_iff _ _).1 c), feeds] at pass
    rw [pass]
    exact State.passOf_of_lanes lanes (State.grantPass_passOf p low)
  · refine Eq.trans ?_ lanes
    rw [pass]
    rcases still with still | unfed
    · rw [if_pos ((Band.beq_lowBand_eq_iff _ _).2 (not_not.1 still))]
    · cases fed : s.fedProduct t with
      | none => exact congrArg State.lanes (ite_self low)
      | some p => exact absurd ((State.feedTank_iff_fedProduct s p t).2 fed) (unfed p)

/-- An evaluation puts the tank into its band, marks the lanes it feeds at a fall to cut-off, and makes a pass where the
low band is entered or left (04 R91). -/
theorem State.evaluateBand_banded (t : Fin 8) (s : State) :
    s.lanesBanded (s.evaluateBand t) t (s.tank t).band
      ∧ s.evaluateBand t =
        { s with tanks := s.tanks.set t (s.tank t).banded, lanes := (s.evaluateBand t).lanes
                 link := s.linkRaising ((s.tank t).banded.lowNotice t (s.tank t).band) } := by
  have here : (s.modTank t Tank.banded).tank t = (s.tank t).banded := State.tank_modTank_same ..
  have feed : ∀ i, (s.modTank t Tank.banded).laneTank i = s.laneTank i :=
    State.laneTank_modTank (by rw [Tank.banded_eq])
  have low := State.sendLow_eq t (s.tank t).band (s.modTank t Tank.banded)
  rw [here] at low
  have lanes : (s.modTank t Tank.banded).lanesMarked t ((s.tank t).banded.band = .cutOff ∧ (s.tank t).band ≠ .cutOff) =
      s.lanesMarked t ((s.tank t).banded.band = .cutOff ∧ (s.tank t).band ≠ .cutOff) := by
    unfold State.lanesMarked
    simp only [feed]
    rfl
  rw [lanes] at low
  obtain ⟨banded, rest⟩ := State.lanesBanded_of_pass (s := s) (old := (s.tank t).band) (k := (s.tank t).banded)
    (by rw [low]; exact here) (by rw [low]) (State.evaluateBand_eq t s)
  refine ⟨banded, rest.trans ?_⟩
  rw [low]
  rfl

/-- From states with the same lanes and the same feeds an evaluation moves the lanes alike. -/
theorem State.lanesBanded.of_feeds {s v u : State} {t : Fin 8} {old : Band} (lanes : v.lanes = s.lanes)
    (feeds : ∀ p, v.feedTank p = s.feedTank p) (banded : v.lanesBanded u t old) : s.lanesBanded u t old := by
  have lane : ∀ i, v.lane i = s.lane i := fun i => State.lane_congr i _ _ lanes
  have feed : ∀ i, v.laneTank i = s.laneTank i := fun i => by
    unfold State.laneTank
    simp only [lane, feeds]
  unfold State.lanesBanded at banded ⊢
  simp only [lane, feed, feeds] at banded
  exact ⟨fun p flips fed => State.passOf_of_lanes rfl (banded.1 p flips fed), banded.2⟩

/-- The tank after a debit, before its estimate is evaluated (02 R56; 04 R90, R92). -/
theorem Tank.debit_eq (net : Nat) (k : Tank) :
    k.debit net =
      { k.booked (-net) with
        dispensed := k.dispensed + net, sincePoll := k.sincePoll + net
        periodDispensed := k.periodDispensed + net } := by
  unfold Tank.debit
  rw [Tank.moveBook_booked]

/-- A debit: the counters and the book move, and the estimate takes its band (02 R56; 04 R90 to R92). -/
theorem State.debitTank_banded (t : Fin 8) (net : Nat) (s : State) :
    s.lanesBanded (s.debitTank t net) t (s.tank t).band
      ∧ s.debitTank t net =
        { s with tanks := s.tanks.set t ((s.tank t).debit net).banded, lanes := (s.debitTank t net).lanes
                 link := s.linkRaising (((s.tank t).debit net).banded.lowNotice t (s.tank t).band) } := by
  have here : (s.modTank t (Tank.debit net)).tank t = (s.tank t).debit net := State.tank_modTank_same ..
  have feeds := fun p => State.feedTank_modTank (s := s) (t := t) (f := Tank.debit net) rfl p
  obtain ⟨banded, rest⟩ := State.evaluateBand_banded t (s.modTank t (Tank.debit net))
  rw [here] at banded rest
  refine ⟨State.lanesBanded.of_feeds (v := s.modTank t (Tank.debit net)) rfl feeds banded, rest.trans ?_⟩
  unfold State.debitTank
  have tanks : (s.modTank t (Tank.debit net)).tanks.set t ((s.tank t).debit net).banded =
      s.tanks.set t ((s.tank t).debit net).banded := Vector.set_set ..
  rw [tanks]
  rfl

end Sys2Proof.Machine
end

section
/-! PROOFS. What shutdown entry does to the lanes and the headers (for `raises`; 07 R157). -/
namespace Sys2Proof.Machine

/-! ## The headers are stopped (03 R69) -/

/-- A lane whose Arbiter's grant is HOLD. -/
def Lane.held (l : Lane) : Lane := { l with arbiterGrant := .hold }

/-- A pass over a pump that is not running gives its lanes HOLD and does nothing else. -/
theorem State.passOf.lane_of_still {s u : State} {h : Fin 6} (pass : s.passOf u h)
    (still : (u.header h).pump ≠ .running) (i : Fin 8) :
    u.lane i = if (s.lane i).record.product = some h then (s.lane i).held else s.lane i := by
  rw [pass i, show u.grantFor h (u.capacityLeft h i) (s.lane i) = .hold from if_neg fun c => still c.2]
  unfold Lane.withGrant Lane.held
  simp

theorem State.stopHeader_passOf (h : Fin 6) (s : State) : s.passOf (s.stopHeader h) h := by
  unfold State.stopHeader
  cases (s.header h).pump
  case stopped | failed => exact State.grantPass_passOf h s
  all_goals
    exact State.passOf_of_lanes (t := s.modSlot fun k => { k with queue := k.queue.erase h }) rfl
      (State.setPump_passOf h _ _ _ _)

theorem State.lane_stopHeader (h : Fin 6) (s : State) (i : Fin 8) :
    (s.stopHeader h).lane i = if (s.lane i).record.product = some h then (s.lane i).held else s.lane i :=
  (s.stopHeader_passOf h).lane_of_still (by rw [s.stopHeader_pump h]; split <;> simp) i

theorem State.header_stopHeader_same (h : Fin 6) (s : State) : (s.stopHeader h).header h = (s.header h).barred := by
  unfold State.stopHeader Header.barred
  cases pump : (s.header h).pump
  case stopped | failed => exact State.header_congr h s _ (by simp)
  all_goals exact State.header_setPump_same ..

theorem State.stopHeader_slot (h : Fin 6) (s : State) :
    (s.stopHeader h).slot.free = s.slot.free ∧ (s.stopHeader h).slot.lastStart = s.slot.lastStart := by
  unfold State.stopHeader
  cases (s.header h).pump <;> simp

theorem Header.barred_barred (k : Header) : k.barred.barred = k.barred := by
  by_cases h : k.pump = .stopped ∨ k.pump = .failed
  · have same : k.barred = k := if_pos h
    rw [same, same]
  · have stopped : k.barred = k.inState .stopped none none := if_neg h
    rw [stopped]
    exact if_pos (Or.inl rfl)

/-- Every header is barred, and every lane with a product has HOLD. -/
theorem State.stopHeaders_barred (s : State) :
    (∀ h, s.stopHeaders.header h = (s.header h).barred)
      ∧ (∀ i, s.stopHeaders.lane i =
          if (s.lane i).record.product = none then s.lane i else (s.lane i).held)
      ∧ s.stopHeaders.slot = { s.slot with queue := s.stopHeaders.slot.queue } := by
  have walk : ∀ (l : List (Fin 6)) (s : State),
      (∀ h, (l.foldl (fun t h => t.stopHeader h) s).header h = if h ∈ l then (s.header h).barred else s.header h)
        ∧ (∀ i, (l.foldl (fun t h => t.stopHeader h) s).lane i =
          if ∃ h ∈ l, (s.lane i).record.product = some h then (s.lane i).held else s.lane i) := by
    intro l
    induction l with
    | nil => exact fun s => ⟨fun h => by simp, fun i => by simp⟩
    | cons k l ih =>
      intro s
      obtain ⟨headers, lanes⟩ := ih (s.stopHeader k)
      refine ⟨fun h => ?_, fun i => ?_⟩
      · rw [List.foldl_cons, headers]
        by_cases hk : h = k
        · subst hk
          rw [State.header_stopHeader_same, Header.barred_barred]
          simp
        · rw [(s.stopHeader_headerMoved k).others h hk]
          simp [hk]
      · rw [List.foldl_cons, lanes, State.lane_stopHeader]
        by_cases on : (s.lane i).record.product = some k
        · rw [if_pos on]
          refine Eq.trans ?_ (if_pos ⟨k, List.mem_cons_self, on⟩).symm
          exact ite_self _
        · rw [if_neg on]
          refine if_congr ⟨fun ⟨h, mem, e⟩ => ⟨h, List.mem_cons_of_mem k mem, e⟩, fun ⟨h, mem, e⟩ => ⟨h, ?_, e⟩⟩ rfl rfl
          exact (List.mem_cons.1 mem).resolve_left fun c => on (c ▸ e)
  obtain ⟨headers, lanes⟩ := walk sixNumbers s
  refine ⟨fun h => by rw [← if_pos (mem_sixNumbers h) (t := (s.header h).barred)]; exact headers h, fun i => ?_, ?_⟩
  · refine (lanes i).trans ?_
    cases product : (s.lane i).record.product with
    | none => simp
    | some h => rw [if_pos ⟨h, mem_sixNumbers h, rfl⟩, if_neg (by simp)]
  · have free : s.stopHeaders.slot.free = s.slot.free :=
      eachOfSix_keeps (fun s => s.slot.free) _ (fun h s => (s.stopHeader_slot h).1) s
    have last : s.stopHeaders.slot.lastStart = s.slot.lastStart :=
      eachOfSix_keeps (fun s => s.slot.lastStart) _ (fun h s => (s.stopHeader_slot h).2) s
    show s.stopHeaders.slot = ⟨s.stopHeaders.slot.queue, s.slot.free, s.slot.lastStart⟩
    rw [← free, ← last]

/-- No header is QUEUED once they are stopped, so the start queue is empty (03 R63, R69). -/
theorem State.stopHeaders_queue {s : State} (law : s.queueLawful) : s.stopHeaders.slot.queue = [] := by
  obtain ⟨pumps, _, kept⟩ := s.stopHeaders_stopped
  refine List.eq_nil_iff_forall_not_mem.2 fun h mem => ?_
  have queued := ((kept law).2 h).1 mem
  rcases pumps h with c | c <;> rw [queued] at c <;> cases c

/-! ## The lanes are commanded (01 R31) -/

/-- The command to a lane and the HOLD that follows are what shutdown entry makes of it. -/
theorem Lane.shutFrom_eq (elapsed : Nat) (l : Lane) :
    l.shutFrom elapsed =
      if (l.shutAlone elapsed).record.product = none then l.shutAlone elapsed else (l.shutAlone elapsed).held := by
  have record : (l.shutAlone elapsed).record = l.record := by
    unfold Lane.shutAlone
    split <;> rfl
  rw [record]
  unfold Lane.shutFrom Lane.shutAlone
  by_cases none : l.record.product = none
  · simp only [none, if_true] <;> cases l.state <;> rfl
  · simp only [none, if_false]
    obtain ⟨record, state⟩ := l
    cases state <;> rfl

/-- The command to a lane that demands joins it to the closing lanes, and an authorisation withdrawn frees its place. -/
theorem State.shutLane_reports (i : Fin 8) (s : State) :
    (s.shutLane i).shutdown =
        { s.shutdown with
          closing := if (s.lane i).state.demands then s.shutdown.closing ||| oneMember i else s.shutdown.closing }
      ∧ (s.shutLane i).journal =
        { s.journal with
          reserved := if (s.lane i).state = .authorised then s.journal.reserved - 1 else s.journal.reserved } := by
  unfold State.shutLane
  cases (s.lane i).state <;> exact ⟨rfl, rfl⟩

theorem oneMember_getLsbD (i j : Fin 8) : (oneMember i).getLsbD j.val = decide (j = i) := by
  revert i j; decide

/-- All eight lanes commanded: the demanding ones are closing, and as many places are freed as were AUTHORISED. -/
theorem State.shutLanes_reports (s : State) :
    (eachOfEight State.shutLane s).shutdown =
        { s.shutdown with closing := s.shutdown.closing ||| maskOf fun i => (s.lane i).state.demands }
      ∧ (eachOfEight State.shutLane s).journal =
        { s.journal with reserved := s.journal.reserved - s.authorisedLanes } := by
  have walk : ∀ (l : List (Fin 8)) (s : State), l.Nodup →
      (∃ m : Mask, (l.foldl (fun t i => t.shutLane i) s).shutdown = { s.shutdown with closing := m }
        ∧ ∀ j : Fin 8, m.getLsbD j.val =
          (s.shutdown.closing.getLsbD j.val || (decide (j ∈ l) && (s.lane j).state.demands)))
      ∧ (l.foldl (fun t i => t.shutLane i) s).journal =
        { s.journal with
          reserved := s.journal.reserved - (l.filter fun i => (s.lane i).state == .authorised).length } := by
    intro l
    induction l with
    | nil => exact fun s _ => ⟨⟨s.shutdown.closing, rfl, fun j => by simp⟩, rfl⟩
    | cons k l ih =>
      intro s nodup
      obtain ⟨out, nodup⟩ := List.nodup_cons.1 nodup
      obtain ⟨⟨m, shutdown, members⟩, journal⟩ := ih (s.shutLane k) nodup
      obtain ⟨closes, frees⟩ := s.shutLane_reports k
      have apart : ∀ j ∈ l, (s.shutLane k).lane j = s.lane j := fun j mem =>
        State.lane_shutLane_ne k j (fun e => out (e ▸ mem)) s
      refine ⟨⟨m, ?_, fun j => ?_⟩, ?_⟩
      · rw [List.foldl_cons, shutdown, closes]
      · have joined : (s.shutLane k).shutdown.closing.getLsbD j.val =
            (s.shutdown.closing.getLsbD j.val || (decide (j = k) && (s.lane k).state.demands)) := by
          rw [closes]
          cases (s.lane k).state.demands
          · simp
          · rw [if_pos rfl, BitVec.getLsbD_or, oneMember_getLsbD, Bool.and_true]
        rw [members, joined]
        by_cases hk : j = k
        · subst hk
          simp [out]
        · by_cases mem : j ∈ l
          · rw [apart j mem]
            simp [mem, hk]
          · simp [mem, hk]
      · have same : (l.filter fun i => ((s.shutLane k).lane i).state == .authorised) =
            l.filter fun i => (s.lane i).state == .authorised :=
          List.filter_congr fun j mem => by rw [apart j mem]
        rw [List.foldl_cons, journal, frees, same, List.filter_cons]
        by_cases authorised : (s.lane k).state = .authorised
        · simp [authorised, Nat.sub_sub, Nat.add_comm]
        · simp [authorised]
  obtain ⟨⟨m, shutdown, members⟩, journal⟩ := walk eightNumbers s eightNumbers_nodup
  refine ⟨shutdown.trans ?_, journal⟩
  have all : m = s.shutdown.closing ||| maskOf fun i => (s.lane i).state.demands :=
    Mask.ext_members fun j => by
      rw [members, BitVec.getLsbD_or, maskOf_getLsbD]
      simp [mem_eightNumbers]
  rw [all]

end Sys2Proof.Machine
end

section
/-! PROOFS. Shutdown entry's closing of the inlets, and the gauge bus after it (for `raises`; 04 R84, R97, R99). -/
namespace Sys2Proof.Machine

/-- The gauge bus once polls of some tanks whose receipts were just closed have been asked for, in their order: on an
idle bus without queue or round the first configured one is polled (04 R84, R97, R99). -/
def State.busAsked (opens : List (Fin 8)) (s : State) : GaugeBus :=
  match s.bus.poll with
  | some q =>
    { s.bus with queue := opens.foldl queueing s.bus.queue
                 poll := some (if q.tank ∈ opens then { q with beforeClose := true } else q) }
  | none =>
    match opens.dropWhile fun t => !(s.tank t).configured with
    | [] => s.bus
    | t :: rest => { s.bus with poll := some (s.polling t), queue := rest }

theorem State.busAsked_of_poll {s : State} {q : Poll} (opens : List (Fin 8)) (poll : s.bus.poll = some q) :
    s.busAsked opens =
      { s.bus with queue := opens.foldl queueing s.bus.queue
                   poll := some (if q.tank ∈ opens then { q with beforeClose := true } else q) } := by
  unfold State.busAsked
  rw [poll]

theorem State.busAsked_of_idle {s : State} (opens : List (Fin 8)) (poll : s.bus.poll = none) :
    s.busAsked opens =
      match opens.dropWhile fun t => !(s.tank t).configured with
      | [] => s.bus
      | t :: rest => { s.bus with poll := some (s.polling t), queue := rest } := by
  unfold State.busAsked
  rw [poll]

/-- The bus after shutdown entry is the one asked about the open inlets. -/
theorem State.busAfterEntry_eq (s : State) :
    s.busAfterEntry = s.busAsked (eightNumbers.filter fun t => (s.tank t).inlet) := by
  unfold State.busAfterEntry State.busAsked
  simp only [List.mem_filter, mem_eightNumbers, true_and] <;> rfl

/-- An idle bus that may hold neither a queue nor a round (04 R83, R84). -/
def State.busRests (s : State) : Prop := s.bus.poll = none → s.bus.round = none ∧ s.bus.queue = []

/-- The tank once shutdown entry has taken its receipt (04 R99). -/
def Tank.shutAt (now : Nat) (roundRuns : Bool) (k : Tank) : Tank :=
  { k with receipt := k.receipt.map (Receipt.shutAt now roundRuns) }

theorem Tank.shutAt_of_shut {k : Tank} (now : Nat) (roundRuns : Bool) (inlet : k.inlet = false) :
    k.shutAt now roundRuns = k := by
  unfold Tank.inlet at inlet
  have same : k.receipt.map (Receipt.shutAt now roundRuns) = k.receipt := by
    cases receipt : k.receipt with
    | none => rfl
    | some r =>
      rw [receipt] at inlet
      unfold Receipt.shutAt
      cases state : r.state with
      | settling => rw [Option.map_some, state]
      | opened => dsimp only at inlet; rw [state] at inlet; cases inlet
  unfold Tank.shutAt
  rw [same]

theorem GaugeBus.add_eq (t : Fin 8) (b : GaugeBus) : b.add t = { b with queue := queueing b.queue t } := by
  unfold GaugeBus.add queueing
  simp only [List.contains_eq_mem, decide_eq_true_eq]
  split <;> rfl

/-- An idle bus without a round, asked about one tank, polls it where it is configured (04 R84). -/
theorem State.served_one {s : State} {t : Fin 8} {queue : List (Fin 8)} (one : queue = [t])
    (round : s.bus.round = none) :
    s.served queue =
      if (s.tank t).configured then { s with bus := { s.bus with poll := some (s.polling t), queue := [] } }
      else { s with bus := { s.bus with poll := none, queue := [] } } := by
  unfold State.served
  rw [one, round, List.dropWhile_cons]
  cases (s.tank t).configured <;> rfl

/-- A poll asked for of tank t, its inlet just closed (04 R84, R97). -/
theorem State.askPoll_busAsked {s : State} (t : Fin 8) (rests : s.busRests) :
    (s.modBus (GaugeBus.markPoll t fun p => { p with beforeClose := true })).askPoll t =
      { s with bus := s.busAsked [t] } := by
  have asked : (s.modBus (GaugeBus.markPoll t fun p => { p with beforeClose := true })).askPoll t =
      ({ s with bus := { s.bus with
          queue := queueing s.bus.queue t
          poll := s.bus.poll.map fun p => if p.tank = t then { p with beforeClose := true } else p } }
        : State).serveBus := by
    unfold State.askPoll
    exact congrArg (fun b => State.serveBus { s with bus := b }) (GaugeBus.add_eq t _)
  rw [asked, State.serveBus_eq]
  cases poll : s.bus.poll with
  | some q =>
    rw [if_neg (by simp), State.busAsked_of_poll [t] poll]
    simp only [List.mem_singleton]
    rfl
  | none =>
    obtain ⟨round, queue⟩ := rests poll
    refine (if_pos rfl).trans ?_
    have one : queueing s.bus.queue t = [t] := by rw [queue]; rfl
    have rested : ({ s.bus with poll := none, queue := [] } : GaugeBus) = s.bus := by rw [← poll, ← queue]
    rw [State.busAsked_of_idle [t] poll]
    refine (State.served_one (s := { s with bus := { s.bus with queue := queueing s.bus.queue t, poll := none } })
      one round).trans ?_
    rw [List.dropWhile_cons]
    cases configured : (s.tank t).configured
    · refine (if_neg (Bool.eq_false_iff.1 configured)).trans ?_
      exact congrArg (fun b => ({ s with bus := b } : State)) rested
    · exact if_pos configured

/-- The bus is as it was, and so is what makes a tank configured and gives its address. -/
def State.sameGauges (s v : State) : Prop :=
  v.bus = s.bus ∧ ∀ k, (v.tank k).record = (s.tank k).record ∧ (v.tank k).table = (s.tank k).table

theorem State.busAsked_congr {s v : State} (opens : List (Fin 8)) (same : s.sameGauges v) :
    v.busAsked opens = s.busAsked opens := by
  obtain ⟨bus, tanks⟩ := same
  have configured : ∀ k, (v.tank k).configured = (s.tank k).configured := fun k => by
    unfold Tank.configured
    rw [(tanks k).1, (tanks k).2]
  have polling : ∀ k, v.polling k = s.polling k := fun k => by
    unfold State.polling
    rw [(tanks k).1]
  unfold State.busAsked
  simp only [bus, configured, polling]

/-- The state in which tank t's receipt alone has been taken by shutdown entry. -/
theorem State.tank_shutAt (s : State) (t k : Fin 8) (now : Nat) (roundRuns : Bool) :
    ({ s with tanks := s.tanks.set t ((s.tank t).shutAt now roundRuns) } : State).tank k =
      if k = t then (s.tank t).shutAt now roundRuns else s.tank k := by
  by_cases h : k = t
  · rw [if_pos h, h]
    exact State.tank_modTank_same t (fun k => k.shutAt now roundRuns) s
  · rw [if_neg h]
    exact State.tank_modTank_ne t k h (fun k => k.shutAt now roundRuns) s

theorem State.shutAt_sameGauges (s : State) (t : Fin 8) (now : Nat) (roundRuns : Bool) :
    s.sameGauges { s with tanks := s.tanks.set t ((s.tank t).shutAt now roundRuns) } := by
  refine ⟨rfl, fun k => ?_⟩
  rw [State.tank_shutAt]
  split
  · rename_i h; rw [h]; exact ⟨rfl, rfl⟩
  · exact ⟨rfl, rfl⟩

/-- Shutdown's closing of an inlet: the receipt settles, and a poll of the tank is asked for (04 R96, R99). -/
theorem State.closeReceipt_open {s : State} {t : Fin 8} (rests : s.busRests) (inlet : (s.tank t).inlet = true) :
    s.closeReceipt t .shutdown =
      { s with tanks := s.tanks.set t ((s.tank t).shutAt s.period.clock s.bus.round.isSome)
               bus := s.busAsked [t] } := by
  unfold Tank.inlet at inlet
  cases receipt : (s.tank t).receipt with
  | none => rw [receipt] at inlet; cases inlet
  | some r =>
    rw [receipt] at inlet
    have opened : r.state = .opened := by simpa using inlet
    unfold State.closeReceipt
    rw [receipt]
    dsimp only
    rw [opened]
    dsimp only
    rw [State.askPoll_busAsked t (by exact rests)]
    have settled : ({ s.tank t with
        receipt := some { r with state := .settling, closeTime := some s.now, cause := some .shutdown, rounds := 0
                                 midRound := s.bus.round.isSome } } : Tank) =
        (s.tank t).shutAt s.period.clock s.bus.round.isSome := by
      unfold Tank.shutAt Receipt.shutAt
      rw [receipt, Option.map_some, opened]
      rfl
    have state : (s.modTank t fun k => { k with
        receipt := some { r with state := .settling, closeTime := some s.now, cause := some .shutdown, rounds := 0
                                 midRound := s.bus.round.isSome } }) =
        ({ s with tanks := s.tanks.set t ((s.tank t).shutAt s.period.clock s.bus.round.isSome) } : State) :=
      congrArg (fun k => ({ s with tanks := s.tanks.set t k } : State)) settled
    rw [state, State.busAsked_congr [t] (s.shutAt_sameGauges t _ _)]

theorem State.closeReceipt_shut {s : State} {t : Fin 8} (inlet : (s.tank t).inlet = false) :
    s.closeReceipt t .shutdown = s := by
  unfold State.closeReceipt
  unfold Tank.inlet at inlet
  cases receipt : (s.tank t).receipt with
  | none => rfl
  | some r =>
    rw [receipt] at inlet
    dsimp only
    cases state : r.state with
    | settling => rfl
    | opened => dsimp only at inlet; rw [state] at inlet; cases inlet

/-- A queue that holds none of some tanks, each named once, has them join at its tail in their order (04 R84). -/
theorem foldl_queueing {opens queue : List (Fin 8)} (once : opens.Nodup) (apart : ∀ t ∈ opens, t ∉ queue) :
    opens.foldl queueing queue = queue ++ opens := by
  induction opens generalizing queue with
  | nil => simp
  | cons t opens ih =>
    obtain ⟨out, once⟩ := List.nodup_cons.1 once
    have joins : queueing queue t = queue ++ [t] := if_neg (apart t List.mem_cons_self)
    rw [List.foldl_cons, joins, ih once, List.append_assoc]
    · rfl
    · intro k mem c
      rcases List.mem_append.1 c with c | c
      · exact apart k (List.mem_cons_of_mem t mem) c
      · exact out (List.mem_singleton.1 c ▸ mem)

/-- Polls asked for of tank t and then of the tanks after it are polls asked for of them all. -/
theorem State.busAsked_cons {s v : State} {t : Fin 8} {opens : List (Fin 8)}
    (once : (t :: opens).Nodup) (bus : v.bus = s.busAsked [t])
    (same : ∀ k, (v.tank k).record = (s.tank k).record ∧ (v.tank k).table = (s.tank k).table) :
    v.busAsked opens = s.busAsked (t :: opens) := by
  obtain ⟨out, once⟩ := List.nodup_cons.1 once
  cases poll : s.bus.poll with
  | some q =>
    rw [State.busAsked_of_poll [t] poll] at bus
    have polled : v.bus.poll = some (if q.tank ∈ [t] then { q with beforeClose := true } else q) := by rw [bus]
    rw [State.busAsked_of_poll (t :: opens) poll, State.busAsked_of_poll opens polled, bus]
    by_cases marked : q.tank = t
    · have first : q.tank ∈ [t] := List.mem_singleton.2 marked
      have whole : q.tank ∈ t :: opens := marked ▸ List.mem_cons_self
      rw [if_pos first, if_pos whole, if_neg (show q.tank ∉ opens from marked ▸ out)]
      rfl
    · have first : q.tank ∉ [t] := fun c => marked (List.mem_singleton.1 c)
      have whole : q.tank ∈ t :: opens ↔ q.tank ∈ opens := List.mem_cons.trans (or_iff_right marked)
      rw [if_neg first]
      simp only [whole]
      rfl
  | none =>
    rw [State.busAsked_of_idle [t] poll] at bus
    cases configured : (s.tank t).configured
    · have rested : v.bus = s.bus := by
        rw [bus, List.dropWhile_cons, configured]
        rfl
      rw [State.busAsked_congr opens ⟨rested, same⟩, State.busAsked_of_idle opens poll,
        State.busAsked_of_idle (t :: opens) poll, List.dropWhile_cons, configured]
      rfl
    · have polled : v.bus = { s.bus with poll := some (s.polling t), queue := [] } := by
        rw [bus, List.dropWhile_cons, configured]
        rfl
      have polls : v.bus.poll = some (s.polling t) := by rw [polled]
      rw [State.busAsked_of_poll opens polls, State.busAsked_of_idle (t :: opens) poll, List.dropWhile_cons,
        configured, polled, if_neg (show (s.polling t).tank ∉ opens from out),
        foldl_queueing once fun _ _ => List.not_mem_nil]
      rfl

theorem State.busAsked_nil (s : State) : s.busAsked [] = s.bus := by
  cases poll : s.bus.poll with
  | some q =>
    rw [State.busAsked_of_poll [] poll, if_neg List.not_mem_nil, ← poll]
    rfl
  | none =>
    rw [State.busAsked_of_idle [] poll]
    rfl

/-- Polls asked for keep the round, and leave a bus idle only at rest. -/
theorem State.busAsked_rests (s : State) (opens : List (Fin 8)) (rests : s.busRests) :
    (s.busAsked opens).round = s.bus.round
      ∧ ((s.busAsked opens).poll = none → (s.busAsked opens).round = none ∧ (s.busAsked opens).queue = []) := by
  cases poll : s.bus.poll with
  | some q =>
    rw [State.busAsked_of_poll opens poll]
    exact ⟨rfl, fun c => nomatch c⟩
  | none =>
    rw [State.busAsked_of_idle opens poll]
    cases opens.dropWhile fun t => !(s.tank t).configured with
    | nil => exact ⟨rfl, fun _ => rests poll⟩
    | cons t rest => exact ⟨rfl, fun c => nomatch c⟩

/-- The inlets of some tanks closed one after another. -/
theorem State.closeReceipts_asked (l : List (Fin 8)) (s : State) (once : l.Nodup) (rests : s.busRests) :
    (∀ k, (l.foldl (fun u t => u.closeReceipt t .shutdown) s).tank k =
        if k ∈ l then (s.tank k).shutAt s.period.clock s.bus.round.isSome else s.tank k)
      ∧ (l.foldl (fun u t => u.closeReceipt t .shutdown) s).bus = s.busAsked (l.filter fun t => (s.tank t).inlet)
      ∧ (l.foldl (fun u t => u.closeReceipt t .shutdown) s).link = s.link := by
  induction l generalizing s with
  | nil =>
    exact ⟨fun k => by simp, (State.busAsked_nil s).symm, rfl⟩
  | cons t l ih =>
    obtain ⟨out, once⟩ := List.nodup_cons.1 once
    rw [List.foldl_cons, List.filter_cons]
    cases inlet : (s.tank t).inlet
    · obtain ⟨tanks, bus, link⟩ := ih s once rests
      rw [State.closeReceipt_shut inlet]
      refine ⟨fun k => ?_, bus, link⟩
      rw [tanks k]
      by_cases hk : k = t
      · rw [hk, if_neg out, if_pos List.mem_cons_self, Tank.shutAt_of_shut _ _ inlet]
      · exact if_congr (List.mem_cons.trans (or_iff_right hk)).symm rfl rfl
    · have step := State.closeReceipt_open rests inlet
      generalize s.closeReceipt t .shutdown = v at step
      have tank : ∀ k, v.tank k = if k = t then (s.tank t).shutAt s.period.clock s.bus.round.isSome else s.tank k :=
        fun k => by rw [step]; exact s.tank_shutAt t k _ _
      have apart : ∀ k ∈ l, v.tank k = s.tank k := fun k mem => by
        have other : k ≠ t := fun e => out (e ▸ mem)
        rw [tank, if_neg other]
      have asked : v.bus = s.busAsked [t] := by rw [step]
      have clock : v.period.clock = s.period.clock := by rw [step]
      have kept : v.link = s.link := by rw [step]
      obtain ⟨round, rest⟩ := s.busAsked_rests [t] rests
      rw [← asked] at round rest
      have same : ∀ k, (v.tank k).record = (s.tank k).record ∧ (v.tank k).table = (s.tank k).table := fun k => by
        rw [tank]
        split
        · rename_i h; rw [h]; exact ⟨rfl, rfl⟩
        · exact ⟨rfl, rfl⟩
      obtain ⟨tanks, bus, link⟩ := ih v once rest
      have inlets : (l.filter fun k => (v.tank k).inlet) = l.filter fun k => (s.tank k).inlet :=
        List.filter_congr fun k mem => by rw [apart k mem]
      refine ⟨fun k => ?_, ?_, link.trans kept⟩
      · rw [tanks k, clock, round]
        by_cases hk : k = t
        · rw [hk, if_neg out, if_pos List.mem_cons_self, tank, if_pos rfl]
        · rw [tank, if_neg hk]
          exact if_congr (List.mem_cons.trans (or_iff_right hk)).symm rfl rfl
      · rw [bus, inlets]
        refine State.busAsked_cons (List.nodup_cons.2 ⟨fun c => out (List.mem_filter.1 c).1, ?_⟩) asked same
        exact once.filter _

/-- Shutdown's closing of the inlets, each tank's receipt taken and its poll asked for in turn (04 R99). -/
theorem State.closeInlets_asked {s : State} (rests : s.busRests) :
    (∀ k, s.closeInlets.tank k = (s.tank k).shutAt s.period.clock s.bus.round.isSome)
      ∧ s.closeInlets.bus = s.busAfterEntry ∧ s.closeInlets.link = s.link := by
  obtain ⟨tanks, bus, link⟩ := State.closeReceipts_asked eightNumbers s eightNumbers_nodup rests
  exact ⟨fun k => (tanks k).trans (if_pos (mem_eightNumbers k)), bus.trans s.busAfterEntry_eq.symm, link⟩

end Sys2Proof.Machine
end

section
/-! PROOFS. Shutdown entry as a whole, and the raising of a cause (07 R156 to R158). -/
namespace Sys2Proof.Machine

/-! ## Shutdown entry (07 R157) -/

theorem State.busAfterEntry_congr {s v : State} (bus : v.bus = s.bus) (tanks : v.tanks = s.tanks) :
    v.busAfterEntry = s.busAfterEntry := by
  have tank : ∀ k, v.tank k = s.tank k := fun k => State.tank_congr k s v tanks
  rw [State.busAfterEntry_eq, State.busAfterEntry_eq,
    State.busAsked_congr _ ⟨bus, fun k => by rw [tank]; exact ⟨rfl, rfl⟩⟩]
  simp only [tank]

/-- A header's and the queue's law speaks of the headers and the slot alone. -/
theorem State.queueLawful.of_fields {s v : State} (law : s.queueLawful) (headers : v.headers = s.headers)
    (slot : v.slot = s.slot) : v.queueLawful := by
  refine ⟨by rw [slot]; exact law.1, fun h => ?_⟩
  rw [slot, State.header_congr h s v headers]
  exact law.2 h

/-- The part in shutdown entry once the lanes have been commanded (07 R157 parts 1 and 2). -/
def State.lanesShut (s : State) : State :=
  eachOfEight State.shutLane (s.modShutdown fun u => { u with bay := .shutting })

theorem State.lanesShut_fields (s : State) :
    s.lanesShut.headers = s.headers ∧ s.lanesShut.slot = s.slot ∧ s.lanesShut.tanks = s.tanks
      ∧ s.lanesShut.bus = s.bus ∧ s.lanesShut.period = s.period ∧ s.lanesShut.link = s.link :=
  ⟨eachOfEight_keeps State.headers _ (fun i s => by simp) _, eachOfEight_keeps State.slot _ (fun i s => by simp) _,
    eachOfEight_keeps State.tanks _ (fun i s => by simp) _, eachOfEight_keeps State.bus _ (fun i s => by simp) _,
    eachOfEight_keeps State.period _ (fun i s => by simp) _, eachOfEight_keeps State.link _ (fun i s => by simp) _⟩

theorem State.lanesShut_reports (s : State) :
    (∀ i, s.lanesShut.lane i = (s.lane i).shutAlone s.elapsed)
      ∧ s.lanesShut.shutdown =
        { s.shutdown with
          bay := .shutting, closing := s.shutdown.closing ||| maskOf fun i => (s.lane i).state.demands }
      ∧ s.lanesShut.journal = { s.journal with reserved := s.journal.reserved - s.authorisedLanes } := by
  obtain ⟨shutdown, journal⟩ := State.shutLanes_reports (s.modShutdown fun u => { u with bay := .shutting })
  exact ⟨State.lane_shutLanes (s.modShutdown fun u => { u with bay := .shutting }), shutdown, journal⟩

/-- The part in shutdown entry once the headers are stopped and the inlets closed (07 R157 parts 3 and 4). -/
def State.unitsShut (s : State) : State := s.lanesShut.stopHeaders.closeInlets

theorem State.shutdownEntry_eq (s : State) :
    s.shutdownEntry =
      if s.unitsShut.shutdown.closing = 0 then s.unitsShut.modShutdown fun u => { u with bay := .shut }
      else s.unitsShut := by
  unfold State.shutdownEntry State.unitsShut State.lanesShut
  rfl

/-- Every unit as shutdown entry leaves it, but for the bay's own move to SHUT. -/
theorem State.unitsShut_enters {s : State} (rests : s.busRests) :
    (∀ i, s.unitsShut.lane i = (s.lane i).shutFrom s.elapsed)
      ∧ (∀ h, s.unitsShut.header h = (s.header h).barred)
      ∧ s.unitsShut.slot = { s.slot with queue := s.unitsShut.slot.queue }
      ∧ (s.queueLawful → s.unitsShut.slot.queue = [])
      ∧ (∀ t, s.unitsShut.tank t =
          { s.tank t with receipt := (s.tank t).receipt.map (Receipt.shutAt s.period.clock s.bus.round.isSome) })
      ∧ s.unitsShut.bus = s.busAfterEntry
      ∧ s.unitsShut.shutdown =
        { s.shutdown with
          bay := .shutting, closing := s.shutdown.closing ||| maskOf fun i => (s.lane i).state.demands }
      ∧ s.unitsShut.journal = { s.journal with reserved := s.journal.reserved - s.authorisedLanes }
      ∧ s.unitsShut.link = s.link := by
  obtain ⟨headers, slot, tanks, bus, period, link⟩ := s.lanesShut_fields
  obtain ⟨lane, shutdown, journal⟩ := s.lanesShut_reports
  unfold State.unitsShut
  generalize s.lanesShut = a at headers slot tanks bus period link lane shutdown journal ⊢
  obtain ⟨barred, held, queue⟩ := a.stopHeaders_barred
  have empty := a.stopHeaders_queue
  have bus' : a.stopHeaders.bus = s.bus := by simp [bus]
  have tanks' : a.stopHeaders.tanks = s.tanks := by simp [tanks]
  have clock : a.stopHeaders.period = s.period := by simp [period]
  have shutdown' : a.stopHeaders.shutdown = a.shutdown := by simp
  have journal' : a.stopHeaders.journal = a.journal := by simp
  have link' : a.stopHeaders.link = s.link := by simp [link]
  generalize a.stopHeaders = b at barred held queue empty bus' tanks' clock shutdown' journal' link' ⊢
  have rests' : b.busRests := by unfold State.busRests; rw [bus']; exact rests
  obtain ⟨tank, asked, kept⟩ := State.closeInlets_asked rests'
  have lanesKept : b.closeInlets.lanes = b.lanes := by simp
  have headersKept : b.closeInlets.headers = b.headers := by simp
  have slotKept : b.closeInlets.slot = b.slot := by simp
  have shutdownKept : b.closeInlets.shutdown = b.shutdown := by simp
  have journalKept : b.closeInlets.journal = b.journal := by simp
  generalize b.closeInlets = c at tank asked kept lanesKept headersKept slotKept shutdownKept journalKept ⊢
  refine ⟨fun i => ?_, fun h => ?_, ?_, fun law => ?_, fun t => ?_, ?_, ?_, ?_, ?_⟩
  · rw [State.lane_congr i b c lanesKept, held, lane, Lane.shutFrom_eq]
  · rw [State.header_congr h b c headersKept, barred, State.header_congr h s a headers]
  · rw [slotKept, queue, slot]
  · rw [slotKept, empty (law.of_fields headers slot)]
  · rw [tank, State.tank_congr t s b tanks', clock, bus']
    rfl
  · rw [asked, State.busAfterEntry_congr bus' tanks']
  · rw [shutdownKept, shutdown', shutdown]
  · rw [journalKept, journal', journal]
  · rw [kept, link']

/-- Shutdown entry moves every unit, and of the shutdown record the bay and the closing lanes alone (07 R157). -/
theorem State.shutdownEntry_enters {s : State} (rests : s.busRests) :
    s.entersShutdown s.shutdownEntry
      ∧ s.shutdownEntry.shutdown =
        { s.shutdown with closing := s.shutdownEntry.shutdown.closing, bay := s.shutdownEntry.shutdown.bay }
      ∧ s.shutdownEntry.link = s.link := by
  obtain ⟨lane, header, slot, queue, tank, bus, shutdown, journal, link⟩ := State.unitsShut_enters rests
  rw [State.shutdownEntry_eq]
  generalize s.unitsShut = t at *
  have closing : t.shutdown.closing = s.shutdown.closing ||| maskOf fun i => (s.lane i).state.demands := by
    rw [shutdown]
  have bay : t.shutdown.bay = .shutting := by rw [shutdown]
  by_cases none : t.shutdown.closing = 0
  · rw [if_pos none]
    refine ⟨⟨lane, header, slot, queue, tank, bus, closing, (if_pos none).symm, journal⟩, ?_, link⟩
    show ({ t.shutdown with bay := .shut } : Shutdown) = { s.shutdown with closing := t.shutdown.closing, bay := .shut }
    rw [shutdown]
  · rw [if_neg none]
    refine ⟨⟨lane, header, slot, queue, tank, bus, closing, ?_, journal⟩, ?_, link⟩
    · rw [bay, if_neg none]
    · rw [closing, bay, shutdown]

/-! ## Causes (07 R156) -/

theorem onStack_iff (kind : CauseKind) (stack : List CauseRecord) :
    onStack kind stack = true ↔ ∃ r ∈ stack, r.kind = kind := by
  unfold onStack
  simp

theorem pushOrMerge_stackAfter (kind : CauseKind) (detail : Mask) (clock : Nat) (stack : List CauseRecord) :
    pushOrMerge kind detail clock stack = stackAfter kind detail clock stack := by
  unfold pushOrMerge stackAfter
  simp only [onStack_iff]
  rfl

/-- A recorded cause stands on the stack. -/
theorem mem_stackAfter (kind : CauseKind) (detail : Mask) (clock : Nat) (stack : List CauseRecord) :
    ∃ r ∈ stackAfter kind detail clock stack, r.kind = kind := by
  unfold stackAfter
  split
  · rename_i on
    obtain ⟨r, mem, here⟩ := on
    exact ⟨_, List.mem_map.2 ⟨r, mem, rfl⟩, by rw [if_pos here]; exact here⟩
  · exact ⟨_, List.mem_cons_self, rfl⟩

/-- The repeats a SHUTDOWN notice carries are those of the kind's record. -/
theorem repeatsOf_eq {kind : CauseKind} {stack : List CauseRecord} (on : ∃ r ∈ stack, r.kind = kind) :
    ∃ r ∈ stack, r.kind = kind ∧ repeatsOf kind stack = r.repeats := by
  unfold repeatsOf
  cases found : stack.find? fun r => r.kind == kind with
  | none =>
    obtain ⟨r, mem, here⟩ := on
    exact absurd (by simpa using here) (List.find?_eq_none.1 found r mem)
  | some r => exact ⟨r, List.mem_of_find?_eq_some found, by simpa using List.find?_some found, rfl⟩

/-- A cause recorded, and the entry it makes: the part but for the SHUTDOWN notice (07 R156 steps 1 to 4). -/
def State.caused (kind : CauseKind) (detail : Mask) (s : State) : State := (s.recordCause kind detail).entryIfOpen

theorem State.recordCause_eq (kind : CauseKind) (detail : Mask) (s : State) :
    s.recordCause kind detail =
      { s with shutdown := { s.shutdown with
          stack := stackAfter kind detail s.period.clock s.shutdown.stack
          causes := min 65535 (s.shutdown.causes + 1) } } := by
  rw [← pushOrMerge_stackAfter]
  rfl

/-- Entry is made from ARMED and DISARMED alone (07 R158). -/
theorem State.entryIfOpen_eq (s : State) :
    s.entryIfOpen =
      if s.shutdown.bay = .armed ∨ s.shutdown.bay = .disarmed then s.shutdownEntry else s := by
  unfold State.entryIfOpen
  cases s.shutdown.bay <;> simp

/-- A notice of level 7 passes every mask (09 R194). -/
theorem State.notify_shutdown (s : State) (kind : CauseKind) (detail : Mask) (repeats : Nat) (merged : Bool)
    (depth : Nat) (bay : BayState) :
    s.notify (.shutdown kind detail repeats merged depth bay) =
      { s with link := s.link.offer ⟨s.period.clock, .shutdown kind detail repeats merged depth bay⟩ } := rfl

/-- What recording a cause and the entry it makes move, but for the notice (07 R156, R158). -/
theorem State.caused_moves {s : State} (rests : s.busRests) (kind : CauseKind) (detail : Mask) :
    (s.caused kind detail).shutdown = { s.shutdown with
        stack := stackAfter kind detail s.period.clock s.shutdown.stack
        causes := min 65535 (s.shutdown.causes + 1), closing := (s.caused kind detail).shutdown.closing
        bay := (s.caused kind detail).shutdown.bay }
      ∧ (s.shutdown.bay = .armed ∨ s.shutdown.bay = .disarmed → s.entersShutdown (s.caused kind detail))
      ∧ (s.shutdown.bay ≠ .armed → s.shutdown.bay ≠ .disarmed →
          s.caused kind detail = s.recordCause kind detail)
      ∧ (s.caused kind detail).link = s.link := by
  unfold State.caused
  rw [State.entryIfOpen_eq]
  by_cases opens : s.shutdown.bay = .armed ∨ s.shutdown.bay = .disarmed
  · have entered : (s.recordCause kind detail).shutdown.bay = .armed ∨ (s.recordCause kind detail).shutdown.bay
      = .disarmed := opens
    rw [if_pos entered]
    have recorded : (s.recordCause kind detail).busRests := rests
    obtain ⟨enters, shutdown, link⟩ := State.shutdownEntry_enters recorded
    have stack := s.recordCause_eq kind detail
    generalize s.recordCause kind detail = r at *
    subst stack
    refine ⟨shutdown, fun _ => enters, fun a d => ?_, link⟩
    rcases opens with c | c
    · exact absurd c a
    · exact absurd c d
  · have stays : ¬ ((s.recordCause kind detail).shutdown.bay = .armed
      ∨ (s.recordCause kind detail).shutdown.bay = .disarmed) := opens
    rw [if_neg stays]
    refine ⟨?_, fun c => absurd c opens, fun _ _ => rfl, rfl⟩
    rw [State.recordCause_eq]

/-- A cause is raised: it is recorded, the bay makes shutdown entry where it is open, and SHUTDOWN is sent (07 R156). -/
theorem State.raise_raises {s : State} (rests : s.busRests) (kind : CauseKind) (detail : Mask) :
    s.raises (s.raise kind detail) kind detail := by
  obtain ⟨shutdown, opens, stays, link⟩ := State.caused_moves rests kind detail
  have raised : s.raise kind detail =
      (s.caused kind detail).notify (.shutdown kind detail (repeatsOf kind (s.caused kind detail).shutdown.stack)
        (onStack kind s.shutdown.stack) (s.caused kind detail).shutdown.stack.length
        (s.caused kind detail).shutdown.bay) := rfl
  have fields : s.caused kind detail =
      { s with lanes := (s.caused kind detail).lanes, headers := (s.caused kind detail).headers
               slot := (s.caused kind detail).slot, tanks := (s.caused kind detail).tanks
               bus := (s.caused kind detail).bus, journal := (s.caused kind detail).journal
               shutdown := (s.caused kind detail).shutdown, link := (s.caused kind detail).link } := by
    unfold State.caused
    apply State.ext_fields <;> simp
  have stack : (s.caused kind detail).shutdown.stack = stackAfter kind detail s.period.clock s.shutdown.stack := by
    rw [shutdown]
  have on : ∃ r ∈ (s.caused kind detail).shutdown.stack, r.kind = kind := by
    rw [stack]; exact mem_stackAfter ..
  have merged : onStack kind s.shutdown.stack = decide (∃ r ∈ s.shutdown.stack, r.kind = kind) :=
    Bool.eq_iff_iff.2 ((onStack_iff kind _).trans decide_eq_true_iff.symm)
  have clock : (s.caused kind detail).period.clock = s.period.clock := by rw [fields]
  obtain ⟨r, mem, here, repeats⟩ := repeatsOf_eq on
  rw [raised, State.notify_shutdown, merged, repeats, clock, link]
  have left : s.shutdown.bay ≠ .armed → s.shutdown.bay ≠ .disarmed →
      ({ s.caused kind detail with link := s.link } : State) =
        { s with shutdown := { s.shutdown with
            stack := (s.caused kind detail).shutdown.stack, causes := (s.caused kind detail).shutdown.causes } } := by
    intro a d
    rw [stays a d, State.recordCause_eq]
  generalize s.caused kind detail = c at *
  refine ⟨shutdown, opens, fun a d => ?_, ⟨r, mem, here, rfl⟩, ?_⟩
  · exact congrArg (fun u : State => { u with link := s.link.offer ⟨s.period.clock, .shutdown kind detail r.repeats
      (decide (∃ r ∈ s.shutdown.stack, r.kind = kind)) c.shutdown.stack.length c.shutdown.bay⟩ }) (left a d)
  · exact congrArg (fun u : State => { u with link := s.link.offer ⟨s.period.clock, .shutdown kind detail r.repeats
      (decide (∃ r ∈ s.shutdown.stack, r.kind = kind)) c.shutdown.stack.length c.shutdown.bay⟩ }) fields

end Sys2Proof.Machine
end

section
/-! PROOFS. A metered sample: what it takes in, its tests, the hose test and the debit (O46). -/
namespace Sys2Proof.Machine

/-! ## The sample is taken (01 R17; 02 R35 to R37) -/

/-- A lane that has taken in a metered sample of its own count, at a clock (01 R17, R20; 02 R35 to R37, R49). -/
def Lane.sampledOn (m : Metered) (clock : Nat) (l : Lane) : Lane :=
  { l with
    pulses := 0, quietRun := if l.pulses = 0 then min 5 (l.quietRun + 1) else 0, rates := m.rates
    noFlowRun :=
      if l.pulses ≠ 0 then 0
      else if l.state = .flowing ∨ l.state = .trimming then l.noFlowRun + 1 else l.noFlowRun
    grossResidue := m.grossResidue, netResidue := m.netResidue
    delivery :=
      { l.delivery with
        gross := l.delivery.gross + m.gross, net := l.delivery.net + m.net
        peak := max l.delivery.peak m.rate, rate := m.rate
        firstFlow := if l.pulses ≠ 0 ∧ l.delivery.firstFlow = none then some clock else l.delivery.firstFlow
        lastT10 := if l.pulses = 0 then l.delivery.lastT10 else m.t10
        flags :=
          { l.delivery.flags with
            saturated := l.delivery.flags.saturated || m.flags.saturated
            tempHeld := l.delivery.flags.tempHeld || m.flags.tempHeld
            tempClamped := l.delivery.flags.tempClamped || m.flags.tempClamped } }
    totals :=
      { l.totals with
        gross := min 281474976710655 (l.totals.gross + m.gross)
        net := min 281474976710655 (l.totals.net + m.net), peak := max l.totals.peak m.rate } }

/-- What metering may find: no flag beside its three, and a temperature exactly on a nonzero count (02 R36, R49). -/
theorem State.metering_finds (s : State) (i : Fin 8) (n : Nat) :
    (s.metering i n).flags =
        { saturated := (s.metering i n).flags.saturated, tempHeld := (s.metering i n).flags.tempHeld
          tempClamped := (s.metering i n).flags.tempClamped }
      ∧ ((s.metering i n).t10 = none ↔ n = 0) := by
  unfold State.metering
  dsimp only
  by_cases zero : n = 0
  · rw [if_pos zero]
    exact ⟨rfl, iff_of_true rfl zero⟩
  · rw [if_neg zero]
    exact ⟨rfl, iff_of_false (by simp) zero⟩

/-- The delivery with a sample taken in, its flags and temperature said one by one. -/
theorem Delivery.addSample_eq {n : Nat} {m : Metered} (clock : Nat) (d : Delivery)
    (flags : m.flags = { saturated := m.flags.saturated, tempHeld := m.flags.tempHeld
                         tempClamped := m.flags.tempClamped })
    (temperature : m.t10 = none ↔ n = 0) :
    d.addSample n m clock =
      { d with
        gross := d.gross + m.gross, net := d.net + m.net, peak := max d.peak m.rate, rate := m.rate
        firstFlow := if n ≠ 0 ∧ d.firstFlow = none then some clock else d.firstFlow
        lastT10 := if n = 0 then d.lastT10 else m.t10
        flags :=
          { d.flags with
            saturated := d.flags.saturated || m.flags.saturated
            tempHeld := d.flags.tempHeld || m.flags.tempHeld
            tempClamped := d.flags.tempClamped || m.flags.tempClamped } } := by
  have union : d.flags.union m.flags =
      { d.flags with
        saturated := d.flags.saturated || m.flags.saturated
        tempHeld := d.flags.tempHeld || m.flags.tempHeld
        tempClamped := d.flags.tempClamped || m.flags.tempClamped } := by
    rw [flags]
    unfold JournalFlags.union
    simp only [Bool.or_false]
  unfold Delivery.addSample
  rw [union]
  cases found : m.t10 with
  | none => rw [if_pos (temperature.1 found)]
  | some t =>
    have counted : n ≠ 0 := fun c => by rw [temperature.2 c] at found; cases found
    rw [if_neg counted]

theorem Lane.addSample_readCount {m : Metered} {l : Lane} (clock : Nat)
    (flags : m.flags = { saturated := m.flags.saturated, tempHeld := m.flags.tempHeld
                         tempClamped := m.flags.tempClamped })
    (temperature : m.t10 = none ↔ l.pulses = 0) :
    l.readCount.addSample l.pulses m clock = l.sampledOn m clock := by
  rw [Lane.readCount_eq]
  unfold Lane.addSample
  rw [Delivery.addSample_eq clock _ flags temperature]
  rfl

/-- The state once the feed tank's reading has been used by a count (02 R49; 04 R88). -/
def State.readingUsed (i : Fin 8) (n : Nat) (s : State) : State :=
  match (if n = 0 then none else s.laneTank i) with
  | none => s
  | some t => { s with tanks := s.tanks.set t (s.tank t).used, link := s.linkRaising ((s.tank t).useNotice t) }

/-- A lane's read leaves which tank feeds it. -/
theorem State.laneTank_modLane_readCount (i : Fin 8) (s : State) :
    (s.modLane i Lane.readCount).laneTank i = s.laneTank i := by
  unfold State.laneTank
  rw [State.lane_modLane_same]
  rfl

/-- The use of the reading and the lane's read do not meet. -/
theorem State.useLaneReading_readingUsed (i : Fin 8) (n : Nat) (s : State) :
    (if n = 0 then s.modLane i Lane.readCount else (s.modLane i Lane.readCount).useLaneReading i) =
      { s.readingUsed i n with lanes := s.lanes.set i (s.lane i).readCount } := by
  unfold State.readingUsed
  by_cases zero : n = 0
  · rw [if_pos zero, if_pos zero]
    rfl
  · rw [if_neg zero, if_neg zero]
    unfold State.useLaneReading
    rw [State.laneTank_modLane_readCount]
    cases s.laneTank i with
    | none => rfl
    | some t =>
      dsimp only
      rw [State.useReading_used]
      rfl

theorem State.readingUsed_fields (i : Fin 8) (n : Nat) (s : State) :
    (s.readingUsed i n).lanes = s.lanes ∧ (s.readingUsed i n).bus = s.bus ∧ (s.readingUsed i n).products = s.products
      ∧ (s.readingUsed i n).power = s.power ∧ (s.readingUsed i n).period = s.period
      ∧ ∀ t, ((s.readingUsed i n).tank t).record = (s.tank t).record := by
  unfold State.readingUsed
  split
  · exact ⟨rfl, rfl, rfl, rfl, rfl, fun _ => rfl⟩
  · rename_i t _
    refine ⟨rfl, rfl, rfl, rfl, rfl, fun k => ?_⟩
    show ((s.modTank t Tank.used).tank k).record = _
    by_cases hk : k = t
    · rw [hk, State.tank_modTank_same]; rfl
    · rw [State.tank_modTank_ne t k hk]

/-- The part with a metered sample of lane i taken in, before its tests and the debit (01 R17). -/
def State.sampleTaken (i : Fin 8) (s : State) : State :=
  { s.readingUsed i (s.lane i).pulses with
    lanes := (s.readingUsed i (s.lane i).pulses).lanes.set i
      ((s.lane i).sampledOn (s.metering i (s.lane i).pulses) s.period.clock) }

/-- SAMPLE of a metered lane: the sample taken in, the lane's tests, and the debit (01 R17; 02 R36). -/
theorem sample_metered {i : Fin 8} {s : State} (metered : (s.lane i).state.metered = true) :
    sample i s =
      if (s.lane i).pulses = 0 then (s.sampleTaken i).laneTests i
      else ((s.sampleTaken i).laneTests i).debitLane i (s.metering i (s.lane i).pulses).net := by
  have taken : (if (s.lane i).pulses = 0 then s.modLane i Lane.readCount
      else (s.modLane i Lane.readCount).useLaneReading i).modLane i
        (Lane.addSample (s.lane i).pulses (s.metering i (s.lane i).pulses) s.now) = s.sampleTaken i := by
    obtain ⟨flags, temperature⟩ := s.metering_finds i (s.lane i).pulses
    rw [State.useLaneReading_readingUsed]
    unfold State.sampleTaken
    rw [← Lane.addSample_readCount s.period.clock flags temperature, (s.readingUsed_fields i _).1]
    unfold State.modLane State.setLanes
    simp only [Vector.set_set, Fin.getElem_fin, Vector.getElem_set_self]
    rfl
  unfold sample
  dsimp only
  rw [if_pos metered]
  unfold State.meteredSample
  dsimp only
  rw [State.metering_modLane_readCount]
  exact congrArg (fun u : State => if (s.lane i).pulses = 0 then u.laneTests i
    else (u.laneTests i).debitLane i (s.metering i (s.lane i).pulses).net) taken

end Sys2Proof.Machine
end

section
/-! PROOFS. The tests of a metered sample and the hose test (O46). -/
namespace Sys2Proof.Machine

/-! ## The lane's tests (01 R17 to R20) -/

/-- A close that does not complete leaves the sample as taken. -/
theorem State.laneTests_of_closing {i : Fin 8} {u : State} (closing : (u.lane i).state = .closing)
    (loud : (u.lane i).quietRun < 5) : u.laneTests i = u := by
  unfold State.laneTests State.closeTest
  rw [if_pos closing, if_neg (Nat.not_le.2 loud)]

theorem State.laneTests_of_demands {i : Fin 8} {p : Fin 6} {u : State} (demands : (u.lane i).state.demands = true)
    (product : (u.lane i).record.product = some p) : u.laneTests i = (u.applyTests i p).hoseTest i p := by
  unfold State.laneTests
  have flowing : (u.lane i).state ≠ .closing := fun c => by rw [c] at demands; cases demands
  rw [if_neg flowing, product]

/-- The stage after the prime test (01 R18). -/
def Lane.primed (q : Product) (l : Lane) : Option Stage :=
  if l.stage = some .prime ∧ q.primeVolume ≤ l.delivery.gross then some Stage.main else l.stage

/-- The lane after the prime and preset tests of a sample that does not reach close-ahead (01 R18, R19). -/
def Lane.tested (q : Product) (l : Lane) : Lane :=
  { l with
    stage := if l.delivery.remaining ≤ q.trimVolume ∧ l.primed q ≠ some .trim then some .trim else l.primed q
    state := if (l.delivery.remaining ≤ q.trimVolume ∧ l.primed q ≠ some .trim) ∧ l.state = .flowing then .trimming
      else l.state }

theorem Lane.tested_demands {q : Product} {l : Lane} (demands : l.state.demands = true) :
    (l.tested q).state.demands = true := by
  unfold Lane.tested
  dsimp only
  split
  · rfl
  · exact demands

theorem State.applyTests_of_ending {i : Fin 8} {p : Fin 6} {u : State} {l : Lane} {cause : EndCause}
    (tests : (u.lane i).sampleTests (u.product p) = (l, some cause)) :
    u.applyTests i p = (u.modLane i fun _ => l).closeLane i cause := by
  unfold State.applyTests
  rw [tests]

theorem State.applyTests_of_none {i : Fin 8} {p : Fin 6} {u : State} {l : Lane}
    (tests : (u.lane i).sampleTests (u.product p) = (l, none)) :
    u.applyTests i p =
      if l.stage = (u.lane i).stage then u.modLane i fun _ => l else (u.modLane i fun _ => l).grantPass p := by
  unfold State.applyTests
  rw [tests]

/-- The tests of a demanding lane, each outcome with what the header makes of it (01 R17 to R20; 03 R72). -/
theorem State.applyTests_moves {i : Fin 8} {p : Fin 6} {u : State} {l : Lane} {q : Product} {with' : Lane → State}
    (lane : u.lane i = l) (record : u.product p = q)
    (set : ∀ x, ({ u with lanes := u.lanes.set i x } : State) = with' x) (demands : l.state.demands = true) :
    let w := u.applyTests i p
    let noFlow := l.state ≠ .waiting ∧ 5 * q.noFlow ≤ l.noFlowRun
    (l.delivery.remaining ≤ q.closeAhead → (with' { l with stage := l.primed q }).entersClosing w i .preset)
      ∧ (q.closeAhead < l.delivery.remaining →
        (noFlow → (with' (l.tested q)).entersClosing w i .noflow)
        ∧ (¬ noFlow → (l.tested q).stage = l.stage → w = with' (l.tested q))
        ∧ (¬ noFlow → (l.tested q).stage ≠ l.stage →
          (with' (l.tested q)).passOf w p ∧ w = { with' (l.tested q) with lanes := w.lanes })) := by
  obtain rfl : (fun x => ({ u with lanes := u.lanes.set i x } : State)) = with' := funext set
  subst lane record
  intro w noFlow
  let l := u.lane i
  let q := u.product p
  let with' := fun x : Lane => ({ u with lanes := u.lanes.set i x } : State)
  have tests : l.sampleTests q =
      if l.delivery.remaining ≤ q.closeAhead then ({ l with stage := l.primed q }, some .preset)
      else (l.tested q, if noFlow then some .noflow else none) := Lane.sampleTests_eq q l demands
  have close : ∀ (x : Lane) (cause : EndCause), l.sampleTests q = (x, some cause) → x.state.demands = true →
      (with' x).entersClosing w i cause := fun x cause outcome on => by
    have applied : w = (u.modLane i fun _ => x).closeLane i cause := State.applyTests_of_ending outcome
    have here : ((u.modLane i fun _ => x).lane i).state.demands = true := by
      rw [State.lane_modLane_same]; exact on
    rw [applied]
    exact State.closeLane_entersClosing i cause _ here
  refine ⟨fun low => close _ _ (tests.trans (if_pos low)) demands, fun high => ?_⟩
  have outcome := tests.trans (if_neg (Nat.not_le.2 high))
  refine ⟨fun quiet => close _ _ (outcome.trans (by rw [if_pos quiet])) (Lane.tested_demands demands),
    fun flows same => ?_, fun flows moved => ?_⟩
  · rw [if_neg flows] at outcome
    exact (State.applyTests_of_none outcome).trans (if_pos same)
  · rw [if_neg flows] at outcome
    have applied : w = (with' (l.tested q)).grantPass p := (State.applyTests_of_none outcome).trans (if_neg moved)
    rw [applied]
    exact ⟨State.grantPass_passOf p _, (State.grantPass_grantsMoved p _).1⟩

/-! ## What the tests leave of a lane -/

/-- The record and the rate of a lane, which no close and no pass touches. -/
def Lane.figures (l : Lane) : LaneRecord × Nat := (l.record, l.delivery.rate)

theorem Lane.sameButGrant.figures_eq {a b : Lane} (h : a.sameButGrant b) : b.figures = a.figures := by rw [h]; rfl

theorem State.closeLane_figures (i j : Fin 8) (cause : EndCause) (s : State) :
    ((s.closeLane i cause).lane j).figures = (s.lane j).figures := by
  have core : ((s.closeCore i cause).lane j).figures = (s.lane j).figures := by
    by_cases h : j = i
    · rw [h, State.lane_closeCore_same]; rfl
    · rw [State.lane_closeCore_ne i j h]
  unfold State.closeLane
  split
  · rw [← core]
    unfold State.laneDemandLeft
    split
    · rename_i h _
      exact ((State.demandLeft_headerMoved h _).lanes j).figures_eq
    · rfl
  · rfl

theorem Lane.sampleTests_figures (q : Product) (l : Lane) (demands : l.state.demands = true) :
    (l.sampleTests q).1.figures = l.figures := by
  rw [Lane.sampleTests_eq q l demands]
  split <;> rfl

theorem State.applyTests_figures {i : Fin 8} {p : Fin 6} {u : State} (demands : (u.lane i).state.demands = true)
    (j : Fin 8) : ((u.applyTests i p).lane j).figures = (u.lane j).figures := by
  have tested : ((u.modLane i fun _ => ((u.lane i).sampleTests (u.product p)).1).lane j).figures =
      (u.lane j).figures := by
    by_cases h : j = i
    · rw [h, State.lane_modLane_same, Lane.sampleTests_figures _ _ demands]
    · rw [State.lane_modLane_ne i j h]
  rw [← tested]
  unfold State.applyTests
  dsimp only
  split
  · exact State.closeLane_figures ..
  · split
    · rfl
    · exact ((State.grantPass_headerMoved p _).lanes j).figures_eq

/-! ## The hose test (01 R29) -/

theorem LaneState.flows_iff (x : LaneState) : x.flows = true ↔ x = .flowing ∨ x = .trimming := by
  cases x <;> simp [LaneState.flows]

/-- A valve stands FULL in stage MAIN of a FLOWING lane with a FULL grant, and SLOW in any other flow (01 R5, R29). -/
theorem Lane.valveRate_eq (q : Product) (l : Lane) :
    l.valveRate q =
      if l.state = .flowing ∧ l.stage = some .main ∧ l.grant = .full then q.fullRate else q.slowRate := by
  have full : l.valve = .full ↔ l.state = .flowing ∧ l.stage = some .main ∧ l.grant = .full := by
    unfold Lane.valve Lane.stageDemand
    cases l.state
    case flowing => by_cases main : l.stage = some .main <;> cases l.grant <;> simp [main]
    case trimming => cases l.grant <;> simp
    all_goals simp
  unfold Lane.valveRate
  exact if_congr full rfl rfl

/-- The hose test by its rate and count (01 R29). -/
theorem State.hoseTest_moves {i : Fin 8} {p : Fin 6} {w : State} {rate : Nat} {q : Product} (rests : w.busRests)
    (passing : (w.lane i).delivery.rate = rate) (record : w.product p = q) :
    let k := w.lane i
    let flows := k.state = .flowing ∨ k.state = .trimming
    let valveRate :=
      if k.state = .flowing ∧ k.stage = some .main ∧ k.grant = .full then q.fullRate else q.slowRate
    let v := w.hoseTest i p
    let hose := fun c : Nat => ({ w with lanes := w.lanes.set i { k with hoseCount := c } } : State)
    (¬ flows → v = w)
      ∧ (flows → rate * 4 ≤ valveRate * 5 → v = hose 0)
      ∧ (flows → valveRate * 5 < rate * 4 → k.hoseCount = 0 → v = hose 1)
      ∧ (flows → valveRate * 5 < rate * 4 → k.hoseCount ≠ 0 → (hose 0).raises v .hose (oneMember i)) := by
  subst passing record
  intro k flows valveRate v hose
  have tested : v = w.hoseTest i p := rfl
  unfold State.hoseTest at tested
  dsimp only at tested
  rw [Lane.valveRate_eq] at tested
  refine ⟨fun still => ?_, fun on low => ?_, fun on high first => ?_, fun on high again => ?_⟩
  · exact tested.trans (if_neg fun c => still ((LaneState.flows_iff _).1 c))
  · exact tested.trans ((if_pos ((LaneState.flows_iff _).2 on)).trans (if_neg (Nat.not_lt.2 low)))
  · exact tested.trans ((if_pos ((LaneState.flows_iff _).2 on)).trans ((if_pos high).trans (if_pos first)))
  · have raised : v = (hose 0).raise .hose (oneMember i) :=
      tested.trans ((if_pos ((LaneState.flows_iff _).2 on)).trans ((if_pos high).trans (if_neg again)))
    rw [raised]
    exact State.raise_raises (by exact rests) _ _

end Sys2Proof.Machine
end

section
/-! PROOFS. The debit of a metered sample, and the sample as a whole (O46). -/
namespace Sys2Proof.Machine

/-! ## Which tank feeds a lane -/

/-- Which tank feeds a lane rests on the records alone. -/
theorem State.laneTank_congr {s u : State} {i : Fin 8} (lane : (u.lane i).record = (s.lane i).record)
    (tanks : ∀ t, (u.tank t).record = (s.tank t).record) (products : u.products = s.products) :
    u.laneTank i = s.laneTank i := by
  have product : ∀ p, u.product p = s.product p := fun p => State.product_congr p s u products
  unfold State.laneTank State.feedTank
  simp only [lane, tanks, product]

theorem Lane.shutFrom_record (elapsed : Nat) (l : Lane) : (l.shutFrom elapsed).record = l.record := by
  rw [Lane.shutFrom_eq]
  have alone : (l.shutAlone elapsed).record = l.record := by
    unfold Lane.shutAlone
    split <;> rfl
  split
  · exact alone
  · exact alone

/-- Two states give their lanes and tanks the same records. -/
def State.sameRecords (s u : State) : Prop :=
  (∀ i, (u.lane i).record = (s.lane i).record) ∧ (∀ t, (u.tank t).record = (s.tank t).record)
    ∧ u.products = s.products

theorem State.sameRecords.trans {s t u : State} (a : s.sameRecords t) (b : t.sameRecords u) : s.sameRecords u :=
  ⟨fun i => (b.1 i).trans (a.1 i), fun k => (b.2.1 k).trans (a.2.1 k), b.2.2.trans a.2.2⟩

theorem State.sameRecords.laneTank {s u : State} (same : s.sameRecords u) (i : Fin 8) : u.laneTank i = s.laneTank i :=
  State.laneTank_congr (same.1 i) same.2.1 same.2.2

/-- A change of a lane that keeps its record leaves every record. -/
theorem State.modLane_sameRecords {i : Fin 8} {f : Lane → Lane} {s : State}
    (h : (f (s.lane i)).record = (s.lane i).record) : s.sameRecords (s.modLane i f) := by
  refine ⟨fun j => ?_, fun _ => rfl, rfl⟩
  by_cases hj : j = i
  · rw [hj, State.lane_modLane_same, h]
  · rw [State.lane_modLane_ne i j hj]

/-- A cause raised leaves every record. -/
theorem State.raises.sameRecords {s u : State} {kind : CauseKind} {detail : Mask}
    (raised : s.raises u kind detail) : s.sameRecords u := by
  obtain ⟨_, opens, stays, _, rest⟩ := raised
  have products : u.products = s.products := by rw [rest]
  by_cases bay : s.shutdown.bay = .armed ∨ s.shutdown.bay = .disarmed
  · obtain ⟨lanes, _, _, _, tanks, _⟩ := opens bay
    exact ⟨fun i => by rw [lanes, Lane.shutFrom_record], fun t => by rw [tanks], products⟩
  · have still := stays (fun c => bay (Or.inl c)) (fun c => bay (Or.inr c))
    exact ⟨fun i => by rw [still]; rfl, fun t => by rw [still]; rfl, products⟩

/-- The hose test leaves every record. -/
theorem State.hoseTest_sameRecords {i : Fin 8} {p : Fin 6} {w : State} (rests : w.busRests) :
    w.sameRecords (w.hoseTest i p) := by
  unfold State.hoseTest
  dsimp only
  split
  · split
    · split
      · exact State.modLane_sameRecords rfl
      · have counted : w.sameRecords (w.modLane i fun l => { l with hoseCount := 0 }) :=
          State.modLane_sameRecords rfl
        exact counted.trans (State.raise_raises (by exact rests) _ _).sameRecords
    · exact State.modLane_sameRecords rfl
  · exact ⟨fun _ => rfl, fun _ => rfl, rfl⟩

/-! ## The debit (02 R56) -/

/-- The last part of a sample: the debit of a nonzero count to the tank that feeds the lane. -/
theorem State.debitLane_moves {v : State} {i : Fin 8} {feed : Option (Fin 8)} (n net : Nat)
    (feeds : v.laneTank i = feed) :
    let u := if n = 0 then v else v.debitLane i net
    (n = 0 ∨ feed = none → u = v)
      ∧ ∀ t, n ≠ 0 → feed = some t →
        let kv := v.tank t
        let debited : Tank :=
          ({ kv.booked (-net) with
              dispensed := kv.dispensed + net, sincePoll := kv.sincePoll + net
              periodDispensed := kv.periodDispensed + net } : Tank).banded
        v.lanesBanded u t kv.band
          ∧ u = { v with tanks := v.tanks.set t debited, lanes := u.lanes
                         link := v.linkRaising (debited.lowNotice t kv.band) } := by
  intro u
  refine ⟨fun off => ?_, fun t counted fed => ?_⟩
  · have idle : n ≠ 0 → v.debitLane i net = v := fun counted => by
      unfold State.debitLane
      rw [feeds, off.resolve_left counted]
    by_cases zero : n = 0
    · exact if_pos zero
    · exact (if_neg zero).trans (idle zero)
  · have debited : u = v.debitTank t net := by
      refine (if_neg counted).trans ?_
      unfold State.debitLane
      rw [feeds, fed]
    have moves := State.debitTank_banded t net v
    rw [Tank.debit_eq] at moves
    rw [debited]
    exact moves

/-! ## The sample as a whole -/

theorem State.lane_sampleTaken (i : Fin 8) (s : State) :
    (s.sampleTaken i).lane i = (s.lane i).sampledOn (s.metering i (s.lane i).pulses) s.period.clock :=
  State.lane_modLane_same i (fun _ => (s.lane i).sampledOn (s.metering i (s.lane i).pulses) s.period.clock)
    (s.readingUsed i (s.lane i).pulses)

/-- The lane changed again after the sample is the lane changed once. -/
theorem State.sampleTaken_set (i : Fin 8) (s : State) (x : Lane) :
    ({ s.sampleTaken i with lanes := (s.sampleTaken i).lanes.set i x } : State) =
      { s.readingUsed i (s.lane i).pulses with lanes := (s.readingUsed i (s.lane i).pulses).lanes.set i x } := by
  unfold State.sampleTaken
  rw [Vector.set_set]

theorem State.sampleTaken_sameRecords (i : Fin 8) (s : State) : s.sameRecords (s.sampleTaken i) := by
  obtain ⟨lanes, _, products, _, _, records⟩ := s.readingUsed_fields i (s.lane i).pulses
  have read : s.sameRecords (s.readingUsed i (s.lane i).pulses) :=
    ⟨fun j => by rw [State.lane_congr j _ _ lanes], records, products⟩
  refine read.trans (State.modLane_sameRecords
    (f := fun _ => (s.lane i).sampledOn (s.metering i (s.lane i).pulses) s.period.clock) ?_)
  rw [State.lane_congr i _ _ lanes]
  rfl

theorem State.sampleTaken_bus (i : Fin 8) (s : State) : (s.sampleTaken i).bus = s.bus :=
  (s.readingUsed_fields i (s.lane i).pulses).2.1

/-- The tests of a lane leave every record. -/
theorem State.applyTests_sameRecords {i : Fin 8} {p : Fin 6} {u : State} (demands : (u.lane i).state.demands = true) :
    u.sameRecords (u.applyTests i p) :=
  ⟨fun j => congrArg Prod.fst (State.applyTests_figures demands j),
    fun t => by rw [State.tank_congr t u _ (by simp)], by simp⟩

end Sys2Proof.Machine

namespace Sys2Proof
open Sys2Proof.Machine

/-- Settles O46: the sample is taken, the tests, the hose test and the debit follow, each by its own law. -/
theorem meteredSampleAdds : Obligations.MeteredSampleAdds := by
  intro i s p running bus product inHand l q n m d used sampled with' remaining stage trims tested noFlow
  have rests : (s.sampleTaken i).busRests := by
    unfold State.busRests
    rw [State.sampleTaken_bus]
    exact (bus running).2
  have lane : (s.sampleTaken i).lane i = sampled := State.lane_sampleTaken i s
  have set : ∀ x, ({ s.sampleTaken i with lanes := (s.sampleTaken i).lanes.set i x } : State) = with' x :=
    State.sampleTaken_set i s
  have same := State.sampleTaken_sameRecords i s
  have metered : l.state.metered = true := by
    rcases inHand with demands | ⟨closing, _⟩
    · revert demands
      cases (s.lane i).state <;> simp [LaneState.demands, LaneState.metered]
    · rw [show l.state = .closing from closing]; rfl
  have runs : exec (.sample i) s = (sample i s).settled := event_of_running running _
  rw [sample_metered metered] at runs
  rcases inHand with demands | ⟨closing, loud⟩
  · have on : ((s.sampleTaken i).lane i).state.demands = true := by rw [lane]; exact demands
    have away : l.state ≠ .closing := fun c => by rw [c] at demands; cases demands
    rw [State.laneTests_of_demands on (by rw [lane]; exact product)] at runs
    have record : (s.sampleTaken i).product p = q := State.product_congr p _ _ same.2.2
    obtain ⟨low, high⟩ := State.applyTests_moves lane record set demands
    have kept := State.applyTests_sameRecords (p := p) on
    have rate : (((s.sampleTaken i).applyTests i p).lane i).delivery.rate = m.rate := by
      refine (congrArg Prod.snd (State.applyTests_figures (p := p) on i)).trans ?_
      rw [lane]
      rfl
    have rests' : ((s.sampleTaken i).applyTests i p).busRests := by
      unfold State.busRests
      rw [show ((s.sampleTaken i).applyTests i p).bus = (s.sampleTaken i).bus by simp]
      exact rests
    have product' : ((s.sampleTaken i).applyTests i p).product p = q :=
      (State.product_congr p _ _ kept.2.2).trans record
    have hose := State.hoseTest_moves rests' rate product'
    obtain ⟨left, debited⟩ := State.debitLane_moves n m.net
      (((same.trans kept).trans (State.hoseTest_sameRecords (i := i) (p := p) rests')).laneTank i)
    exact ⟨(s.sampleTaken i).applyTests i p, _, _, fun closing => absurd closing away, fun _ => low, fun _ => high,
      hose, left, debited, runs⟩
  · have quiet : sampled.quietRun < 5 := by
      show (if l.pulses = 0 then min 5 (l.quietRun + 1) else 0) < 5
      have loud : l.pulses ≠ 0 ∨ l.quietRun < 4 := loud
      split <;> omega
    have still : ¬ (((s.sampleTaken i).lane i).state = .flowing ∨ ((s.sampleTaken i).lane i).state = .trimming) := by
      rw [lane, show sampled.state = .closing from closing]
      simp
    rw [State.laneTests_of_closing (by rw [lane]; exact closing) (by rw [lane]; exact quiet)] at runs
    obtain ⟨left, debited⟩ := State.debitLane_moves n m.net (same.laneTank i)
    refine ⟨s.sampleTaken i, s.sampleTaken i, _, fun _ => rfl, fun off => absurd closing off,
      fun off => absurd closing off, ⟨fun _ => rfl, fun flows => absurd flows still, fun flows => absurd flows still,
        fun flows => absurd flows still⟩, left, debited, runs⟩

end Sys2Proof
end

section
/-! PROOFS. The points staged for a lane curve or a strapping table, and the commit of a lane curve (O10, O11). -/
namespace Sys2Proof.Machine

/-! ## Which points a commit reads (02 R47) -/

/-- A rate and a correction within their ranges (02 R47 check 3). -/
def CurvePoint.inRange (p : CurvePoint) : Prop :=
  1 ≤ p.rate ∧ p.rate ≤ 30000 ∧ -50000 ≤ p.correction ∧ p.correction ≤ 50000

/-- A filled slot is accepted when its point is within its ranges and above the point before it. -/
theorem curvePointOk_some_iff (before : List CurvePoint) (p : CurvePoint) :
    curvePointOk before (some p) = true ↔ p.inRange ∧ ∀ q, before.getLast? = some q → q.rate < p.rate := by
  unfold curvePointOk CurvePoint.inRange
  cases before.getLast? <;> simp [and_assoc]

/-- The first point of the rest of an ascending list lies above the last point before it. -/
theorem rate_lt_of_getLast? {before rest : List CurvePoint} {p q : CurvePoint}
    (ascending : (before ++ p :: rest).Pairwise fun a b => a.rate < b.rate) (last : before.getLast? = some q) :
    q.rate < p.rate :=
  (List.pairwise_append.1 ascending).2.2 q (List.mem_of_getLast? last) p List.mem_cons_self

/-- Good slots are read one after another, and the reading goes on behind them. -/
theorem readCurve_good (points before : List CurvePoint) (rest : List (Option CurvePoint))
    (good : ∀ p ∈ points, p.inRange) (ascending : (before ++ points).Pairwise fun a b => a.rate < b.rate) :
    readCurve (points.map some ++ rest) before = readCurve rest (before ++ points) := by
  induction points generalizing before with
  | nil => simp
  | cons p points ih =>
    obtain ⟨here, later⟩ := List.forall_mem_cons.1 good
    have ok : curvePointOk before (some p) = true :=
      (curvePointOk_some_iff before p).2 ⟨here, fun q last => rate_lt_of_getLast? ascending last⟩
    have next := ih (before ++ [p]) later (by simpa using ascending)
    rw [List.append_cons, ← next]
    exact if_pos ok

/-- A slot at fault ends the reading with its index. -/
theorem readCurve_bad {before : List CurvePoint} {bad : Option CurvePoint} (rest : List (Option CurvePoint))
    (fault : ∀ b, bad = some b → ¬ curvePointOk before (some b) = true) :
    readCurve (bad :: rest) before = .inr before.length := by
  cases bad with
  | none => rfl
  | some b => exact if_neg (fault b rfl)

/-! ## What CURVE-COMMIT answers (02 R47, R48) -/

/-- CURVE-COMMIT with its owner and count in range, by the lane's state and what the slots read as. -/
theorem curveCommit_inRange {f : CommitFields} {i : Fin 8} (owner : f.owner = i.val) (low : 2 ≤ f.count)
    (high : f.count ≤ 16) (s : State) :
    curveCommit f s =
      if (s.lane i).state ≠ .idle then (refuse .laneBusy, s)
      else
        match readCurve ((s.lane i).staging.toList.take f.count) [] with
        | .inr slot => (⟨.tableInvalid, .slot slot⟩, s)
        | .inl points =>
          (accept, s.modLane i fun l => { l with curve := some points, staging := Vector.replicate 16 none }) := by
  unfold curveCommit
  rw [owner, eightNumber_val]
  exact if_neg (by omega)

end Sys2Proof.Machine

namespace Sys2Proof
open Sys2Proof.Machine

/-- Settles O10: an owner and an index in range name one slot, and any other is refused. -/
theorem pointsAreStaged : Obligations.PointsAreStaged := by
  refine ⟨fun tag f s i slot ready owner index => ?_, fun tag f s t slot ready owner index => ?_,
    fun tag f s ready out => ?_, fun tag f s ready out => ?_⟩
  · obtain ⟨lane, number, rate, correction⟩ := f
    subst owner index
    refine event_request_exact ready _ _ _ _ ready.1 ?_
    unfold curvePoint
    rw [eightNumber_val]
    exact dif_pos slot.isLt
  · obtain ⟨tank, number, level, volume⟩ := f
    subst owner index
    refine event_request_exact ready _ _ _ _ ready.1 ?_
    unfold tablePoint
    rw [eightNumber_val]
    exact dif_pos slot.isLt
  · refine event_request_exact ready _ _ _ _ ready.1 ?_
    unfold curvePoint
    rcases out with lane | index
    · rw [eightNumber_eq_none lane]
      rfl
    · split
      · rfl
      · exact dif_neg (Nat.not_lt.2 index)
  · refine event_request_exact ready _ _ _ _ ready.1 ?_
    unfold tablePoint
    rcases out with tank | index
    · rw [eightNumber_eq_none tank]
      rfl
    · split
      · rfl
      · exact dif_neg (Nat.not_lt.2 index)

/-- Settles O11: the good slots are read in turn, and the first slot at fault ends the reading. -/
theorem curveCommitTakesPoints : Obligations.CurveCommitTakesPoints := by
  refine ⟨fun tag f s i ready owner low high => ⟨fun busy => ?_, fun points idle staged good ascending => ?_,
    fun points rest bad idle staged good ascending fault => ?_⟩, fun tag f s ready out => ?_⟩
  · refine event_request_exact ready _ _ _ _ ready.1 ?_
    rw [curveCommit_inRange owner low high, if_pos busy]
    rfl
  · have read : readCurve ((s.lane i).staging.toList.take f.count) [] = .inl points := by
      rw [staged, ← List.append_nil (points.map some)]
      exact readCurve_good points [] [] good ascending
    refine event_request_exact ready _ _ _ _ ready.1 ?_
    rw [curveCommit_inRange owner low high, if_neg (not_not.2 idle), read]
    rfl
  · have refused : ∀ b, bad = some b → ¬ curvePointOk points (some b) = true := by
      intro b filled ok
      obtain ⟨⟨r1, r2, c1, c2⟩, above⟩ := (curvePointOk_some_iff points b).1 ok
      rcases fault b filled with out | out | out | out | ⟨q, last, notAbove⟩
      · omega
      · omega
      · omega
      · omega
      · exact absurd (above q last) (Nat.not_lt.2 notAbove)
    have read : readCurve ((s.lane i).staging.toList.take f.count) [] = .inr points.length := by
      rw [staged]
      exact (readCurve_good points [] _ good ascending).trans (readCurve_bad rest refused)
    refine event_request_exact ready _ _ _ _ ready.1 ?_
    rw [curveCommit_inRange owner low high, if_neg (not_not.2 idle), read]
  · refine event_request_exact ready _ _ _ _ ready.1 ?_
    unfold curveCommit
    rcases out with owner | count
    · rw [eightNumber_eq_none owner]
      rfl
    · split
      · rfl
      · exact if_pos count

end Sys2Proof
end

section
/-! PROOFS. The Table Interpolator (O44). -/
namespace Sys2Proof.Machine

/-! ## Which segment is looked up (02 R39) -/

/-- Points before one that x has reached do not matter. -/
theorem interpolate_append (before : List (Nat × Int)) (p : Nat × Int) (rest : List (Nat × Int)) (x : Nat)
    (ascending : (before ++ p :: rest).Pairwise fun a b => a.1 < b.1) (reached : p.1 ≤ x) :
    interpolate (before ++ p :: rest) x = interpolate (p :: rest) x := by
  induction before with
  | nil => rfl
  | cons a before ih =>
    obtain ⟨above, tail⟩ := List.pairwise_cons.1 ascending
    have past : a.1 < p.1 := above p (by simp)
    rw [← ih tail]
    cases before with
    | nil => exact (if_neg (by omega)).trans (if_neg (by omega))
    | cons b before =>
      have next : b.1 < p.1 := (List.pairwise_cons.1 tail).1 p (by simp)
      exact (if_neg (by omega)).trans (if_neg (by omega))

/-- At or below its first point a table answers that point's value. -/
theorem interpolate_first {p : Nat × Int} (rest : List (Nat × Int)) {x : Nat} (h : x ≤ p.1) :
    interpolate (p :: rest) x = p.2 := by
  cases rest with
  | nil => rfl
  | cons q rest => exact if_pos h

/-- In its first segment, the lower end included, a table is linear. -/
theorem interpolate_segment {p q : Nat × Int} (rest : List (Nat × Int)) {x : Nat} (low : p.1 ≤ x) (high : x < q.1) :
    interpolate (p :: q :: rest) x = p.2 + ((q.2 - p.2) * ((x : Int) - p.1)).tdiv ((q.1 : Int) - p.1) := by
  rcases Nat.lt_or_eq_of_le low with inside | rfl
  · exact (if_neg (Nat.not_le.2 inside)).trans (if_pos high)
  · rw [interpolate_first _ le_rfl]
    simp

/-! ## The part of a difference (02 R39) -/

/-- A part a of b of a nonnegative d, truncated, is from 0 to d. -/
theorem tdiv_part_bounds {d a b : Int} (hd : 0 ≤ d) (ha : 0 ≤ a) (hab : a < b) :
    0 ≤ (d * a).tdiv b ∧ (d * a).tdiv b ≤ d := by
  have hb : 0 < b := ha.trans_lt hab
  have product : 0 ≤ d * a := Int.mul_nonneg hd ha
  rw [Int.tdiv_eq_ediv_of_nonneg product]
  exact ⟨Int.ediv_nonneg product hb.le, Int.ediv_le_of_le_mul hb (Int.mul_le_mul_of_nonneg_left hab.le hd)⟩

/-- A part of the way from u to v, truncated toward zero, ends between them. -/
theorem add_tdiv_part_between (u v : Int) {a b : Int} (ha : 0 ≤ a) (hab : a < b) :
    min u v ≤ u + ((v - u) * a).tdiv b ∧ u + ((v - u) * a).tdiv b ≤ max u v := by
  rcases Int.le_total u v with rising | falling
  · obtain ⟨low, high⟩ := tdiv_part_bounds (Int.sub_nonneg.2 rising) ha hab
    omega
  · obtain ⟨low, high⟩ := tdiv_part_bounds (Int.sub_nonneg.2 falling) ha hab
    have mirrored : ((v - u) * a).tdiv b = -((u - v) * a).tdiv b := by
      rw [← Int.neg_tdiv, ← Int.neg_mul, Int.neg_sub]
    omega

end Sys2Proof.Machine

namespace Sys2Proof
open Sys2Proof.Machine

/-- Settles O44: x is looked up in the segment it lies in, and a part of a difference is no more than it. -/
theorem interpolatorIsLinear : Obligations.InterpolatorIsLinear := by
  refine fun points x ascending => ⟨?_, ?_, ?_⟩
  · rintro p rest rfl below
    exact interpolate_first rest below
  · rintro before p rfl above
    exact interpolate_append before p [] x ascending above
  · rintro before p q after rfl low high
    have value := (interpolate_append before p _ x ascending low).trans (interpolate_segment after low high)
    rw [value]
    exact ⟨rfl, add_tdiv_part_between p.2 q.2 (by omega) (by omega)⟩

end Sys2Proof
end

section
/-! PROOFS. The metering of a sample (O45). -/
namespace Sys2Proof.Machine

/-! ## The window and the rate (02 R37, R38) -/

/-- A window that is not full takes the count at its newest end. -/
theorem pushCount_of_lt {window : Nat} {rates : List Nat} (n : Nat) (h : rates.length < window) :
    pushCount window n rates = rates ++ [n] := if_neg (Nat.not_le.2 h)

/-- A full window loses its oldest count. -/
theorem pushCount_of_full {window : Nat} {rates : List Nat} (n : Nat) (h : rates.length = window) :
    pushCount window n rates = rates.drop 1 ++ [n] := by
  unfold pushCount
  rw [if_pos h.ge, h, Nat.add_sub_cancel_left]

/-! ## The curve, the temperature and the thermal coefficient (02 R41 to R51) -/

/-- The correction is interpolated on the selected curve with the span trim added and the sums clamped. -/
theorem Lane.correction_eq (l : Lane) (rate : Nat) :
    l.correction rate = interpolate
      (l.curvePoints.map fun p => (p.rate, max (-50000) (min 50000 (p.correction + l.record.spanTrim)))) rate := rfl

/-- The temperature is a held one exactly where the lane has a feed tank that is not GOOD. -/
theorem State.laneTemperature_snd (s : State) (i : Fin 8) :
    (s.laneTemperature i).2 = (s.laneTank i).any fun t => (s.tank t).status != .good := by
  unfold State.laneTemperature
  cases s.laneTank i <;> rfl

theorem State.laneAlpha_eq (s : State) (i : Fin 8) :
    s.laneAlpha i = ((s.lane i).record.product.map fun p => (s.product p).alpha).getD 0 := by
  unfold State.laneAlpha
  cases (s.lane i).record.product <;> rfl

/-! ## The accumulators (02 R52, R53) -/

/-- Nothing is lost between what an accumulator carries out and what it keeps. -/
theorem accumulate_exact {divisor residue amount whole kept : Nat} (positive : 0 < divisor)
    (split : (whole, kept) = accumulate divisor residue amount) :
    whole * divisor + kept = residue + amount ∧ kept < divisor := by
  obtain ⟨rfl, rfl⟩ := Prod.mk.inj split
  exact ⟨Nat.div_add_mod' .., Nat.mod_lt _ positive⟩

/-! ## A sample's metering by its count (02 R36) -/

/-- The window and the rate move with every sample, counted or not. -/
theorem State.metering_rates (s : State) (i : Fin 8) (n : Nat) :
    (s.metering i n).rates = pushCount (s.lane i).record.window n (s.lane i).rates
      ∧ (s.metering i n).rate = smoothedRate (s.lane i).record.kFactor (s.metering i n).rates := by
  unfold State.metering
  dsimp only
  split <;> exact ⟨rfl, rfl⟩

/-- A zero count adds nothing, keeps the residues, takes no temperature and raises no flag. -/
theorem State.metering_zero (s : State) (i : Fin 8) :
    let m := s.metering i 0
    m.gross = 0 ∧ m.net = 0 ∧ m.grossResidue = (s.lane i).grossResidue ∧ m.netResidue = (s.lane i).netResidue
      ∧ m.t10 = none ∧ m.flags = {} :=
  ⟨rfl, rfl, rfl, rfl, rfl, rfl⟩

/-- A nonzero count goes through both accumulators at the clamped temperature. -/
theorem State.metering_counted (s : State) (i : Fin 8) {n : Nat} (counted : n ≠ 0) :
    let l := s.lane i
    let m := s.metering i n
    let temperature := clampTemperature (s.temperatureOf i)
    let g := grossNumerator n (l.correction m.rate)
    (m.gross, m.grossResidue) = accumulate (grossDivisor l.record.kFactor) l.grossResidue g
      ∧ (m.net, m.netResidue) = accumulate (netDivisor l.record.kFactor) l.netResidue
          (g * (vcf (s.laneAlpha i) temperature).toNat)
      ∧ m.t10 = some temperature
      ∧ m.flags =
        { saturated := n == 65535, tempClamped := temperature != s.temperatureOf i
          tempHeld := (s.laneTank i).any fun t => (s.tank t).status != .good } := by
  rw [← State.laneTemperature_fst, ← State.laneTemperature_snd]
  unfold State.metering
  rw [if_neg counted]
  exact ⟨rfl, rfl, rfl, rfl⟩

end Sys2Proof.Machine

namespace Sys2Proof
open Sys2Proof.Machine

/-- Settles O45: the two accumulators are exact, and the rest is what a sample's metering reads. -/
theorem residuesAreExact : Obligations.ResiduesAreExact := by
  intro s i n l k m temperature g factor
  obtain ⟨rates, rate⟩ := s.metering_rates i n
  refine ⟨?_, fun counted positive => ?_, fun counted => ?_, fun short => ?_, fun full _ => ?_, rate,
    s.laneAlpha_eq i, ?_⟩
  · rintro rfl
    exact s.metering_zero i
  · obtain ⟨gross, net, t10, -⟩ := s.metering_counted i counted
    obtain ⟨grossSplit, grossBound⟩ := accumulate_exact (Nat.mul_pos positive (by decide)) gross
    obtain ⟨netSplit, netBound⟩ := accumulate_exact (Nat.mul_pos positive (by decide)) net
    exact ⟨grossSplit, grossBound, netSplit, netBound, t10⟩
  · obtain ⟨-, -, -, flags⟩ := s.metering_counted i counted
    exact flags
  · exact rates.trans (pushCount_of_lt n short)
  · exact rates.trans (pushCount_of_full n full)
  · intro curve
    have selected : l.curvePoints = curve := by
      unfold Lane.curvePoints curve
      cases l.record.curve with
      | lane => rfl
      | template c =>
        match c with
        | 0 | 1 | 2 | 3 | 4 | 5 => rfl
    rw [← selected]
    exact l.correction_eq m.rate

end Sys2Proof
end

section
/-! PROOFS. The law of the grants, header by header, and the moves that keep it (03 R70, R71). -/
namespace Sys2Proof.Machine
-- One proof at a time: the whole text, elaborated in parallel, starts more threads than its memory limit holds.
set_option Elab.async false

/-! ## The law, header by header -/

/-- A lane of header h has a grant only on a demand over a RUNNING pump, and the grants fit the pump's capacity. -/
structure State.grantLawAt (s : State) (h : Fin 6) : Prop where
  demanding : ∀ i, (s.lane i).record.product = some h → (s.lane i).arbiterGrant ≠ .hold →
    (s.lane i).state.demands = true ∧ (s.header h).pump = .running
  within : s.grantedRate h ≤ (s.product h).pumpCapacity

/-- The law on the headers of a set, while a lane without a product has HOLD. -/
structure State.grantLawOn (s : State) (on : Fin 6 → Prop) : Prop where
  lone : ∀ i, (s.lane i).record.product = none → (s.lane i).arbiterGrant = .hold
  each : ∀ h, on h → s.grantLawAt h

/-- The law on every header. -/
def State.grantLaw (s : State) : Prop := s.grantLawOn fun _ => True

theorem State.grantLaw_iff (s : State) : s.grantLaw ↔ s.grantsLawful ∧ s.capacityKept := by
  constructor
  · rintro ⟨lone, each⟩
    refine ⟨fun i granted => ?_, fun h => (each h trivial).within⟩
    cases product : (s.lane i).record.product with
    | none => exact absurd (lone i product) granted
    | some h =>
      obtain ⟨demands, running⟩ := (each h trivial).demanding i product granted
      exact ⟨demands, h, rfl, running⟩
  · rintro ⟨lawful, kept⟩
    refine ⟨fun i product => ?_, fun h _ => ⟨fun i product granted => ?_, kept h⟩⟩
    · by_contra granted
      obtain ⟨-, h, named, -⟩ := lawful i granted
      rw [product] at named; cases named
    · obtain ⟨demands, k, named, running⟩ := lawful i granted
      rw [product] at named; cases named
      exact ⟨demands, running⟩

theorem State.grantLawOn.mono {s : State} {on on' : Fin 6 → Prop} (law : s.grantLawOn on) (sub : ∀ h, on' h → on h) :
    s.grantLawOn on' := ⟨law.lone, fun h mem => law.each h (sub h mem)⟩

/-- On a header whose lanes all have HOLD the law holds, whatever the pump. -/
theorem State.grantLawAt_of_held {s : State} {h : Fin 6}
    (held : ∀ i, (s.lane i).record.product = some h → (s.lane i).arbiterGrant = .hold) : s.grantLawAt h where
  demanding i product granted := absurd (held i product) granted
  within := by
    have none' : s.grantedRate h = 0 := by
      refine List.sum_eq_zero fun rate mem => ?_
      obtain ⟨i, -, rfl⟩ := List.mem_map.1 mem
      split
      · rename_i on
        rw [held i (by simpa [State.laneOn] using on)]; rfl
      · rfl
    rw [none']; exact Nat.zero_le _

/-- Every Arbiter's grant is HOLD. -/
def State.grantsHeld (s : State) : Prop := ∀ i, (s.lane i).arbiterGrant = .hold

theorem State.grantsHeld.grantLaw {s : State} (held : s.grantsHeld) : s.grantLaw :=
  ⟨fun i _ => held i, fun _ _ => State.grantLawAt_of_held fun i _ => held i⟩

/-- A lane that does not demand has HOLD. -/
theorem State.grantLaw.hold {s : State} (law : s.grantLaw) {i : Fin 8} (rests : (s.lane i).state.demands = false) :
    (s.lane i).arbiterGrant = .hold := by
  by_contra granted
  obtain ⟨demands, -⟩ := ((State.grantLaw_iff s).1 law).1 i granted
  rw [rests] at demands; cases demands

/-! ## Moves that leave every grant standing on what it stood on -/

/-- A grant that lane b still has is lane a's, of the same product, and its demand has not gone. -/
def Lane.grantKept (a b : Lane) : Prop :=
  b.arbiterGrant ≠ .hold →
    b.arbiterGrant = a.arbiterGrant ∧ b.record.product = a.record.product
      ∧ (a.state.demands = true → b.state.demands = true)

theorem Lane.grantKept_refl (a : Lane) : a.grantKept a := fun _ => ⟨rfl, rfl, id⟩

theorem Lane.grantKept.trans {a b c : Lane} (h : a.grantKept b) (k : b.grantKept c) : a.grantKept c := by
  intro granted
  obtain ⟨grant, product, demands⟩ := k granted
  obtain ⟨grant', product', demands'⟩ := h (grant ▸ granted)
  exact ⟨grant.trans grant', product.trans product', fun d => demands (demands' d)⟩

/-- From s to t no grant has been made, and those that stand have kept their demands and pumps. -/
structure State.grantQuiet (s t : State) : Prop where
  lanes : ∀ i, (s.lane i).grantKept (t.lane i)
  pumps : ∀ h, (t.header h).pump = (s.header h).pump
  products : t.products = s.products

theorem State.grantQuiet_refl (s : State) : s.grantQuiet s := ⟨fun _ => Lane.grantKept_refl _, fun _ => rfl, rfl⟩

theorem State.grantQuiet.trans {s t u : State} (a : s.grantQuiet t) (b : t.grantQuiet u) : s.grantQuiet u where
  lanes i := (a.lanes i).trans (b.lanes i)
  pumps h := (b.pumps h).trans (a.pumps h)
  products := b.products.trans a.products

/-- A move that leaves lanes, headers and products alone is quiet. -/
theorem State.grantQuiet_of_frame {s t : State} (lanes : t.lanes = s.lanes := by simp)
    (headers : t.headers = s.headers := by simp) (products : t.products = s.products := by simp) :
    s.grantQuiet t where
  lanes i := by rw [State.lane_congr i s t lanes]; exact Lane.grantKept_refl _
  pumps h := by rw [State.header_congr h s t headers]
  products := products

/-- A change of one lane that keeps the grant it leaves is quiet. -/
theorem State.modLane_grantQuiet (i : Fin 8) (f : Lane → Lane) (s : State)
    (kept : (s.lane i).grantKept (f (s.lane i))) : s.grantQuiet (s.modLane i f) where
  lanes j := by
    by_cases hj : j = i
    · subst hj; rw [State.lane_modLane_same]; exact kept
    · rw [State.lane_modLane_ne _ _ hj]; exact Lane.grantKept_refl _
  pumps _ := rfl
  products := rfl

/-- A change of one lane's other fields is quiet. -/
theorem State.modLane_grantQuiet_of_same (i : Fin 8) (f : Lane → Lane) (s : State)
    (same : ∀ l, (f l).arbiterGrant = l.arbiterGrant ∧ (f l).record.product = l.record.product
      ∧ (f l).state = l.state := by exact fun _ => ⟨rfl, rfl, rfl⟩) : s.grantQuiet (s.modLane i f) :=
  State.modLane_grantQuiet i f s fun _ => by
    obtain ⟨grant, product, state⟩ := same (s.lane i)
    exact ⟨grant, product, fun d => by rw [state]; exact d⟩

/-- A change of one header's PROVE is quiet. -/
theorem State.modHeader_grantQuiet (h : Fin 6) (f : Header → Header) (s : State)
    (same : (f (s.header h)).pump = (s.header h).pump) : s.grantQuiet (s.modHeader h f) where
  lanes _ := Lane.grantKept_refl _
  pumps k := by
    by_cases hk : k = h
    · subst hk; rw [State.header_modHeader_same, same]
    · rw [State.header_modHeader_ne _ _ hk]
  products := rfl

/-- What every part of a walk over eight units keeps, the walk keeps. -/
theorem eachOfEight_induction {P : State → Prop} (f : Fin 8 → State → State) (keeps : ∀ i s, P s → P (f i s))
    {s : State} (start : P s) : P (eachOfEight f s) := by
  have walk : ∀ (l : List (Fin 8)) (s : State), P s → P (l.foldl (fun t i => f i t) s) := by
    intro l
    induction l with
    | nil => exact fun _ here => here
    | cons i l ih => exact fun s here => ih _ (keeps i s here)
  exact walk eightNumbers s start

theorem eachOfEight_grantQuiet (f : Fin 8 → State → State) (quiet : ∀ i (s : State), s.grantQuiet (f i s)) (s : State) :
    s.grantQuiet (eachOfEight f s) :=
  eachOfEight_induction (P := s.grantQuiet) f (fun i t before => before.trans (quiet i t)) s.grantQuiet_refl

/-- Quiet moves keep HOLD where it is. -/
theorem State.grantQuiet.hold {s t : State} (q : s.grantQuiet t) {i : Fin 8} (held : (s.lane i).arbiterGrant = .hold) :
    (t.lane i).arbiterGrant = .hold := by
  by_contra granted
  exact granted ((q.lanes i granted).1.trans held)

theorem State.grantQuiet.held {s t : State} (q : s.grantQuiet t) (held : s.grantsHeld) : t.grantsHeld :=
  fun i => q.hold (held i)

/-- Quiet moves grant no more on any header. -/
theorem State.grantQuiet.grantedRate_le {s t : State} (q : s.grantQuiet t) (h : Fin 6) :
    t.grantedRate h ≤ s.grantedRate h := by
  refine List.sum_le_sum fun i _ => ?_
  rw [State.product_congr h s t q.products]
  by_cases held : (t.lane i).arbiterGrant = .hold
  · rw [held]
    simp [Product.rateOf]
  · obtain ⟨grant, product, -⟩ := q.lanes i held
    rw [grant, show t.laneOn h i = s.laneOn h i by unfold State.laneOn; rw [product]]

/-- Quiet moves keep the law on every header. -/
theorem State.grantQuiet.keeps {s t : State} (q : s.grantQuiet t) {on : Fin 6 → Prop} (law : s.grantLawOn on) :
    t.grantLawOn on where
  lone i product := by
    by_contra granted
    obtain ⟨grant, named, -⟩ := q.lanes i granted
    exact granted (grant.trans (law.lone i (named ▸ product)))
  each h mem := by
    obtain ⟨demanding, within⟩ := law.each h mem
    refine ⟨fun i product granted => ?_, ?_⟩
    · obtain ⟨grant, named, demands⟩ := q.lanes i granted
      obtain ⟨was, running⟩ := demanding i (named ▸ product) (grant ▸ granted)
      exact ⟨demands was, (q.pumps h).trans running⟩
    · rw [State.product_congr h s t q.products]
      exact (q.grantedRate_le h).trans within

/-- What leaves lanes, headers and products alone keeps the law. -/
theorem State.grantLaw.unmoved {s t : State} (law : s.grantLaw) (lanes : t.lanes = s.lanes := by simp)
    (headers : t.headers = s.headers := by simp) (products : t.products = s.products := by simp) : t.grantLaw :=
  (State.grantQuiet_of_frame lanes headers products).keeps law

/-! ## A grant pass -/

/-- The grant a rule gives from what is left costs no more than is left (03 R71). -/
theorem State.rateOf_grantFor_le (u : State) (h : Fin 6) (left : Nat) (l : Lane) :
    (u.product h).rateOf (u.grantFor h left l) ≤ left := by
  unfold State.grantFor
  split
  · split
    · rename_i full; exact full.2.2
    · split
      · rename_i slow; exact slow
      · exact Nat.zero_le _
  · exact Nat.zero_le _

/-- Amounts taken in turn, each no more than those before it have left, sum to no more than the whole. -/
theorem sum_le_of_each_fits {whole : Nat} (taken : Fin 8 → Nat)
    (fits : ∀ i, taken i ≤ whole - (eightNumbers.map fun j => if j < i then taken j else 0).sum) :
    (eightNumbers.map taken).sum ≤ whole := by
  have f0 := fits 0
  have f1 := fits 1
  have f2 := fits 2
  have f3 := fits 3
  have f4 := fits 4
  have f5 := fits 5
  have f6 := fits 6
  have f7 := fits 7
  simp [eightNumbers] at f0 f1 f2 f3 f4 f5 f6 f7 ⊢
  omega

/-- A pass leaves the law on its own header (03 R70, R71). -/
theorem State.passOf.grantLawAt {s u : State} {h : Fin 6} (pass : s.passOf u h) : u.grantLawAt h := by
  have on : ∀ i, (u.lane i).record.product = some h →
      (u.lane i).arbiterGrant = u.grantFor h (u.capacityLeft h i) (u.lane i) := by
    intro i product
    have before : (s.lane i).record.product = some h := (pass.sameButGrant i).record_eq ▸ product
    rw [pass i, if_pos before]
    rfl
  refine ⟨fun i product granted => ?_, sum_le_of_each_fits _ fun i => ?_⟩
  · rw [on i product] at granted
    unfold State.grantFor at granted
    by_contra rests
    rw [if_neg rests] at granted
    exact granted rfl
  · have left : ((u.product h).pumpCapacity - (eightNumbers.map fun j => if j < i then
          (if u.laneOn h j then (u.product h).rateOf (u.lane j).arbiterGrant else 0) else 0).sum)
        = u.capacityLeft h i := by
      simp only [State.capacityLeft, State.laneOn, beq_iff_eq, ite_and]
    rw [left]
    split
    · rename_i named
      rw [on i (by simpa [State.laneOn] using named)]
      exact u.rateOf_grantFor_le h _ _
    · exact Nat.zero_le _

/-- A move of one header that ends in its pass brings the law about there and keeps it elsewhere. -/
theorem State.grantLawOn.passed {s t : State} {h : Fin 6} {on : Fin 6 → Prop} (law : s.grantLawOn on)
    (moved : s.headerMoved h t) (pass : s.passOf t h) : t.grantLawOn fun k => on k ∨ k = h where
  lone i product := by
    have before : (s.lane i).record.product = none := (moved.lanes i).record_eq ▸ product
    rw [moved.away i (by rw [before]; simp)]
    exact law.lone i before
  each k mem := by
    by_cases hk : k = h
    · subst hk; exact pass.grantLawAt
    obtain ⟨demanding, within⟩ := law.each k (mem.resolve_right hk)
    have lane : ∀ i, (s.lane i).record.product = some k → t.lane i = s.lane i := fun i product =>
      moved.away i (by rw [product]; simpa using hk)
    have record : ∀ i, (t.lane i).record = (s.lane i).record := fun i => (moved.lanes i).record_eq
    have product : t.product k = s.product k := State.product_congr k s t (by rw [moved.rest])
    refine ⟨fun i named granted => ?_, ?_⟩
    · rw [record] at named
      rw [lane i named] at granted ⊢
      rw [moved.others k hk]
      exact demanding i named granted
    · rw [product, State.grantedRate_congr k fun i => ?_]
      · exact within
      · rw [product, show t.laneOn k i = s.laneOn k i by unfold State.laneOn; rw [record]]
        by_cases named : s.laneOn k i = true
        · rw [lane i (by simpa [State.laneOn] using named)]
        · rw [if_neg named, if_neg named]

theorem State.grantLaw.passed {s t : State} {h : Fin 6} (law : s.grantLaw) (moved : s.headerMoved h t)
    (pass : s.passOf t h) : t.grantLaw := (State.grantLawOn.passed law moved pass).mono fun _ _ => Or.inl trivial

/-- A pass of the one header on which the law may have been broken restores it. -/
theorem State.grantLawOn.restored {s t : State} {h : Fin 6} (law : s.grantLawOn (· ≠ h)) (moved : s.headerMoved h t)
    (pass : s.passOf t h) : t.grantLaw := (law.passed moved pass).mono fun k _ => (em (k = h)).symm

theorem State.grantLaw.grantPass {s : State} (law : s.grantLaw) (h : Fin 6) : (s.grantPass h).grantLaw :=
  law.passed (State.grantPass_headerMoved h s) (State.grantPass_passOf h s)

/-! ## Moves that break the law on one header -/

/-- A lane whose state changes may break the law on its own header alone. -/
theorem State.grantLawOn.modLane {s : State} {on : Fin 6 → Prop} (law : s.grantLawOn on) (i : Fin 8) (f : Lane → Lane)
    (same : (f (s.lane i)).arbiterGrant = (s.lane i).arbiterGrant ∧ (f (s.lane i)).record = (s.lane i).record) :
    (s.modLane i f).grantLawOn fun h => on h ∧ (s.lane i).record.product ≠ some h := by
  obtain ⟨grant, record⟩ := same
  have lane : ∀ j, ((s.modLane i f).lane j).arbiterGrant = (s.lane j).arbiterGrant
      ∧ ((s.modLane i f).lane j).record = (s.lane j).record := by
    intro j
    by_cases hj : j = i
    · subst hj; rw [State.lane_modLane_same]; exact ⟨grant, record⟩
    · rw [State.lane_modLane_ne _ _ hj]; exact ⟨rfl, rfl⟩
  refine ⟨fun j product => ?_, fun h mem => ?_⟩
  · rw [(lane j).2] at product
    rw [(lane j).1]
    exact law.lone j product
  · obtain ⟨demanding, within⟩ := law.each h mem.1
    refine ⟨fun j product granted => ?_, ?_⟩
    · rw [(lane j).2] at product
      rw [(lane j).1] at granted
      have apart : j ≠ i := fun e => mem.2 (e ▸ product)
      rw [State.lane_modLane_ne _ _ apart]
      exact demanding j product granted
    · rw [State.grantedRate_congr (s := s) h fun j => ?_]
      · exact within
      · rw [show (s.modLane i f).laneOn h j = s.laneOn h j by unfold State.laneOn; rw [(lane j).2], (lane j).1]
        rfl

/-- A header that moves may break the law on itself alone. -/
theorem State.grantLawOn.modHeader {s : State} {on : Fin 6 → Prop} (law : s.grantLawOn on) (h : Fin 6)
    (f : Header → Header) : (s.modHeader h f).grantLawOn fun k => on k ∧ k ≠ h where
  lone := law.lone
  each k mem := by
    obtain ⟨demanding, within⟩ := law.each k mem.1
    refine ⟨fun i product granted => ?_, within⟩
    rw [State.header_modHeader_ne h k mem.2]
    exact demanding i product granted

end Sys2Proof.Machine
end

section
/-! PROOFS. The pumps, the lanes that end and shutdown entry under the law of the grants (03 R63 to R69; 01 R23, R30,
R31). -/
namespace Sys2Proof.Machine
set_option Elab.async false

/-! ## The pumps -/

theorem State.enterRunOn_passOf (h : Fin 6) (s : State) : s.passOf (s.enterRunOn h) h := by
  unfold State.enterRunOn
  split <;> exact State.setPump_passOf h _ _ _ s

theorem State.proved_passOf (h : Fin 6) (s : State) : s.passOf (s.proved h) h := by
  unfold State.proved
  split
  · exact State.setPump_passOf h _ _ _ s
  · exact s.enterRunOn_passOf h

theorem State.demandLeft_passOf (h : Fin 6) (s : State) : s.passOf (s.demandLeft h) h := by
  unfold State.demandLeft
  split
  · exact State.grantPass_passOf h s
  · split
    · exact State.passOf_of_lanes (t := s.modSlot fun k => { k with queue := k.queue.erase h }) rfl
        (State.setPump_passOf h _ _ _ _)
    · exact s.enterRunOn_passOf h
    all_goals exact State.grantPass_passOf h s

theorem State.grantLaw.setPump {s : State} (law : s.grantLaw) (h : Fin 6) (p : PumpState) (a b : Option Timer) :
    (s.setPump h p a b).grantLaw := law.passed (State.setPump_headerMoved h p a b s) (State.setPump_passOf h p a b s)

theorem State.grantLaw.demandLeft {s : State} (law : s.grantLaw) (h : Fin 6) : (s.demandLeft h).grantLaw :=
  law.passed (s.demandLeft_headerMoved h) (s.demandLeft_passOf h)

theorem State.grantLaw.proved {s : State} (law : s.grantLaw) (h : Fin 6) : (s.proved h).grantLaw :=
  law.passed (s.proved_headerMoved h) (s.proved_passOf h)

theorem State.grantLaw.serveHeads {s : State} (law : s.grantLaw) (l : List (Fin 6)) : (serveHeads l s).grantLaw := by
  induction l generalizing s with
  | nil => exact law
  | cons h rest ih =>
    unfold Machine.serveHeads
    split
    · exact ih (law.passed (s.startPump_headerMoved h) (s.startPump_started h).2.2)
    · exact law

theorem State.grantLaw.testSlot {s : State} (law : s.grantLaw) : s.testSlot.grantLaw := law.serveHeads _

theorem State.grantLaw.joinQueue {s : State} (law : s.grantLaw) (h : Fin 6) : (s.joinQueue h).grantLaw := by
  have queued := law.passed (s.queued_headerMoved h) (s.queued_passOf h)
  rw [State.joinQueue_eq]
  split
  · exact queued.serveHeads _
  · exact queued

theorem State.grantLaw.demandAppeared {s : State} (law : s.grantLaw) (h : Fin 6) (had : Bool) :
    (s.demandAppeared h had).grantLaw := by
  unfold State.demandAppeared
  split
  · exact law.grantPass h
  · split
    · exact law.joinQueue h
    · exact law.setPump h _ _ _
    all_goals exact law.grantPass h

theorem State.notify_grantQuiet (b : NoticeBody) (s : State) : s.grantQuiet (s.notify b) := State.grantQuiet_of_frame

/-- An ending sent to lanes is a mark beside their grants. -/
theorem State.sendEnding_grantQuiet (p : Fin 6) (mark : Lane → Lane)
    (same : ∀ l, (mark l).arbiterGrant = l.arbiterGrant ∧ (mark l).record.product = l.record.product
      ∧ (mark l).state = l.state) (s : State) : s.grantQuiet (s.sendEnding p mark) := by
  refine eachOfEight_grantQuiet _ (fun i t => ?_) s
  split
  · exact State.modLane_grantQuiet_of_same i mark t same
  · exact t.grantQuiet_refl

/-- A header that fails breaks the law on itself, and the pass that follows restores it (03 R67). -/
theorem State.grantLaw.failPump {s : State} (law : s.grantLaw) (h : Fin 6) (reason : PumpReason) :
    (s.failPump h reason).grantLaw := by
  have failed := (State.grantLawOn.modHeader law h fun k =>
    { k with pump := .failed, proving := none, runOn := none }).mono (on' := (· ≠ h)) fun _ ne => ⟨trivial, ne⟩
  have sent := (State.sendEnding_grantQuiet h (fun l => { l with pumpEnding := true }) (fun _ => ⟨rfl, rfl, rfl⟩)
    _).keeps failed
  exact (State.notify_grantQuiet _ _).keeps
    (sent.restored (State.grantPass_headerMoved h _) (State.grantPass_passOf h _))

/-! ## Lanes that end -/

theorem State.modShutdown_grantQuiet (f : Shutdown → Shutdown) (s : State) : s.grantQuiet (s.modShutdown f) :=
  State.grantQuiet_of_frame

/-- An authorisation withdrawn takes no demand away. -/
theorem State.withdrawLane_grantQuiet {i : Fin 8} {s : State} (authorised : (s.lane i).state = .authorised) :
    s.grantQuiet (s.withdrawLane i) :=
  (State.modLane_grantQuiet i Lane.toIdle s fun _ => ⟨rfl, rfl, fun d => by rw [authorised] at d; cases d⟩).trans
    (State.grantQuiet_of_frame rfl rfl rfl)

/-- A lane that enters CLOSING breaks the law on its own header alone. -/
theorem State.grantLawOn.closeCore {s : State} {on : Fin 6 → Prop} (law : s.grantLawOn on) (i : Fin 8)
    (cause : EndCause) : (s.closeCore i cause).grantLawOn fun h => on h ∧ (s.lane i).record.product ≠ some h :=
  (State.modShutdown_grantQuiet _ _).keeps (law.modLane i _ ⟨rfl, rfl⟩)

theorem State.grantLaw.closeLane {s : State} (law : s.grantLaw) (i : Fin 8) (cause : EndCause) :
    (s.closeLane i cause).grantLaw := by
  have closed := State.grantLawOn.closeCore law i cause
  have record : ((s.closeCore i cause).lane i).record = (s.lane i).record := by
    rw [State.lane_closeCore_same]; rfl
  unfold State.closeLane State.laneDemandLeft
  rw [record]
  split
  · cases product : (s.lane i).record.product with
    | none => exact closed.mono fun h _ => ⟨trivial, by rw [product]; simp⟩
    | some h =>
      refine State.grantLawOn.restored (h := h) (closed.mono fun k ne => ⟨trivial, ?_⟩)
        (State.demandLeft_headerMoved h _) (State.demandLeft_passOf h _)
      rw [product]; simpa using Ne.symm ne
  · exact law

/-- A command to one lane of a stop leaves every lane's grant and record. -/
theorem State.stopLane_keeps (i j : Fin 8) (s : State) :
    ((s.stopLane i).lane j).arbiterGrant = (s.lane j).arbiterGrant
      ∧ ((s.stopLane i).lane j).record = (s.lane j).record := by
  have changed : ∀ f : Lane → Lane, (∀ l, (f l).arbiterGrant = l.arbiterGrant ∧ (f l).record = l.record) →
      ((s.modLane i f).lane j).arbiterGrant = (s.lane j).arbiterGrant
        ∧ ((s.modLane i f).lane j).record = (s.lane j).record := by
    intro f same
    by_cases hj : j = i
    · subst hj; rw [State.lane_modLane_same]; exact same _
    · rw [State.lane_modLane_ne _ _ hj]; exact ⟨rfl, rfl⟩
  unfold State.stopLane
  split
  · exact changed Lane.toIdle fun _ => ⟨rfl, rfl⟩
  · split
    · exact changed (Lane.enterClosing .laneStop (s.startTimer 5)) fun _ => ⟨rfl, rfl⟩
    · exact ⟨rfl, rfl⟩

/-- Lanes stopped together leave the law on the headers that had no demand. -/
theorem State.grantLaw.stopLanes {s : State} (law : s.grantLaw) :
    (eachOfEight State.stopLane s).grantLawOn fun h => s.headerDemand h = false := by
  have grant : ∀ i, ((eachOfEight State.stopLane s).lane i).arbiterGrant = (s.lane i).arbiterGrant := fun i =>
    eachOfEight_keeps (fun t => (t.lane i).arbiterGrant) _ (fun j t => (t.stopLane_keeps j i).1) s
  have record : ∀ i, ((eachOfEight State.stopLane s).lane i).record = (s.lane i).record := fun i =>
    eachOfEight_keeps (fun t => (t.lane i).record) _ (fun j t => (t.stopLane_keeps j i).2) s
  refine ⟨fun i product => ?_, fun h undemanded => State.grantLawAt_of_held fun i product => ?_⟩
  · rw [record] at product
    rw [grant]
    exact law.lone i product
  · rw [record] at product
    rw [grant]
    refine law.hold (Bool.eq_false_iff.2 fun demands => ?_)
    rw [(s.headerDemand_iff h).2 ⟨i, product, demands⟩] at undemanded
    cases undemanded

/-- The lane stop: every header that had demand makes a pass, which restores the law there (01 R30). -/
theorem State.grantLaw.laneStop {s : State} (law : s.grantLaw) : s.laneStop.grantLaw := by
  have walk : ∀ (l : List (Fin 6)) (t : State) (on : Fin 6 → Prop), (∀ h, s.headerDemand h = false → on h) →
      t.grantLawOn on → (l.foldl (fun t h => if s.headerDemand h then t.demandLeft h else t) t).grantLawOn
        fun k => on k ∨ k ∈ l := by
    intro l
    induction l with
    | nil => exact fun t on _ kept => kept.mono fun _ mem => mem.resolve_right (by simp)
    | cons h l ih =>
      intro t on undemanded kept
      have visited : (if s.headerDemand h then t.demandLeft h else t).grantLawOn fun k => on k ∨ k = h := by
        split
        · exact kept.passed (t.demandLeft_headerMoved h) (t.demandLeft_passOf h)
        · rename_i none'
          exact kept.mono fun k mem => mem.elim id fun e => undemanded k (e ▸ Bool.eq_false_iff.2 none')
      exact (ih _ _ (fun k none' => Or.inl (undemanded k none')) visited).mono fun k mem => by
        simpa [or_assoc] using mem
  exact (walk sixNumbers _ _ (fun _ none' => none') law.stopLanes).mono fun h _ => Or.inr (mem_sixNumbers h)

/-! ## Shutdown entry and causes (07 R156, R157) -/

theorem Lane.shutAlone_keeps (elapsed : Nat) (l : Lane) :
    (l.shutAlone elapsed).record = l.record ∧ (l.shutAlone elapsed).arbiterGrant = l.arbiterGrant := by
  unfold Lane.shutAlone
  split <;> exact ⟨rfl, rfl⟩

/-- Stopped headers leave HOLD to every lane of a product (03 R69). -/
theorem State.stopHeaders_grantsHeld {s : State}
    (lone : ∀ i, (s.lane i).record.product = none → (s.lane i).arbiterGrant = .hold) : s.stopHeaders.grantsHeld := by
  intro i
  rw [s.stopHeaders_barred.2.1 i]
  split
  · rename_i product; exact lone i product
  · rfl

theorem State.closeInlets_grantQuiet (s : State) : s.grantQuiet s.closeInlets := State.grantQuiet_of_frame

/-- After shutdown entry every grant is HOLD (07 R157). -/
theorem State.grantLaw.shutdownEntry {s : State} (law : s.grantLaw) : s.shutdownEntry.grantLaw := by
  have held : s.unitsShut.grantsHeld := by
    refine (State.closeInlets_grantQuiet s.lanesShut.stopHeaders).held
      (State.stopHeaders_grantsHeld fun i product => ?_)
    obtain ⟨record, grant⟩ := (s.lane i).shutAlone_keeps s.elapsed
    rw [s.lanesShut_reports.1 i] at product ⊢
    rw [grant]
    exact law.lone i (record ▸ product)
  rw [State.shutdownEntry_eq]
  split
  · exact ((State.modShutdown_grantQuiet _ _).held held).grantLaw
  · exact held.grantLaw

theorem State.grantLaw.raise {s : State} (law : s.grantLaw) (kind : CauseKind) (detail : Mask) :
    (s.raise kind detail).grantLaw := by
  have recorded : (s.recordCause kind detail).grantLaw := law.unmoved
  refine (State.notify_grantQuiet _ _).keeps ?_
  rw [State.entryIfOpen_eq]
  split
  · exact recorded.shutdownEntry
  · exact recorded

theorem State.grantLaw.laneReport {s : State} (law : s.grantLaw) (i : Fin 8) (reason : LockoutReason) :
    (s.laneReport i reason).grantLaw := by
  unfold State.laneReport
  split
  case h_1 | h_2 =>
    exact ((State.modShutdown_grantQuiet _ s).trans (State.notify_grantQuiet _ _)).keeps law
  all_goals exact law.raise _ _

end Sys2Proof.Machine
end

section
/-! PROOFS. The events of the lanes, tanks, headers and the Shutdown Unit under the law of the grants. -/
namespace Sys2Proof.Machine
set_option Elab.async false

/-! ## Tanks -/

/-- A band put in place sends endings and makes a pass: neither takes a grant's demand away (04 R91; 03 R73). -/
theorem State.grantLaw.evaluateBand {s : State} (law : s.grantLaw) (t : Fin 8) : (s.evaluateBand t).grantLaw := by
  unfold State.evaluateBand
  extract_lets k band s1 s2
  have banded : s1.grantLaw := law.unmoved (t := s1) rfl rfl rfl
  clear_value s1
  have sent : s2.grantLaw := by
    unfold s2
    split
    · refine (State.notify_grantQuiet _ _).keeps ?_
      split
      · exact (State.sendEnding_grantQuiet _ (fun l => { l with tankLowEnding := true }) (fun _ => ⟨rfl, rfl, rfl⟩)
          s1).keeps banded
      · exact banded
    · exact banded
  split
  · exact sent
  · split
    · exact sent.grantPass _
    · exact sent

theorem State.grantLaw.debitLane {s : State} (law : s.grantLaw) (i : Fin 8) (net : Nat) :
    (s.debitLane i net).grantLaw := by
  unfold State.debitLane
  split
  · exact State.grantLaw.evaluateBand (s := s.modTank _ (Tank.debit net)) law.unmoved _
  · exact law

theorem State.grantLaw.leakCheck {s : State} (law : s.grantLaw) (t : Fin 8) (net : Int) :
    (s.leakCheck t net).grantLaw := by
  unfold State.leakCheck
  split
  · exact State.grantLaw.raise (s := s.modTank t fun k => { k with leak := true }) law.unmoved _ _
  · exact law

theorem State.grantLaw.watchCheck {s : State} (law : s.grantLaw) (t : Fin 8) (level : Nat) :
    (s.watchCheck t level).grantLaw := by
  unfold State.watchCheck
  split
  · exact law
  · split
    · exact State.grantLaw.raise (s := s.modTank t fun k => { k with watch := some level }) law.unmoved _ _
    · exact law

theorem State.grantLaw.goodReply {s : State} (law : s.grantLaw) (p : Poll) (r : GaugeReading) :
    (s.goodReply p r).grantLaw := by
  unfold State.goodReply
  extract_lets t net s3 s5
  have compared : s3.grantLaw :=
    State.grantLaw.watchCheck ((law.leakCheck t net).unmoved (t := (s.leakCheck t net).highHighCheck t r.level)) t
      r.level
  have held : s5.grantLaw :=
    State.grantLaw.evaluateBand (compared.unmoved (t := s3.modTank t (Tank.holdReading r s.now net))) t
  exact held.unmoved

theorem State.grantLaw.endPoll {s : State} (law : s.grantLaw) : s.endPoll.grantLaw := law.unmoved

theorem State.grantLaw.gaugeReply {s : State} (law : s.grantLaw) (bytes : List Byte) :
    (gaugeReply bytes s).grantLaw := by
  unfold Machine.gaugeReply
  split
  · exact law
  · split
    · split
      · exact law
      · exact law.unmoved
      · refine State.grantLaw.endPoll ?_
        split
        · exact law
        · exact law.goodReply _ _
    · exact law

/-! ## The lane's own events -/

theorem State.grantLaw.liftExceptions {s : State} (law : s.grantLaw) (i : Fin 8) (p : Fin 6) :
    (s.liftExceptions i p).grantLaw := by
  unfold State.liftExceptions
  split
  · exact law.closeLane i _
  · split
    · split
      · exact law.closeLane i _
      · exact law
    · exact law

/-- The lane that is lifted has HOLD until its header hears of its demand (01 R13; 03 R72). -/
theorem State.grantLaw.startDelivery {s : State} (law : s.grantLaw) (i : Fin 8) : (s.startDelivery i).grantLaw := by
  unfold State.startDelivery
  split
  · exact law
  · rename_i p _
    have lifted := (State.modLane_grantQuiet i
      (Lane.lifted (s.startTimer ((s.product p).maxOpen * 60)) (s.startTimer 60)) s
      fun _ => ⟨rfl, rfl, fun _ => rfl⟩).keeps law
    exact (State.grantLaw.demandAppeared lifted p _).liftExceptions i p

theorem State.grantLaw.nozzleLift {s : State} (law : s.grantLaw) (i : Fin 8) : (nozzleLift i s).grantLaw := by
  have out := (State.modLane_grantQuiet_of_same i (fun l => { l with nozzleOut := true }) s).keeps law
  unfold Machine.nozzleLift
  split
  · exact law
  · dsimp only
    split
    · exact State.grantLaw.startDelivery out i
    · exact out

theorem State.grantLaw.nozzleHangup {s : State} (law : s.grantLaw) (i : Fin 8) : (nozzleHangup i s).grantLaw := by
  have into := (State.modLane_grantQuiet_of_same i (fun l => { l with nozzleOut := false }) s).keeps law
  unfold Machine.nozzleHangup
  split
  · dsimp only
    split
    · rename_i done
      refine (State.modLane_grantQuiet i Lane.toIdle _ fun _ => ⟨rfl, rfl, fun d => ?_⟩).keeps into
      rw [State.lane_modLane_same] at d
      rw [show _ = LaneState.done from done] at d
      cases d
    · exact State.grantLaw.closeLane into i _
  · exact law

theorem State.grantLaw.authorisationExpiry {s : State} (law : s.grantLaw) (i : Fin 8) :
    (authorisationExpiry i s).grantLaw := by
  unfold Machine.authorisationExpiry
  split
  · rename_i expires
    exact ((State.withdrawLane_grantQuiet expires.1).trans (State.notify_grantQuiet _ _)).keeps law
  · exact law

theorem State.grantLaw.maxOpenExpiry {s : State} (law : s.grantLaw) (i : Fin 8) : (maxOpenExpiry i s).grantLaw := by
  unfold Machine.maxOpenExpiry
  split
  · exact law.closeLane i _
  · exact law

theorem State.commitDelivery_grantQuiet (i : Fin 8) (valveHeld : Bool) (s : State) :
    s.grantQuiet (s.commitDelivery i valveHeld) :=
  ((State.grantQuiet_of_frame (t := (s.creditMachine i).modJournal _)).trans
    (State.modLane_grantQuiet_of_same i _ _)).trans (State.notify_grantQuiet _ _)

theorem Lane.afterCommit_keeps (nozzleOut : Bool) (l : Lane) :
    (l.afterCommit nozzleOut).arbiterGrant = l.arbiterGrant ∧ (l.afterCommit nozzleOut).record = l.record := by
  unfold Lane.afterCommit
  split <;> exact ⟨rfl, rfl⟩

/-- A lane whose close completes demanded nothing (01 R24). -/
theorem State.finishClose_grantQuiet {i : Fin 8} {s : State} (closing : (s.lane i).state = .closing)
    (valveHeld : Bool) : s.grantQuiet (s.finishClose i valveHeld) := by
  refine (s.commitDelivery_grantQuiet i valveHeld).trans (State.modLane_grantQuiet i _ _ fun _ => ?_)
  obtain ⟨grant, record⟩ := ((s.commitDelivery i valveHeld).lane i).afterCommit_keeps
    ((s.commitDelivery i valveHeld).lane i).nozzleOut
  refine ⟨grant, congrArg LaneRecord.product record, fun d => ?_⟩
  have state : ((s.commitDelivery i valveHeld).lane i).state = .closing := by
    rw [State.commitDelivery_eq]
    simpa [State.lane, Lane.committed] using closing
  rw [state] at d; cases d

theorem State.grantLaw.closeLimitExpiry {s : State} (law : s.grantLaw) (i : Fin 8) :
    (closeLimitExpiry i s).grantLaw := by
  unfold Machine.closeLimitExpiry
  split
  · rename_i expires
    exact ((State.finishClose_grantQuiet expires.1 true).trans (State.modLane_grantQuiet_of_same i _ _)).keeps law
  · exact law

theorem State.grantLaw.creepWindowExpiry {s : State} (law : s.grantLaw) (i : Fin 8) :
    (creepWindowExpiry i s).grantLaw := by
  unfold Machine.creepWindowExpiry
  split
  · exact (State.modLane_grantQuiet_of_same i _ s).keeps law
  · exact law

theorem State.grantLaw.pumpEnding {s : State} (law : s.grantLaw) (i : Fin 8) : (pumpEnding i s).grantLaw := by
  unfold Machine.pumpEnding
  split
  · exact State.grantLaw.closeLane ((State.modLane_grantQuiet_of_same i _ s).keeps law) i _
  · exact law

theorem State.grantLaw.tankLowEnding {s : State} (law : s.grantLaw) (i : Fin 8) : (tankLowEnding i s).grantLaw := by
  unfold Machine.tankLowEnding
  split
  · exact State.grantLaw.closeLane ((State.modLane_grantQuiet_of_same i _ s).keeps law) i _
  · exact law

/-- A lane that takes its grant goes on demanding, or goes on not demanding. -/
theorem grantTaken_grantQuiet (i : Fin 8) (s : State) : s.grantQuiet (grantTaken i s) := by
  unfold grantTaken
  dsimp only
  cases hs : (s.lane i).state
  case waiting =>
    dsimp only
    split
    · exact State.modLane_grantQuiet_of_same i _ s
    · have flows := State.modLane_grantQuiet i (Lane.enterFlow (s.lane i).arbiterGrant) s
        fun _ => ⟨rfl, rfl, fun _ => by unfold Lane.enterFlow; dsimp only; split <;> rfl⟩
      split
      · exact flows
      · exact flows.trans (State.notify_grantQuiet _ _)
  case flowing | trimming =>
    dsimp only
    split
    · exact State.modLane_grantQuiet i _ s fun _ => ⟨rfl, rfl, fun _ => rfl⟩
    · exact State.modLane_grantQuiet_of_same i _ s
  all_goals exact State.modLane_grantQuiet_of_same i _ s

/-! ## The sample -/

/-- The tests of a sample change the stage of a lane and may take it from FLOWING to TRIMMING (01 R18, R19). -/
theorem Lane.sampleTests_grantKept (p : Product) (l : Lane) : l.grantKept (l.sampleTests p).1 := by
  have prime : l.grantKept (l.primeTest p) := by
    unfold Lane.primeTest
    split
    · exact fun _ => ⟨rfl, rfl, id⟩
    · exact l.grantKept_refl
  have trim : ∀ k : Lane, k.grantKept (k.trimTest p) := by
    intro k
    unfold Lane.trimTest
    split
    · refine fun _ => ⟨rfl, rfl, fun d => ?_⟩
      dsimp only
      split
      · rfl
      · exact d
    · exact k.grantKept_refl
  unfold Lane.sampleTests Lane.stageTests
  split
  · exact prime
  · exact prime.trans (trim _)

theorem State.grantLaw.applyTests {s : State} (law : s.grantLaw) (i : Fin 8) (h : Fin 6) :
    (s.applyTests i h).grantLaw := by
  have tested := (State.modLane_grantQuiet i (fun _ => ((s.lane i).sampleTests (s.product h)).1) s
    (Lane.sampleTests_grantKept _ _)).keeps law
  unfold State.applyTests
  dsimp only
  split
  · exact State.grantLaw.closeLane tested i _
  · split
    · exact tested
    · exact State.grantLaw.grantPass tested h

theorem State.grantLaw.hoseTest {s : State} (law : s.grantLaw) (i : Fin 8) (h : Fin 6) :
    (s.hoseTest i h).grantLaw := by
  have counted : ∀ c, (s.modLane i fun l => { l with hoseCount := c }).grantLaw := fun c =>
    (State.modLane_grantQuiet_of_same i _ s).keeps law
  unfold State.hoseTest
  dsimp only
  split
  · split
    · split
      · exact counted 1
      · exact (counted 0).raise _ _
    · exact counted 0
  · exact law

theorem State.grantLaw.laneTests {s : State} (law : s.grantLaw) (i : Fin 8) : (s.laneTests i).grantLaw := by
  unfold State.laneTests State.closeTest
  split
  · rename_i closing
    split
    · exact (State.finishClose_grantQuiet closing false).keeps law
    · exact law
  · split
    · exact (law.applyTests i _).hoseTest i _
    · exact law

theorem State.grantLaw.meteredSample {s : State} (law : s.grantLaw) (i : Fin 8) (n : Nat) :
    (s.meteredSample i n).grantLaw := by
  have taken : ∀ u : State, u.grantLaw →
      ((u.modLane i (Lane.addSample n (s.metering i n) s.now)).laneTests i).grantLaw :=
    fun u kept => State.grantLaw.laneTests ((State.modLane_grantQuiet_of_same i _ u).keeps kept) i
  unfold State.meteredSample
  dsimp only
  split
  · exact taken s law
  · exact (taken _ law.unmoved).debitLane i _

theorem State.grantLaw.sample {s : State} (law : s.grantLaw) (i : Fin 8) : (sample i s).grantLaw := by
  have read : (s.modLane i Lane.readCount).grantLaw := (State.modLane_grantQuiet_of_same i _ s).keeps law
  unfold Machine.sample
  dsimp only
  split
  · exact read.meteredSample i _
  · split
    · refine (State.modLane_grantQuiet_of_same i _ _ fun l => ?_).keeps read
      unfold Lane.creepSample
      split <;> exact ⟨rfl, rfl, rfl⟩
    · exact read

/-! ## The header's events -/

theorem State.grantLaw.proveChange {s : State} (law : s.grantLaw) (h : Fin 6) (active : Bool) :
    (proveChange h active s).grantLaw := by
  have kept := (State.modHeader_grantQuiet h (fun k => { k with prove := active }) s rfl).keeps law
  unfold Machine.proveChange
  dsimp only
  split
  · exact law
  · split
    · split
      · exact State.grantLaw.proved kept h
      · exact kept
    · split
      · exact kept
      · exact State.grantLaw.failPump kept h _
    · split
      · exact kept
      · exact State.grantLaw.failPump kept h _
    all_goals exact kept

theorem State.grantLaw.provingTimerExpiry {s : State} (law : s.grantLaw) (h : Fin 6) :
    (provingTimerExpiry h s).grantLaw := by
  unfold Machine.provingTimerExpiry
  split
  · exact law.failPump h _
  · exact law

theorem State.grantLaw.runonExpiry {s : State} (law : s.grantLaw) (h : Fin 6) : (runonExpiry h s).grantLaw := by
  unfold Machine.runonExpiry
  split
  · exact law.setPump h _ _ _
  · exact law

theorem State.grantLaw.staggerElapsed {s : State} (law : s.grantLaw) : (staggerElapsed s).grantLaw :=
  State.grantLaw.testSlot (s := s.modSlot fun k => { k with free := true }) law.unmoved

/-! ## The Shutdown Unit's events -/

theorem State.grantLaw.sumpActive {s : State} (law : s.grantLaw) (n : Fin 4) (active : Bool) :
    (sumpActive n active s).grantLaw := by
  unfold Machine.sumpActive
  dsimp only
  split
  · exact law
  · split
    · exact State.grantLaw.raise (s := s.modShutdown _) law.unmoved _ _
    · exact law.unmoved

theorem State.grantLaw.shortPress {s : State} (law : s.grantLaw) (lengthMs : Nat) :
    (s.shortPress lengthMs).grantLaw := by
  unfold State.shortPress
  split
  · exact law.laneStop.unmoved
  all_goals exact law

theorem State.grantLaw.pressRelease {s : State} (law : s.grantLaw) (lengthMs : Nat) :
    (pressRelease lengthMs s).grantLaw := by
  unfold Machine.pressRelease
  split
  · exact law
  · exact State.grantLaw.shortPress (s := s.modShutdown _) law.unmoved lengthMs
  · exact law.unmoved

theorem State.grantLaw.longPress {s : State} (law : s.grantLaw) : (longPress s).grantLaw := by
  unfold Machine.longPress
  split
  · exact State.grantLaw.raise (s := s.modShutdown _) law.unmoved _ _
  · exact law

theorem State.grantLaw.valveFailureReport {s : State} (law : s.grantLaw) (i : Fin 8) :
    (valveFailureReport i s).grantLaw := by
  unfold Machine.valveFailureReport
  split
  · exact law
  · exact State.grantLaw.laneReport ((State.modLane_grantQuiet_of_same i _ s).keeps law) i _

theorem State.grantLaw.creepReport {s : State} (law : s.grantLaw) (i : Fin 8) : (creepReport i s).grantLaw := by
  unfold Machine.creepReport
  split
  · exact law
  · exact State.grantLaw.laneReport ((State.modLane_grantQuiet_of_same i _ s).keeps law) i _

theorem closingReport_grantQuiet (i : Fin 8) (s : State) : s.grantQuiet (closingReport i s) := by
  unfold closingReport
  split
  · exact (State.modLane_grantQuiet_of_same i _ s).trans (State.modShutdown_grantQuiet _ _)
  · exact s.grantQuiet_refl

end Sys2Proof.Machine
end

section
/-! PROOFS. The period close, the starts, the requests and the host link under the law of the grants. -/
namespace Sys2Proof.Machine
set_option Elab.async false

/-! ## The period close -/

theorem State.resetFigures_grantQuiet (s : State) : s.grantQuiet s.resetFigures :=
  (eachOfEight_grantQuiet _ (fun i t => (State.grantQuiet_of_frame (t := t.modTank i Tank.newPeriod)).trans
    (State.modLane_grantQuiet_of_same i (fun l => { l with totals := {} }) _)) s).trans
    (State.modShutdown_grantQuiet _ _)

/-- A close moves the lanes' period totals and no other part of a lane (08 R176). -/
theorem State.closePeriod_grantQuiet (reason : CloseReason) (kind : Option PeriodKind) (s : State) :
    s.grantQuiet (s.closePeriod reason kind) := by
  have reset := (State.grantQuiet_of_frame (s := s) (t := s.useTanks.closeNotices)).trans
    (State.resetFigures_grantQuiet _)
  refine reset.trans ?_
  unfold State.closePeriod
  exact State.grantQuiet_of_frame

theorem boundary_grantQuiet (s : State) : s.grantQuiet (boundary s) := by
  unfold boundary
  split
  · exact (State.grantQuiet_of_frame (t := s.modPeriod fun u => { u with boundaryDue := none })).trans
      (State.closePeriod_grantQuiet _ _ _)
  · exact s.grantQuiet_refl

/-! ## The starts (10 R203 to R206) -/

/-- A part that has lost its supply keeps its lanes, headers and products as they were. -/
theorem State.goDark_grantQuiet (power : Power) (s : State) : s.grantQuiet (s.goDark power) := by
  unfold State.goDark
  exact State.grantQuiet_of_frame

theorem State.afterColdStart_grantsHeld (baudHigh : Bool) : (State.afterColdStart baudHigh).grantsHeld := by
  intro i
  simp [State.lane, State.afterColdStart]

/-- A change of one lane beside its grant keeps every HOLD. -/
theorem State.grantsHeld.modLane {s : State} (held : s.grantsHeld) (i : Fin 8) (f : Lane → Lane)
    (same : ∀ l, (f l).arbiterGrant = l.arbiterGrant) : (s.modLane i f).grantsHeld := by
  intro j
  by_cases hj : j = i
  · subst hj; rw [State.lane_modLane_same, same]; exact held j
  · rw [State.lane_modLane_ne _ _ hj]; exact held j

/-- A part at rest after a start has HOLD on every lane (10 R205; 03 R70). -/
theorem State.restUnits_grantsHeld (s : State) : s.restUnits.grantsHeld := by
  unfold State.restUnits
  extract_lets a w
  have held : w.grantsHeld := fun k =>
    eachOfEight_settles (fun k t => (t.lane k).arbiterGrant = .hold)
      (fun i t => (t.modLane i Lane.afterStart).modTank i (Tank.afterStart s.now))
      (fun i t => by
        show ((t.modLane i Lane.afterStart).lane i).arbiterGrant = .hold
        rw [State.lane_modLane_same]; rfl)
      (fun i j t here => by
        show ((t.modLane i Lane.afterStart).lane j).arbiterGrant = .hold
        by_cases hj : j = i
        · subst hj; rw [State.lane_modLane_same]; rfl
        · rw [State.lane_modLane_ne _ _ hj]; exact here) _ k
  exact held

theorem recoverLane_grantsHeld (nozzleOut : Mask) (i : Fin 8) (s : State) (held : s.grantsHeld) :
    (recoverLane nozzleOut i s).grantsHeld := by
  have committed : (s.powerCommit i (nozzleOut.getLsbD i.val)).grantsHeld := by
    have caused := held.modLane i (fun l => { l with delivery := { l.delivery with endCause := some .power } })
      fun _ => rfl
    have recorded := (State.commitDelivery_grantQuiet i false _).held caused
    unfold State.powerCommit
    exact recorded.modLane i _ fun l => (l.afterCommit_keeps _).1
  unfold recoverLane
  cases hs : (s.lane i).state
  case idle | done => dsimp only; exact held
  case authorised => dsimp only; exact (State.withdrawLane_grantQuiet hs).held held
  all_goals dsimp only; exact committed

theorem State.lateClose_grantQuiet (s : State) : s.grantQuiet s.lateClose := by
  unfold State.lateClose
  split
  · split
    · exact State.closePeriod_grantQuiet _ _ s
    · exact s.grantQuiet_refl
  · exact s.grantQuiet_refl

theorem State.recover_grantsHeld (pins : StartPins) {s : State} (held : s.grantsHeld) :
    (s.recover pins).grantsHeld := by
  have lanes : ∀ t : State, t.grantsHeld → (t.recoverLanes pins.nozzleOut).grantsHeld := fun t here =>
    eachOfEight_induction _ (fun i t => recoverLane_grantsHeld pins.nozzleOut i t) here
  unfold State.recover
  split
  · exact lanes _ (s.lateClose_grantQuiet.held held)
  · exact (State.lateClose_grantQuiet _).held (lanes s held)

/-- After any start every grant is HOLD (10 R203, R205). -/
theorem State.start_grantsHeld (pins : StartPins) (s : State) : (s.start pins).grantsHeld := by
  unfold State.start
  split
  · have rested : (s.rest (if pins.keyLow then .key else .warm) pins.baudHigh).grantsHeld := by
      refine State.grantQuiet.held (s := s.restUnits) ?_ s.restUnits_grantsHeld
      unfold State.rest
      exact State.grantQuiet_of_frame
    refine State.grantQuiet.held ?_ (State.recover_grantsHeld pins rested)
    unfold State.warmStart
    exact State.grantQuiet_of_frame
  · refine State.grantQuiet.held ?_ (State.afterColdStart_grantsHeld pins.baudHigh)
    unfold State.coldStart
    exact State.grantQuiet_of_frame

/-! ## Requests that move no lane, header or product -/

theorem tablePoint_grantQuiet (f : TablePointFields) (s : State) : s.grantQuiet (tablePoint f s).2 := by
  unfold tablePoint
  repeat' split
  all_goals exact State.grantQuiet_of_frame

theorem tableCommit_grantQuiet (f : CommitFields) (s : State) : s.grantQuiet (tableCommit f s).2 := by
  unfold tableCommit
  repeat' split
  all_goals exact State.grantQuiet_of_frame

theorem timeSet_grantQuiet (clock : Nat) (s : State) : s.grantQuiet (timeSet clock s).2 := by
  unfold timeSet
  split
  all_goals exact State.grantQuiet_of_frame

theorem laneQuery_grantQuiet (lane : Nat) (s : State) : s.grantQuiet (laneQuery lane s).2 := by
  unfold laneQuery
  split
  all_goals exact State.grantQuiet_of_frame

theorem tankQuery_grantQuiet (tank : Nat) (s : State) : s.grantQuiet (tankQuery tank s).2 := by
  unfold tankQuery
  split
  all_goals exact State.grantQuiet_of_frame

theorem gaugeNow_grantQuiet (tank : Nat) (s : State) : s.grantQuiet (gaugeNow tank s).2 := by
  unfold gaugeNow
  repeat' split
  all_goals exact State.grantQuiet_of_frame

theorem receiptOpen_grantQuiet (f : ReceiptOpenFields) (s : State) : s.grantQuiet (receiptOpen f s).2 := by
  unfold receiptOpen openReceipt
  dsimp only
  repeat' split
  all_goals exact State.grantQuiet_of_frame

theorem receiptClose_grantQuiet (tank : Nat) (s : State) : s.grantQuiet (receiptClose tank s).2 := by
  unfold receiptClose
  repeat' split
  all_goals exact State.grantQuiet_of_frame

theorem bookSet_grantQuiet (f : BookFields) (s : State) : s.grantQuiet (bookSet f s).2 := by
  unfold bookSet
  repeat' split
  all_goals exact State.grantQuiet_of_frame

theorem machineRead_grantQuiet (machine : Nat) (s : State) : s.grantQuiet (machineRead machine s).2 := by
  unfold machineRead
  split
  all_goals exact State.grantQuiet_of_frame

theorem machineWrite_grantQuiet (f : MachineWriteFields) (s : State) : s.grantQuiet (machineWrite f s).2 := by
  unfold machineWrite
  repeat' split
  all_goals exact State.grantQuiet_of_frame

theorem patternLoad_grantQuiet (f : PatternFields) (s : State) : s.grantQuiet (patternLoad f s).2 := by
  unfold patternLoad
  split
  all_goals exact State.grantQuiet_of_frame

theorem groupApply_grantQuiet (f : GroupFields) (s : State) : s.grantQuiet (groupApply f s).2 := by
  unfold groupApply
  repeat' split
  all_goals exact State.grantQuiet_of_frame

theorem journalRead_grantQuiet (f : JournalReadFields) (s : State) : s.grantQuiet (journalRead f s).2 := by
  unfold journalRead
  split
  all_goals exact State.grantQuiet_of_frame

theorem journalAck_grantQuiet (n : Nat) (s : State) : s.grantQuiet (journalAck n s).2 := by
  unfold journalAck
  split
  all_goals exact State.grantQuiet_of_frame

theorem bayArm_grantQuiet (s : State) : s.grantQuiet (bayArm s).2 := by
  unfold bayArm
  repeat' split
  all_goals exact State.grantQuiet_of_frame

theorem bayClear_grantQuiet (kind : Nat) (s : State) : s.grantQuiet (bayClear kind s).2 := by
  unfold bayClear
  repeat' split
  all_goals exact State.grantQuiet_of_frame

theorem status_grantQuiet (part : Nat) (s : State) : s.grantQuiet (status part s).2 := by
  unfold status
  split
  all_goals exact State.grantQuiet_of_frame

theorem reportRead_grantQuiet (f : ReportReadFields) (s : State) : s.grantQuiet (reportRead f s).2 := by
  unfold reportRead
  repeat' split
  all_goals exact State.grantQuiet_of_frame

/-! ## Requests that do -/

/-- A product whose lanes are IDLE has no grant on its header, whatever its record becomes (03 R60). -/
theorem State.grantLaw.modProduct {s : State} (law : s.grantLaw) (p : Fin 6) (f : Product → Product)
    (rests : ∀ i, (s.lane i).record.product = some p → (s.lane i).state.demands = false) :
    (s.modProduct p f).grantLaw where
  lone := law.lone
  each h _ := by
    by_cases hp : h = p
    · subst hp
      exact State.grantLawAt_of_held fun i product => law.hold (rests i product)
    · have other := State.product_modProduct_ne p h hp f s
      obtain ⟨demanding, within⟩ := law.each h trivial
      refine ⟨demanding, ?_⟩
      rw [other, State.grantedRate_congr (s := s) h fun i => by rw [other]; rfl]
      exact within

theorem State.grantLaw.productSet {s : State} (law : s.grantLaw) (f : ProductFields) : (productSet f s).2.grantLaw := by
  unfold Machine.productSet
  split
  · rename_i p r _ _
    split
    · exact law
    · split
      · exact law
      · rename_i free
        dsimp only
        refine law.modProduct p _ fun i product => ?_
        have idle : (s.lane i).state = .idle := by
          by_contra busy
          exact free (by rw [(s.productBusy_iff p).2 ⟨i, product, busy⟩]; rfl)
        rw [idle]; rfl
  · exact law

/-- An IDLE lane has HOLD, whatever product it is given (01 R2). -/
theorem State.grantLaw.laneSet {s : State} (law : s.grantLaw) (f : LaneFields) : (laneSet f s).2.grantLaw := by
  unfold Machine.laneSet
  split
  · rename_i i r _ _
    split
    · exact law
    · rename_i idle
      dsimp only
      refine (State.modLane_grantQuiet i _ s fun granted => absurd (law.hold (i := i) ?_) granted).keeps law
      rw [not_not.1 idle]; rfl
  · exact law

theorem State.grantLaw.tankSet {s : State} (law : s.grantLaw) (f : TankFields) : (tankSet f s).2.grantLaw := by
  unfold Machine.tankSet
  split
  · rename_i t r _ _
    have recorded : (s.modTank t fun k => { k with record := r }).grantLaw := law.unmoved
    split
    · exact law
    · split
      · exact law
      · dsimp only
        split
        · exact recorded.evaluateBand t
        · exact recorded.unmoved
  · exact law

theorem curvePoint_grantQuiet (f : CurvePointFields) (s : State) : s.grantQuiet (curvePoint f s).2 := by
  unfold curvePoint
  split
  · exact s.grantQuiet_refl
  · split
    · dsimp only
      exact State.modLane_grantQuiet_of_same _ _ s
    · exact s.grantQuiet_refl

theorem curveCommit_grantQuiet (f : CommitFields) (s : State) : s.grantQuiet (curveCommit f s).2 := by
  unfold curveCommit
  split
  · exact s.grantQuiet_refl
  · split
    · exact s.grantQuiet_refl
    · split
      · exact s.grantQuiet_refl
      · split
        · exact s.grantQuiet_refl
        · dsimp only
          exact State.modLane_grantQuiet_of_same _ _ s

theorem State.grantLaw.baySet {s : State} (law : s.grantLaw) (f : BayFields) : (baySet f s).2.grantLaw := by
  unfold Machine.baySet
  split
  · exact law
  · rename_i v _
    have tested := State.grantLaw.testSlot (s := (s.setSettings v).modSlot
      (StartSlot.retest s.settings.stagger v.stagger s.elapsed (s.phase 0))) law.unmoved
    exact tested.unmoved

/-- An AUTHORISE is accepted on an IDLE lane, which does not demand (01 R9). -/
theorem acceptAuthorise_grantQuiet {o : AuthoriseOperands} {s : State} (idle : (s.lane o.lane).state = .idle)
    (f : AuthoriseFields) (p : Fin 6) (t : Fin 8) : s.grantQuiet (acceptAuthorise f o p t s).2 := by
  unfold acceptAuthorise
  dsimp only
  have reserved := State.grantQuiet_of_frame (s := s)
    (t := (s.hourProcessing o.machine o.lane f.hourReading).2.modJournal Journal.reserve)
  refine reserved.trans (State.modLane_grantQuiet _ _ _ fun _ => ⟨rfl, rfl, fun d => ?_⟩)
  rw [State.lane_congr o.lane s _ (by simp), idle] at d
  cases d

theorem State.grantLaw.authorise {s : State} (law : s.grantLaw) (f : AuthoriseFields) : (authorise f s).2.grantLaw := by
  unfold Machine.authorise checkAuthorise
  split
  · exact law
  · split
    · exact law
    · split
      · exact law
      · rename_i idle
        split
        · exact law
        · split
          · exact law
          · split
            · exact law
            · split
              · exact law
              · split
                · exact law
                · split
                  · exact law.unmoved
                  · exact (acceptAuthorise_grantQuiet (not_not.1 idle) f _ _).keeps law

theorem State.grantLaw.cancel {s : State} (law : s.grantLaw) (lane : Nat) : (cancel lane s).2.grantLaw := by
  unfold Machine.cancel State.cancelLane
  split
  · exact law
  · dsimp only
    split
    · rename_i authorised
      exact (State.withdrawLane_grantQuiet authorised).keeps law
    · exact law.closeLane _ _

theorem State.grantLaw.bayDisarm {s : State} (law : s.grantLaw) : (bayDisarm s).2.grantLaw := by
  unfold Machine.bayDisarm
  dsimp only
  split
  · exact law
  · split
    · exact law
    · dsimp only
      exact (State.stopHeaders_grantsHeld (s := s.modShutdown _) law.lone).grantLaw

theorem State.grantLaw.pumpReset {s : State} (law : s.grantLaw) (header : Nat) : (pumpReset header s).2.grantLaw := by
  unfold Machine.pumpReset
  split
  · exact law
  · split
    · dsimp only
      exact law.setPump _ _ _ _
    · exact law

/-- Every request's owner keeps the law of the grants. -/
theorem State.grantLaw.serveRequest {s : State} (law : s.grantLaw) (r : Request) : (serveRequest r s).2.grantLaw := by
  cases r with
  | productSet f => exact law.productSet f
  | laneSet f => exact law.laneSet f
  | tankSet f => exact law.tankSet f
  | tablePoint f => exact (tablePoint_grantQuiet f s).keeps law
  | tableCommit f => exact (tableCommit_grantQuiet f s).keeps law
  | curvePoint f => exact (curvePoint_grantQuiet f s).keeps law
  | curveCommit f => exact (curveCommit_grantQuiet f s).keeps law
  | baySet f => exact law.baySet f
  | timeSet n => exact (timeSet_grantQuiet n s).keeps law
  | authorise f => exact law.authorise f
  | cancel n => exact law.cancel n
  | laneQuery n => exact (laneQuery_grantQuiet n s).keeps law
  | tankQuery n => exact (tankQuery_grantQuiet n s).keeps law
  | gaugeNow n => exact (gaugeNow_grantQuiet n s).keeps law
  | receiptOpen f => exact (receiptOpen_grantQuiet f s).keeps law
  | receiptClose n => exact (receiptClose_grantQuiet n s).keeps law
  | bookSet f => exact (bookSet_grantQuiet f s).keeps law
  | machineRead n => exact (machineRead_grantQuiet n s).keeps law
  | machineWrite f => exact (machineWrite_grantQuiet f s).keeps law
  | patternLoad f => exact (patternLoad_grantQuiet f s).keeps law
  | groupApply f => exact (groupApply_grantQuiet f s).keeps law
  | journalRead f => exact (journalRead_grantQuiet f s).keeps law
  | journalStop => exact law
  | journalAck n => exact (journalAck_grantQuiet n s).keeps law
  | bayArm => exact (bayArm_grantQuiet s).keeps law
  | bayDisarm => exact law.bayDisarm
  | bayShutdown => exact law.raise .command 0
  | bayClear n => exact (bayClear_grantQuiet n s).keeps law
  | pumpReset n => exact law.pumpReset n
  | status n => exact (status_grantQuiet n s).keeps law
  | reportNow => exact (State.closePeriod_grantQuiet .request none s).keeps law
  | reportRead f => exact (reportRead_grantQuiet f s).keeps law

/-! ## The host link -/

theorem State.grantLaw.takeHeld {s : State} (law : s.grantLaw) : s.takeHeld.grantLaw := by
  have answered : ∀ {u : State} (kind tag : Byte) (a : Answer), u.grantLaw → (u.putReply kind tag a).grantLaw :=
    fun _ _ _ kept => kept.unmoved
  have held : ∀ f, (s.modLink f).grantLaw := fun _ => law.unmoved
  unfold State.takeHeld
  split
  · refine answered _ _ _ ?_
    unfold serveFrame
    split
    · exact (held _).serveRequest _
    · dsimp only [unknownKind]; exact held _
    · dsimp only [malformed]; exact held _
  · exact law

theorem State.grantLaw.frameCompletes {s : State} (law : s.grantLaw) (bytes : List Byte) :
    (s.frameCompletes bytes).grantLaw := by
  unfold State.frameCompletes State.offerFrame
  dsimp only
  split
  · split
    · exact State.grantLaw.takeHeld (s := State.holdFrame _ _) law.unmoved
    · exact law.unmoved
  · exact law.unmoved

theorem State.grantLaw.hostByteReceived {s : State} (law : s.grantLaw) (b : Byte) : (hostByteReceived b s).grantLaw := by
  unfold Machine.hostByteReceived
  split
  · split
    · exact law.unmoved
    · exact law
  · dsimp only
    split
    · exact law.unmoved
    · split
      · exact law.frameCompletes _
      · exact law.unmoved

theorem State.grantLaw.frameSent {s : State} (law : s.grantLaw) : (frameSent s).grantLaw := by
  unfold Machine.frameSent
  split
  · exact State.grantLaw.takeHeld (s := State.messageSent _ _) law.unmoved
  · exact law

end Sys2Proof.Machine
end

section
/-! PROOFS. Every command and every step keeps the law of the grants (O59). -/
namespace Sys2Proof.Machine
set_option Elab.async false

/-- A request row is the arrival of its request for the request's owner (09 R188 to R190). -/
theorem exec_of_asRequest {c : Instr} {tag : Byte} {r : Request} (row : asRequest c = some (tag, r)) (s : State) :
    exec c s = event (State.request (r.frame tag) (serveRequest r)) s := by
  cases c <;> cases row <;> rfl

/-- The answer of a command keeps the law of the grants. -/
def keepsGrantLaw (o : Host.Outcome State Fault Refusal) : Prop := ∀ t, o = .next t → t.grantLaw

theorem keepsGrantLaw_next {t : State} (law : t.grantLaw) : keepsGrantLaw (.next t) := fun _ e => by
  cases e; exact law

theorem event_keepsGrantLaw (f : State → State) {s : State} (law : s.grantLaw) (kept : (f s).grantLaw) :
    keepsGrantLaw (event f s) := by
  refine keepsGrantLaw_next ?_
  split
  · exact kept.unmoved
  · exact law

theorem request_keepsGrantLaw (f : HeldFrame) (owner : State → Answer × State) {s : State} (law : s.grantLaw)
    (kept : (owner s).2.grantLaw) : keepsGrantLaw (event (State.request f owner) s) := by
  refine event_keepsGrantLaw _ law ?_
  unfold State.request
  split
  · exact law.unmoved
  · exact kept.unmoved

/-- Every row that is no request keeps the law of the grants. -/
theorem exec_keepsGrantLaw_of_event (c : Instr) (noRequest : asRequest c = none) {s : State} (law : s.grantLaw) :
    keepsGrantLaw (exec c s) := by
  have quiet : ∀ (f : State → State), s.grantQuiet (f s) → keepsGrantLaw (event f s) := fun f q =>
    event_keepsGrantLaw f law (q.keeps law)
  cases c
  case unknownKind | malformed => exact request_keepsGrantLaw _ _ law law
  case frameReceived bytes => exact event_keepsGrantLaw _ law (law.frameCompletes bytes)
  case frameGap => exact quiet _ State.grantQuiet_of_frame
  case frameSent => exact event_keepsGrantLaw _ law law.frameSent
  case hostByteReceived byte => exact event_keepsGrantLaw _ law (law.hostByteReceived byte)
  case pulse i => exact quiet _ (State.modLane_grantQuiet_of_same i countPulse s)
  case sample i => exact event_keepsGrantLaw _ law (law.sample i)
  case nozzleLift i => exact event_keepsGrantLaw _ law (law.nozzleLift i)
  case nozzleHangup i => exact event_keepsGrantLaw _ law (law.nozzleHangup i)
  case authorisationExpiry i => exact event_keepsGrantLaw _ law (law.authorisationExpiry i)
  case maxOpenExpiry i => exact event_keepsGrantLaw _ law (law.maxOpenExpiry i)
  case closeLimitExpiry i => exact event_keepsGrantLaw _ law (law.closeLimitExpiry i)
  case creepWindowExpiry i => exact event_keepsGrantLaw _ law (law.creepWindowExpiry i)
  case grantTaken i => exact quiet _ (grantTaken_grantQuiet i s)
  case pumpEnding i => exact event_keepsGrantLaw _ law (law.pumpEnding i)
  case tankLowEnding i => exact event_keepsGrantLaw _ law (law.tankLowEnding i)
  case proveChange h active => exact event_keepsGrantLaw _ law (law.proveChange h active)
  case provingTimerExpiry h => exact event_keepsGrantLaw _ law (law.provingTimerExpiry h)
  case runonExpiry h => exact event_keepsGrantLaw _ law (law.runonExpiry h)
  case staggerElapsed => exact event_keepsGrantLaw _ law law.staggerElapsed
  case roundDue => exact quiet _ State.grantQuiet_of_frame
  case gaugePollSent => exact quiet _ State.grantQuiet_of_frame
  case gaugeReply bytes => exact event_keepsGrantLaw _ law (law.gaugeReply bytes)
  case replyTimerExpiry => exact quiet _ State.grantQuiet_of_frame
  case sumpActive sump active => exact event_keepsGrantLaw _ law (law.sumpActive sump active)
  case pressBegin => exact quiet _ State.grantQuiet_of_frame
  case pressRelease lengthMs => exact event_keepsGrantLaw _ law (law.pressRelease lengthMs)
  case longPress => exact event_keepsGrantLaw _ law law.longPress
  case valveFailureReport i => exact event_keepsGrantLaw _ law (law.valveFailureReport i)
  case creepReport i => exact event_keepsGrantLaw _ law (law.creepReport i)
  case closingReport i => exact quiet _ (closingReport_grantQuiet i s)
  case keyTurn => exact quiet _ State.grantQuiet_of_frame
  case keySeenHigh => exact quiet _ (State.modShutdown_grantQuiet _ s)
  case boundary => exact quiet _ (boundary_grantQuiet s)
  case powerLoss =>
    refine keepsGrantLaw_next ?_
    split
    · exact law
    · exact (State.goDark_grantQuiet _ s).keeps law
  case resetAssert =>
    refine keepsGrantLaw_next ?_
    split
    · exact (State.goDark_grantQuiet _ s).keeps law
    · exact law
  case vbatLoss =>
    refine keepsGrantLaw_next ?_
    split
    · exact law.unmoved
    · exact law
  case coldStart pins => exact keepsGrantLaw_next (s.start_grantsHeld pins).grantLaw
  case warmStart pins => exact keepsGrantLaw_next (s.start_grantsHeld pins).grantLaw
  case clockSecond =>
    refine keepsGrantLaw_next ?_
    split
    · exact law.unmoved
    · split
      · exact law.unmoved
      · exact law
  all_goals cases noRequest

/-- Every command keeps the law of the grants. -/
theorem exec_keepsGrantLaw (c : Instr) {s : State} (law : s.grantLaw) : keepsGrantLaw (exec c s) := by
  cases row : asRequest c with
  | none => exact exec_keepsGrantLaw_of_event c row law
  | some named =>
    rw [exec_of_asRequest row]
    exact request_keepsGrantLaw _ _ law (law.serveRequest named.2)

/-- A step keeps the law of the grants. -/
theorem step_keepsGrantLaw {s : State} (law : s.grantLaw) : keepsGrantLaw (step s) := by
  unfold step
  split
  · exact keepsGrantLaw_next law
  · exact exec_keepsGrantLaw _ law.unmoved

end Sys2Proof.Machine

namespace Sys2Proof
open Sys2Proof.Machine
set_option Elab.async false

/-- Settles O59: a move that breaks the law on a header ends in a pass of it, and every other move leaves each grant
on the demand and the running pump it stood on. -/
theorem grantLawIsKept : Obligations.GrantLawIsKept := by
  intro s t lawful kept next
  exact (State.grantLaw_iff t).1 (step_keepsGrantLaw ((State.grantLaw_iff s).2 ⟨lawful, kept⟩) t next)

end Sys2Proof
end

section
/-! PROOFS. The product record, and the reset of a pump (O7, O38). -/
namespace Sys2Proof.Machine
set_option Elab.async false

/-! ## The operands of PRODUCT-SET (03 R58, R60) -/

theorem kindCode_code (kind : ProductKind) : kindCode (if kind = .fuel then 0 else 1) = some kind := by
  cases kind <;> rfl

theorem kindCode_eq_none {n : Nat} (h : 1 < n) : kindCode n = none := by
  unfold kindCode
  split
  · omega
  · omega
  · rfl

theorem flagCode_eq_none {n : Nat} (h : 1 < n) : flagCode n = none := by
  unfold flagCode
  split
  · omega
  · omega
  · rfl

theorem tankCode_eq_none {n : Nat} (h : 7 < n) (h' : n ≠ 255) : tankCode n = none := by
  unfold tankCode
  rw [if_neg h', eightNumber_eq_none h, Option.map_none]

/-- The record the fields of a PRODUCT-SET spell. -/
def productRecord (f : ProductFields) (kind : ProductKind) (service : Bool) (feed : Option (Fin 8)) : Product :=
  { kind := kind, alpha := f.alpha, fullRate := f.fullRate, slowRate := f.slowRate, primeVolume := f.primeVolume
    trimVolume := f.trimVolume, closeAhead := f.closeAhead, maxFill := f.maxFill, maxOpen := f.maxOpen
    noFlow := f.noFlow, creepVolume := f.creepVolume, service := service, feedTank := feed
    pumpCapacity := f.pumpCapacity, runOn := f.runOn }

/-- The fields of a PRODUCT-SET are read as their record exactly within the ranges. -/
theorem readProduct_of_codes {f : ProductFields} {kind : ProductKind} {service : Bool} {feed : Option (Fin 8)}
    (hk : f.kind = if kind = .fuel then 0 else 1) (hs : f.serviceFlag = service.toNat) (ht : f.feedTank = indexCode feed) :
    readProduct f = if productRanges f then some (productRecord f kind service feed) else none := by
  unfold readProduct
  rw [hk, hs, ht, kindCode_code, flagCode_toNat, tankCode_indexCode]
  rfl

/-- A code or a bound out of range leaves no record. -/
theorem readProduct_eq_none {f : ProductFields}
    (h : 1 < f.kind ∨ 1 < f.serviceFlag ∨ (7 < f.feedTank ∧ f.feedTank ≠ 255) ∨ productRanges f = false) :
    readProduct f = none := by
  unfold readProduct
  rcases h with h | h | ⟨h, h'⟩ | h
  · rw [kindCode_eq_none h]
  · rw [flagCode_eq_none h]
    cases kindCode f.kind <;> rfl
  · rw [tankCode_eq_none h h']
    cases kindCode f.kind <;> cases flagCode f.serviceFlag <;> rfl
  · rw [h]
    split <;> rfl

/-- The feed tank of the record that is read is the one the field names. -/
theorem readProduct_feedTank {f : ProductFields} {r : Product} {t : Fin 8} (read : readProduct f = some r)
    (named : f.feedTank = t.val) : r.feedTank = some t := by
  unfold readProduct at read
  rw [named, show tankCode t.val = some (some t) from tankCode_indexCode (some t)] at read
  split at read
  · split at read
    · cases read; simp_all
    · cases read
  · cases read

/-! ## What PRODUCT-SET answers -/

section
variable {f : ProductFields} {s : State} {p : Fin 6} {r : Product}

theorem productSet_range (h : sixNumber f.product = none ∨ readProduct f = none
    ∨ ∃ (p : Fin 6) (t : Fin 8), f.product = p.val ∧ f.feedTank = t.val ∧ (s.tank t).record.product ≠ some p) :
    productSet f s = (refuse .range, s) := by
  unfold productSet
  split
  · rename_i p r named read
    rcases h with h | h | ⟨q, t, product, tank, other⟩
    · rw [h] at named; cases named
    · rw [h] at read; cases read
    · rw [product, sixNumber_val] at named
      cases named
      rw [readProduct_feedTank read tank]
      exact if_pos (by simpa [State.feedNamed] using other)
  · rfl

theorem productSet_named (product : f.product = p.val) (read : readProduct f = some r)
    (feeds : s.feedNamed p r.feedTank = true) :
    productSet f s =
      if s.productBusy p || !((s.header p).pump == .stopped || (s.header p).pump == .failed) then
        (refuse .headerBusy, s)
      else (accept, s.modProduct p fun _ => r) := by
  unfold productSet
  rw [product, sixNumber_val, read]
  dsimp only
  rw [if_neg (by rw [feeds]; simp)]

end

/-! ## Headers moved -/

/-- A header that has moved is the one item of the headers that has. -/
theorem State.headerMoved.eq_set {h : Fin 6} {s t : State} (moved : s.headerMoved h t) :
    t = { s with headers := s.headers.set h (t.header h), slot := t.slot, lanes := t.lanes } := by
  have headers : t.headers = s.headers.set h (t.header h) := by
    refine Vector.ext fun k hk => ?_
    rw [Vector.getElem_set]
    split
    · rename_i same; subst same; rfl
    · rename_i other
      exact moved.others ⟨k, hk⟩ fun e => other (congrArg Fin.val e).symm
  rw [← headers]
  exact moved.rest

theorem State.setPump_eq (h : Fin 6) (p : PumpState) (a b : Option Timer) (s : State) :
    s.setPump h p a b =
      { s with headers := s.headers.set h ((s.header h).inState p a b), lanes := (s.setPump h p a b).lanes } := by
  have moved := (State.setPump_headerMoved h p a b s).eq_set
  rw [State.header_setPump_same, State.slot_setPump] at moved
  exact moved

/-- A pump that is not to run leaves HOLD on every lane of its product (03 R70). -/
theorem State.setPump_of_still (h : Fin 6) (p : PumpState) (a b : Option Timer) (s : State) (still : p ≠ .running) :
    s.setPump h p a b =
      { s with headers := s.headers.set h ((s.header h).inState p a b)
               lanes := Vector.ofFn fun i =>
                 if (s.lane i).record.product = some h then { s.lane i with arbiterGrant := .hold } else s.lane i } := by
  have lanes : (s.setPump h p a b).lanes = Vector.ofFn fun i =>
      if (s.lane i).record.product = some h then { s.lane i with arbiterGrant := .hold } else s.lane i := by
    refine State.lanes_eq_of_lane fun i => ?_
    rw [Fin.getElem_fin, Vector.getElem_ofFn]
    exact (State.setPump_passOf h p a b s).lane_of_still (by rw [State.header_setPump_same]; exact still) i
  rw [← lanes]
  exact State.setPump_eq h p a b s

end Sys2Proof.Machine

namespace Sys2Proof
open Sys2Proof.Machine
set_option Elab.async false

/-- Settles O7: a PRODUCT-SET within its ranges is read as its record, and goes by the lanes and the header; any other
is read as none or names a feed tank of another product. -/
theorem productSetReplacesRecord : Obligations.ProductSetReplacesRecord := by
  refine ⟨?_, fun tag f s ready h => ?_⟩
  · intro tag f s p kind service feed ready product hk hs ht a1 a2 a3 a4 a5 a6 a7 a8 a9 a10 a11 a12 a13 a14 a15 a16 a17
      a18 a19 feeds
    have read : readProduct f = some (productRecord f kind service feed) := by
      rw [readProduct_of_codes hk hs ht, if_pos (by simp [productRanges, *])]
    have named : s.feedNamed p feed = true := by
      cases feed with
      | none => rfl
      | some t => simpa [State.feedNamed] using feeds t rfl
    have set := productSet_named product read named
    refine ⟨fun idle rests => ?_, fun busy => ?_⟩
    · refine event_request_exact ready _ _ _ _ ready.1 (set.trans (if_neg ?_))
      have free : s.productBusy p = false := by
        rw [Bool.eq_false_iff, Ne, State.productBusy_iff]
        rintro ⟨i, on, out⟩
        exact out (idle i on)
      rw [free]
      rcases rests with rests | rests <;> simp [rests]
    · refine event_request_exact ready _ _ _ _ ready.1 (set.trans (if_pos ?_))
      rw [Bool.or_eq_true, State.productBusy_iff]
      simpa using busy
  · refine event_request_exact ready _ _ _ _ ready.1 (productSet_range ?_)
    by_cases other : ∃ (p : Fin 6) (t : Fin 8), f.product = p.val ∧ f.feedTank = t.val
        ∧ (s.tank t).record.product ≠ some p
    · exact Or.inr (Or.inr other)
    by_cases ranges : productRanges f = true
    · have codes : 5 < f.product ∨ 1 < f.kind ∨ 1 < f.serviceFlag ∨ (7 < f.feedTank ∧ f.feedTank ≠ 255) := by
        simp only [other, or_false] at h
        simp only [productRanges, Bool.and_eq_true, decide_eq_true_eq] at ranges
        omega
      rcases codes with c | c | c | c
      · exact Or.inl (sixNumber_eq_none c)
      · exact Or.inr (Or.inl (readProduct_eq_none (Or.inl c)))
      · exact Or.inr (Or.inl (readProduct_eq_none (Or.inr (Or.inl c))))
      · exact Or.inr (Or.inl (readProduct_eq_none (Or.inr (Or.inr (Or.inl c)))))
    · exact Or.inr (Or.inl (readProduct_eq_none (Or.inr (Or.inr (Or.inr (Bool.eq_false_iff.2 ranges))))))

/-- Settles O38: the reset goes by the header's pump state, and a stopped pump's pass gives HOLD. -/
theorem pumpResetStops : Obligations.PumpResetStops := by
  refine ⟨fun tag n s ready h => ?_, fun tag h s ready => ⟨fun up => ?_, fun failed => ?_⟩⟩
  · refine event_request_exact ready _ _ _ _ ready.1 ?_
    unfold pumpReset
    rw [sixNumber_eq_none h]
    rfl
  · refine event_request_exact ready _ _ _ _ ready.1 ?_
    unfold pumpReset
    rw [sixNumber_val]
    exact if_neg up
  · refine event_request_exact ready _ _ _ _ ready.1 ?_
    unfold pumpReset
    rw [sixNumber_val]
    dsimp only
    rw [if_pos failed, State.setPump_of_still _ _ _ _ _ (by simp)]
    rfl

end Sys2Proof
end

section
/-! PROOFS. The pumps' own events: proof, its loss, and the expiries of their timers and of the stagger (O39). -/
namespace Sys2Proof.Machine
set_option Elab.async false

/-! ## Failure (03 R67) -/

/-- Entry to FAILED: the header, the endings and HOLD on its lanes, and the notice. -/
theorem State.failPump_eq (h : Fin 6) (reason : PumpReason) (s : State) :
    s.failPump h reason =
      { s with
        headers := s.headers.set h ((s.header h).inState .failed none none)
        lanes := Vector.ofFn fun i =>
          if (s.lane i).record.product = some h then
            { s.lane i with arbiterGrant := .hold
                            pumpEnding := (s.lane i).pumpEnding || (s.lane i).state.demands }
          else s.lane i
        link := s.linkRaising [.pumpFail h reason] } := by
  unfold State.failPump
  generalize hf : (s.modHeader h fun k => { k with pump := .failed, proving := none, runOn := none }) = a
  have failed : (a.header h).pump ≠ .running := by rw [← hf, State.header_modHeader_same]; simp
  have lane : ∀ i, a.lane i = s.lane i := fun i => by rw [← hf]; rfl
  have sent := State.sendEnding_lane h (fun l => { l with pumpEnding := true }) a
  have headers : ((a.sendEnding h fun l => { l with pumpEnding := true }).grantPass h).headers = a.headers := by simp
  have rest : (a.sendEnding h fun l => { l with pumpEnding := true }).grantPass h =
      { a with lanes := ((a.sendEnding h fun l => { l with pumpEnding := true }).grantPass h).lanes } := by
    apply State.ext_fields <;> simp
  have pass := State.grantPass_passOf h (a.sendEnding h fun l => { l with pumpEnding := true })
  generalize a.sendEnding h (fun l => { l with pumpEnding := true }) = b at sent headers rest pass ⊢
  have held := pass.lane_of_still (by rw [State.header_congr h a _ headers]; exact failed)
  have lanes : (b.grantPass h).lanes = Vector.ofFn fun i =>
      if (s.lane i).record.product = some h then
        { s.lane i with arbiterGrant := .hold, pumpEnding := (s.lane i).pumpEnding || (s.lane i).state.demands }
      else s.lane i := by
    refine State.lanes_eq_of_lane fun i => ?_
    rw [Fin.getElem_fin, Vector.getElem_ofFn, held, sent, lane]
    by_cases on : (s.lane i).record.product = some h
    · by_cases demands : (s.lane i).state.demands = true
      · simp [on, demands, Lane.held]
      · simp [on, demands, Lane.held]
    · simp [on]
  rw [State.notify_linkRaising, rest, lanes, ← hf]
  rfl

/-! ## What each event does in its state -/

theorem State.eq_of_headers {s t : State} (rest : t = { s with headers := t.headers }) (headers : t.headers = s.headers) :
    t = s := rest.trans (by rw [headers])

theorem event_eq_settled {s u : State} (running : s.power = .running) {f : State → State} (becomes : f s = u) :
    event f s = u.settled := by rw [← becomes]; exact event_of_running running f

theorem proveChange_same {h : Fin 6} {active : Bool} {s : State} (level : (s.header h).prove = active) :
    proveChange h active s = s := if_pos level

/-- A PROVE change that fails and proves nothing only takes the level (03 R61). -/
theorem proveChange_level {h : Fin 6} {active : Bool} {s : State} (level : (s.header h).prove ≠ active)
    (still : (s.header h).pump = .stopped ∨ (s.header h).pump = .queued ∨ (s.header h).pump = .failed
      ∨ ((s.header h).pump = .starting ∧ active = false)
      ∨ (((s.header h).pump = .running ∨ (s.header h).pump = .runon) ∧ active = true)) :
    proveChange h active s = s.modHeader h fun k => { k with prove := active } := by
  unfold proveChange
  rw [if_neg level]
  rcases still with pump | pump | pump | ⟨pump, inactive⟩ | ⟨pump | pump, active⟩
  · simp only [pump]
  · simp only [pump]
  · simp only [pump]
  · simp only [pump]
    exact if_neg (by rw [inactive]; simp)
  · simp only [pump]
    exact if_pos active
  · simp only [pump]
    exact if_pos active

theorem proveChange_lost {h : Fin 6} {s : State} (level : (s.header h).prove = true)
    (up : (s.header h).pump = .running ∨ (s.header h).pump = .runon) :
    proveChange h false s = (s.modHeader h fun k => { k with prove := false }).failPump h .proveLost := by
  unfold proveChange
  rw [if_neg (by rw [level]; simp)]
  rcases up with pump | pump
  · simp only [pump]
    exact if_neg (by simp)
  · simp only [pump]
    exact if_neg (by simp)

theorem proveChange_proved {h : Fin 6} {s : State} (level : (s.header h).prove = false)
    (starting : (s.header h).pump = .starting) :
    proveChange h true s = (s.modHeader h fun k => { k with prove := true }).proved h := by
  unfold proveChange
  rw [if_neg (by rw [level]; simp)]
  dsimp only
  rw [starting]
  rfl

/-- What proof makes of a header (03 R65, R66). -/
theorem State.header_proved (h : Fin 6) (s : State) :
    (s.proved h).header h =
      if s.headerDemand h then (s.header h).inState .running none none
      else if (s.product h).runOn = 0 then (s.header h).inState .stopped none none
      else (s.header h).inState .runon none (some ⟨s.elapsed, (s.product h).runOn⟩) := by
  unfold State.proved State.enterRunOn
  split
  · exact State.header_setPump_same ..
  · split
    · exact State.header_setPump_same ..
    · exact State.header_setPump_same ..

theorem State.slot_proved (h : Fin 6) (s : State) : (s.proved h).slot = s.slot := by
  unfold State.proved State.enterRunOn
  split
  · exact State.slot_setPump ..
  · split <;> exact State.slot_setPump ..

/-! ## The slot (03 R64) -/

/-- An occupied slot starts nothing. -/
theorem serveHeads_of_occupied (l : List (Fin 6)) {s : State} (occupied : s.slot.free = false) : serveHeads l s = s := by
  cases l with
  | nil => rfl
  | cons h rest =>
    unfold serveHeads
    rw [if_neg (by rw [occupied]; simp)]

/-- Under a stagger the elapsed interval starts the header at the head of the queue alone. -/
theorem staggerElapsed_starts {h : Fin 6} {rest : List (Fin 6)} {s : State} (queue : s.slot.queue = h :: rest)
    (stagger : s.settings.stagger ≠ 0) :
    staggerElapsed s = (s.modSlot fun k => { k with free := true }).startPump h := by
  have slot := ((s.modSlot fun k => { k with free := true }).startPump_started h).2.1
  unfold staggerElapsed State.testSlot
  rw [show (s.modSlot fun k => { k with free := true }).slot.queue = h :: rest from queue]
  unfold serveHeads
  rw [if_pos (show (s.modSlot fun k => { k with free := true }).slot.free = true from rfl)]
  exact serveHeads_of_occupied rest (by rw [slot]; simpa using stagger)

end Sys2Proof.Machine

namespace Sys2Proof
open Sys2Proof.Machine
set_option Elab.async false

/-- Settles O39: each event by the header's pump state, and the start slot by what stands in its queue. -/
theorem pumpsProveAndFail : Obligations.PumpsProveAndFail := by
  refine ⟨fun h reason s running => ?_, fun h s running => ⟨fun off => ?_, fun off => ?_⟩,
    fun h active s running => ⟨fun level => ?_, fun level still => ?_⟩, fun h s running starting level => ?_,
    fun h s running runon timer => ?_, fun h rest s running queue once stagger level => ?_,
    fun s running queue => ?_, fun s running nodup => ?_⟩
  · intro row timeout lost
    cases reason with
    | proveTimeout =>
      exact event_eq_settled running ((if_pos (timeout rfl)).trans (State.failPump_eq h .proveTimeout s))
    | proveLost =>
      obtain ⟨up, level⟩ := lost rfl
      refine event_eq_settled running ((proveChange_lost level up).trans ((State.failPump_eq h .proveLost _).trans ?_))
      rw [State.header_modHeader_same]
      exact State.eq_of_headers rfl (Vector.set_set (hi := h.isLt) ..)
  · exact event_eq_settled running (if_neg fun now => off.elim (· now.1) now.2)
  · exact event_eq_settled running (if_neg fun now => off.elim (· now.1) now.2)
  · exact event_eq_settled running (proveChange_same level)
  · exact event_eq_settled running (proveChange_level level still)
  · intro p proved
    refine ⟨_, event_eq_settled running rfl, ?_, ?_⟩
    · rw [proveChange_proved level starting]
      exact State.passOf_of_lanes (t := s.modHeader h _) rfl (State.proved_passOf h _)
    · rw [proveChange_proved level starting]
      have moved := (State.proved_headerMoved h (s.modHeader h fun k => { k with prove := true })).eq_set
      rw [State.header_proved, State.slot_proved, State.header_modHeader_same] at moved
      exact moved.trans <| State.eq_of_headers rfl (Vector.set_set (hi := h.isLt) ..)
  · exact ⟨_, event_eq_settled running (if_pos ⟨runon, timer⟩), State.setPump_passOf h _ _ _ s,
      State.setPump_eq h _ _ _ s⟩
  · obtain ⟨header, slot, pass⟩ := (s.modSlot fun k => { k with free := true }).startPump_started h
    have moved := ((s.modSlot fun k => { k with free := true }).startPump_headerMoved h).eq_set
    refine ⟨_, event_eq_settled running (staggerElapsed_starts queue stagger), State.passOf_of_lanes rfl pass, ?_⟩
    rw [header, slot] at moved
    refine moved.trans ?_
    apply State.ext_fields
    case h8 => exact congrArg (s.headers.set h) (if_pos level)
    case h9 => simp [queue, stagger]
    all_goals rfl
  · refine event_eq_settled running ?_
    unfold staggerElapsed State.testSlot
    rw [show (s.modSlot fun k => { k with free := true }).slot.queue = [] from queue]
    rfl
  · exact ⟨_, event_eq_settled running rfl, (s.modSlot fun k => { k with free := true }).testSlot_headsStarted nodup⟩

end Sys2Proof
end

section
/-! PROOFS. Polls asked for, and the requests for polls, the book and receipts (O21, O22, O23, O24). -/
namespace Sys2Proof.Machine
-- One proof at a time, as the whole text is one module.
set_option Elab.async false

/-! ## A poll is asked for (04 R84) -/

/-- With a poll outstanding, a tank asked for joins the out-of-round queue once. -/
theorem State.askPoll_of_poll {s : State} {q : Poll} (t : Fin 8) (poll : s.bus.poll = some q) :
    s.askPoll t = { s with bus := { s.bus with queue := queueing s.bus.queue t } } := by
  unfold State.askPoll
  rw [State.serveBus_eq, if_neg]
  · exact congrArg (fun b => ({ s with bus := b } : State)) (GaugeBus.add_eq t s.bus)
  · show (s.bus.add t).poll ≠ none
    rw [GaugeBus.add_eq, poll]
    simp

/-- A bus served with a configured tank waiting polls the first of them. -/
theorem State.served_waiting {s : State} {queue rest : List (Fin 8)} {t : Fin 8}
    (first : queue.dropWhile (fun k => !(s.tank k).configured) = t :: rest) :
    s.served queue = { s with bus := { s.bus with poll := some (s.polling t), queue := rest } } := by
  unfold State.served
  rw [first]

/-- On an idle bus with an empty queue, the poll of a configured tank begins at once. -/
theorem State.askPoll_of_idle {s : State} {t : Fin 8} (poll : s.bus.poll = none) (queue : s.bus.queue = [])
    (configured : (s.tank t).configured = true) :
    s.askPoll t = { s with bus := { s.bus with poll := some (s.polling t) } } := by
  have asked : s.modBus (GaugeBus.add t) = { s with bus := { s.bus with queue := [t] } } := by
    refine congrArg (fun b => ({ s with bus := b } : State)) ((GaugeBus.add_eq t s.bus).trans ?_)
    rw [queue]
    rfl
  have first : [t].dropWhile (fun k => !(s.tank k).configured) = [t] := by
    rw [List.dropWhile_cons, configured]
    rfl
  unfold State.askPoll
  rw [asked, State.serveBus_eq]
  refine (if_pos poll).trans ((State.served_waiting first).trans ?_)
  rw [← queue]

/-! ## A receipt is closed (04 R96, R97) -/

/-- An OPEN receipt once its inlet is closed for a cause. -/
def Receipt.settlingFrom (now : Nat) (cause : SettleCause) (roundRuns : Bool) (r : Receipt) : Receipt :=
  { r with state := .settling, closeTime := some now, cause := some cause, rounds := 0, midRound := roundRuns }

theorem Tank.inlet_eq_true_iff (k : Tank) : k.inlet = true ↔ ∃ r, k.receipt = some r ∧ r.state = .opened := by
  unfold Tank.inlet
  cases k.receipt <;> simp

/-- An OPEN receipt is closed: it settles, a poll of its tank is one from before, and a poll is asked for. -/
theorem State.closeReceipt_opened {s : State} {t : Fin 8} {r : Receipt} (cause : SettleCause)
    (receipt : (s.tank t).receipt = some r) (opened : r.state = .opened) :
    s.closeReceipt t cause =
      ((s.modTank t fun k =>
        { k with receipt := some (r.settlingFrom s.period.clock cause s.bus.round.isSome) }).modBus
        (GaugeBus.markPoll t fun p => { p with beforeClose := true })).askPoll t := by
  unfold State.closeReceipt
  rw [receipt]
  dsimp only
  rw [opened]
  rfl

/-- With a poll outstanding, a closed receipt settles, its tank joins the queue, and a poll of it is one from before. -/
theorem State.closeReceipt_of_poll {s : State} {t : Fin 8} {r : Receipt} {q : Poll} (cause : SettleCause)
    (receipt : (s.tank t).receipt = some r) (opened : r.state = .opened) (poll : s.bus.poll = some q) :
    s.closeReceipt t cause =
      { s with
        tanks := s.tanks.set t
          { s.tank t with receipt := some (r.settlingFrom s.period.clock cause s.bus.round.isSome) }
        bus := { s.bus with
          queue := queueing s.bus.queue t
          poll := some (if q.tank = t then { q with beforeClose := true } else q) } } := by
  rw [State.closeReceipt_opened cause receipt opened,
    State.askPoll_of_poll (q := if q.tank = t then { q with beforeClose := true } else q) t]
  · show ({ s with tanks := _, bus := { s.bus with queue := _, poll := s.bus.poll.map _ } } : State) = _
    rw [poll]
    rfl
  · show s.bus.poll.map _ = _
    rw [poll]
    rfl

/-- On an idle bus with an empty queue, a closed receipt settles and its tank is polled at once. -/
theorem State.closeReceipt_of_idle {s : State} {t : Fin 8} {r : Receipt} (cause : SettleCause)
    (receipt : (s.tank t).receipt = some r) (opened : r.state = .opened) (poll : s.bus.poll = none)
    (queue : s.bus.queue = []) (configured : (s.tank t).configured = true) :
    s.closeReceipt t cause =
      { s with
        tanks := s.tanks.set t
          { s.tank t with receipt := some (r.settlingFrom s.period.clock cause s.bus.round.isSome) }
        bus := { s.bus with poll := some (s.polling t) } } := by
  let closed := s.modTank t fun k =>
    { k with receipt := some (r.settlingFrom s.period.clock cause s.bus.round.isSome) }
  have here : closed.tank t =
      { s.tank t with receipt := some (r.settlingFrom s.period.clock cause s.bus.round.isSome) } :=
    State.tank_modTank_same ..
  have unmarked : closed.modBus (GaugeBus.markPoll t fun p => { p with beforeClose := true }) = closed := by
    show ({ closed with bus := { s.bus with poll := s.bus.poll.map _ } } : State) = closed
    rw [poll, Option.map_none, ← poll]
    rfl
  have polling : closed.polling t = s.polling t := by
    unfold State.polling
    rw [here]
  refine (State.closeReceipt_opened cause receipt opened).trans ?_
  show (closed.modBus (GaugeBus.markPoll t fun p => { p with beforeClose := true })).askPoll t = _
  rw [unmarked, State.askPoll_of_idle (s := closed) poll queue (by rw [here]; exact configured), polling]
  rfl

/-! ## RECEIPT-OPEN (04 R95) -/

/-- RECEIPT-OPEN with its number and docket in range. -/
theorem receiptOpen_inRange {f : ReceiptOpenFields} {t : Fin 8} (tank : f.tank = t.val)
    (docket : ∀ v, f.docket = some v → v ≤ 1000000000) (s : State) :
    receiptOpen f s = openReceipt t f.docket s := by
  have inRange : f.docket.all (· ≤ 1000000000) = true := by
    cases d : f.docket with
    | none => rfl
    | some v => exact decide_eq_true (docket v d)
  unfold receiptOpen
  rw [tank, eightNumber_val]
  exact if_pos inRange

/-- RECEIPT-OPEN with a number or a docket out of range. -/
theorem receiptOpen_outOfRange {f : ReceiptOpenFields} (s : State)
    (out : 7 < f.tank ∨ ∃ v, f.docket = some v ∧ 1000000000 < v) : receiptOpen f s = (refuse .range, s) := by
  unfold receiptOpen
  rcases out with tank | ⟨v, docket, big⟩
  · rw [eightNumber_eq_none tank]
  · split
    · rfl
    · rw [docket]
      exact if_neg (by simpa using big)

/-- RECEIPT-OPEN passes the bay, the tank's configuration and its slot (04 R95 orders 2 to 4). -/
def State.receiptMayOpen (s : State) (t : Fin 8) : Prop :=
  s.shutdown.bay = .armed ∧ (s.tank t).configured = true ∧ (s.tank t).receipt = none

/-- Past them an UNPOLLED tank is refused, a LOST one is refused with a use of its reading, and a GOOD or STALE one
takes a receipt on its held reading. -/
theorem openReceipt_passed {s : State} {t : Fin 8} (docket : Option Nat) (passes : s.receiptMayOpen t) :
    ((s.tank t).status = .unpolled → openReceipt t docket s = (refuse .gaugeUnpolled, s))
      ∧ ((s.tank t).status = .lost → openReceipt t docket s = (refuse .gaugeLost, s.useReading t))
      ∧ ∀ h, (s.tank t).status = .good ∨ (s.tank t).status = .stale → (s.tank t).held = some h →
          openReceipt t docket s =
            (accept (.receiptOpened h.net h.time), s.modTank t fun k =>
              { k with receipt := some (Receipt.mk .opened docket h.net h.counter s.now none none 0 false) }) := by
  obtain ⟨armed, configured, empty⟩ := passes
  unfold openReceipt
  dsimp only
  rw [if_neg (not_not.2 armed), configured, empty]
  refine ⟨fun unpolled => ?_, fun lost => ?_, fun h status held => ?_⟩
  · rw [unpolled]
    rfl
  · rw [lost]
    rfl
  · rw [held]
    rcases status with good | stale
    · rw [good]
      rfl
    · rw [stale]
      rfl

end Sys2Proof.Machine

namespace Sys2Proof
open Sys2Proof.Machine
set_option Elab.async false

/-- Settles O24: the number and the book within their limits name the tank whose book is replaced. -/
theorem bookSetReplacesBook : Obligations.BookSetReplacesBook := by
  refine fun tag f s ready => ⟨fun out => ?_, fun t tank low high => ?_⟩
  · refine event_request_exact ready _ _ _ _ ready.1 ?_
    unfold bookSet
    rcases out with tank | book
    · rw [eightNumber_eq_none tank]
      rfl
    · split
      · rfl
      · exact if_pos book
  · refine event_request_exact ready _ _ _ _ ready.1 ?_
    unfold bookSet
    rw [tank, eightNumber_val]
    exact if_neg (not_or.2 ⟨Int.not_lt.2 low, Int.not_lt.2 high⟩)

/-- Settles O21: a poll is asked for, which on an idle bus begins at once. -/
theorem gaugeNowAsksPoll : Obligations.GaugeNowAsksPoll := by
  refine ⟨fun tag n s ready out => ?_, fun tag t s ready => ⟨fun unconfigured => ?_, fun configured outstanding => ?_,
    fun configured idle queue => ?_⟩⟩
  · refine event_request_exact ready _ _ _ _ ready.1 ?_
    unfold gaugeNow
    rw [eightNumber_eq_none out]
    rfl
  · refine event_request_exact ready _ _ _ _ ready.1 ?_
    unfold gaugeNow
    rw [eightNumber_val]
    exact if_neg (Bool.eq_false_iff.1 unconfigured)
  · obtain ⟨q, poll⟩ := Option.ne_none_iff_exists'.1 outstanding
    refine event_request_exact ready _ _ _ _ ready.1 ?_
    unfold gaugeNow
    rw [eightNumber_val]
    refine (if_pos configured).trans ?_
    rw [State.askPoll_of_poll t poll]
    simp only [List.contains_eq_mem, decide_not]
    rfl
  · refine event_request_exact ready _ _ _ _ ready.1 ?_
    unfold gaugeNow
    rw [eightNumber_val]
    refine (if_pos configured).trans ?_
    rw [State.askPoll_of_idle idle queue configured, queue]
    rfl

/-- Settles O22: the checks are made in order, and the first that fails is the answer. -/
theorem receiptOpenChecksInOrder : Obligations.ReceiptOpenChecksInOrder := by
  refine ⟨fun tag f s ready out => event_request_exact ready _ _ _ _ ready.1 (receiptOpen_outOfRange s out),
    fun tag f s t ready tank docket => ?_⟩
  have owner := receiptOpen_inRange tank docket s
  refine ⟨fun notArmed => ?_,
    fun armed => ⟨fun unconfigured => ?_, fun configured => ⟨fun taken => ?_, fun empty => ?_⟩⟩⟩
  · refine event_request_exact ready _ _ _ _ ready.1 (owner.trans ?_)
    exact if_pos notArmed
  · refine event_request_exact ready _ _ _ _ ready.1 (owner.trans ?_)
    refine (if_neg (not_not.2 armed)).trans ?_
    rw [unconfigured]
    rfl
  · refine event_request_exact ready _ _ _ _ ready.1 (owner.trans ?_)
    refine (if_neg (not_not.2 armed)).trans ?_
    rw [configured]
    exact if_pos (Option.isSome_iff_ne_none.2 taken)
  · obtain ⟨whenUnpolled, whenLost, whenRead⟩ := openReceipt_passed f.docket ⟨armed, configured, empty⟩
    refine ⟨fun unpolled => ?_, fun lost noticed => ?_, fun lost unnoticed => ?_, fun held status reading => ?_⟩
    · exact event_request_exact ready _ _ _ _ ready.1 (owner.trans (whenUnpolled unpolled))
    · have known : s.useReading t = s := if_neg fun first => by rw [noticed] at first; cases first.2
      refine event_request_exact ready _ _ _ _ ready.1 (owner.trans ?_)
      rw [whenLost lost, known]
      rfl
    · have first : ((s.tank t).noticed || (s.tank t).status == .lost) = true := by rw [lost]; exact Bool.or_true _
      have marked : (s.tank t).used = { s.tank t with noticed := true } := by
        unfold Tank.used
        rw [first]
      refine event_request_exact ready _ _ _ _ (by exact ready.1) (owner.trans ?_)
      rw [whenLost lost, State.useReading_used, marked]
      rfl
    · exact event_request_exact ready _ _ _ _ (by exact ready.1) (owner.trans (whenRead held status reading))

/-- Settles O23: the inlet closes and a poll is asked for, which on an idle bus begins at once. -/
theorem receiptCloseSettles : Obligations.ReceiptCloseSettles := by
  refine ⟨fun tag n s ready out => ?_, fun tag t s ready => ⟨fun closed => ?_, fun r receipt opened configured =>
    ⟨fun q poll => ?_, fun idle queue => ?_⟩⟩⟩
  · refine event_request_exact ready _ _ _ _ ready.1 ?_
    unfold receiptClose
    rw [eightNumber_eq_none out]
    rfl
  · refine event_request_exact ready _ _ _ _ ready.1 ?_
    have shut : ¬ (s.tank t).inlet = true := fun inlet => by
      obtain ⟨r, receipt, opened⟩ := (Tank.inlet_eq_true_iff _).1 inlet
      rw [closed r receipt] at opened
      cases opened
    unfold receiptClose
    rw [eightNumber_val]
    exact if_neg shut
  · have inlet := (Tank.inlet_eq_true_iff _).2 ⟨r, receipt, opened⟩
    refine event_request_exact ready _ _ _ _ (by exact ready.1) ?_
    unfold receiptClose
    rw [eightNumber_val]
    refine (if_pos inlet).trans ?_
    rw [State.closeReceipt_of_poll .close receipt opened poll]
    rfl
  · have inlet := (Tank.inlet_eq_true_iff _).2 ⟨r, receipt, opened⟩
    refine event_request_exact ready _ _ _ _ (by exact ready.1) ?_
    unfold receiptClose
    rw [eightNumber_val]
    refine (if_pos inlet).trans ?_
    rw [State.closeReceipt_of_idle .close receipt opened idle queue configured]
    rfl

end Sys2Proof
end

section
/-! PROOFS. The commit of a strapping table (O12). -/
namespace Sys2Proof.Machine
-- One proof at a time, as the whole text is one module.
set_option Elab.async false

/-! ## Which points a commit reads (04 R80) -/

/-- A level and a volume within their ranges (04 R80 check 3). -/
def TablePoint.inRange (p : TablePoint) : Prop := p.level ≤ 40000 ∧ p.volume ≤ 1000000000

/-- The level rises and the volume does not fall from one point to the next (04 R80 check 3). -/
def TablePoint.rises (a b : TablePoint) : Prop := a.level < b.level ∧ a.volume ≤ b.volume

/-- A point is accepted when it is within its ranges and rises from the point before it. -/
theorem tablePointOk_iff (before : List TablePoint) (p : TablePoint) :
    tablePointOk before p = true ↔ p.inRange ∧ ∀ q, before.getLast? = some q → q.rises p := by
  unfold tablePointOk TablePoint.inRange TablePoint.rises
  cases before.getLast? <;> simp

/-- The first point of the rest of a rising list rises from the last point before it. -/
theorem rises_of_getLast? {before rest : List TablePoint} {p q : TablePoint}
    (rising : (before ++ p :: rest).Pairwise TablePoint.rises) (last : before.getLast? = some q) : q.rises p :=
  (List.pairwise_append.1 rising).2.2 q (List.mem_of_getLast? last) p List.mem_cons_self

/-- Good slots are read one after another, and the reading goes on behind them. -/
theorem readTable_good (points before : List TablePoint) (rest : List (Option TablePoint))
    (good : ∀ p ∈ points, p.inRange) (rising : (before ++ points).Pairwise TablePoint.rises) :
    readTable (points.map some ++ rest) before = readTable rest (before ++ points) := by
  induction points generalizing before with
  | nil => simp
  | cons p points ih =>
    obtain ⟨here, later⟩ := List.forall_mem_cons.1 good
    have ok : tablePointOk before p = true :=
      (tablePointOk_iff before p).2 ⟨here, fun q last => rises_of_getLast? rising last⟩
    have next := ih (before ++ [p]) later (by simpa using rising)
    rw [List.append_cons, ← next]
    exact if_pos ok

/-- A slot at fault ends the reading with its index. -/
theorem readTable_bad {before : List TablePoint} {bad : Option TablePoint} (rest : List (Option TablePoint))
    (fault : ∀ b, bad = some b → ¬ tablePointOk before b = true) :
    readTable (bad :: rest) before = .inr before.length := by
  cases bad with
  | none => rfl
  | some b => exact if_neg (fault b rfl)

/-! ## What TABLE-COMMIT answers (04 R80) -/

theorem State.tankBusy_of_not_free {s : State} {t : Fin 8} (busy : ¬ s.tankFree t) : s.tankBusy t = true :=
  Bool.eq_true_of_not_eq_false fun free => busy ((s.tankFree_iff t).2 free)

theorem State.not_tankBusy_of_free {s : State} {t : Fin 8} (free : s.tankFree t) : ¬ s.tankBusy t = true :=
  Bool.eq_false_iff.1 ((s.tankFree_iff t).1 free)

/-- TABLE-COMMIT with its owner and count in range, on a busy tank. -/
theorem tableCommit_busy {f : CommitFields} {s : State} {t : Fin 8} (owner : f.owner = t.val) (low : 2 ≤ f.count)
    (high : f.count ≤ 32) (busy : ¬ s.tankFree t) : tableCommit f s = (refuse .tankBusy, s) := by
  unfold tableCommit
  rw [owner, eightNumber_val]
  exact (if_neg (by omega)).trans (if_pos (State.tankBusy_of_not_free busy))

/-- On a free tank the points its slots read as become its table and it is reconfigured; a slot at fault is the
answer. -/
theorem tableCommit_free {f : CommitFields} {s : State} {t : Fin 8} (owner : f.owner = t.val) (low : 2 ≤ f.count)
    (high : f.count ≤ 32) (free : s.tankFree t) :
    (∀ points, readTable ((s.tank t).staging.toList.take f.count) [] = .inl points →
      tableCommit f s =
        (accept, (s.modTank t fun k =>
          { k with table := some points, staging := Vector.replicate 32 none }).reconfigure t))
      ∧ ∀ slot, readTable ((s.tank t).staging.toList.take f.count) [] = .inr slot →
        tableCommit f s = (⟨.tableInvalid, .slot slot⟩, s) := by
  unfold tableCommit
  rw [owner, eightNumber_val]
  dsimp only
  rw [if_neg (by omega), if_neg (State.not_tankBusy_of_free free)]
  exact ⟨fun points read => by rw [read], fun slot read => by rw [read]⟩

/-- A tank changed and then reconfigured is put back once, and a poll of it is void (04 R78). -/
theorem State.reconfigure_modTank (t : Fin 8) (g : Tank → Tank) (s : State) :
    (s.modTank t g).reconfigure t =
      { s with
        tanks := s.tanks.set t (g (s.tank t)).reconfigured
        bus := { s.bus with poll := s.bus.poll.map fun p => if p.tank = t then { p with void := true } else p } } := by
  have here : (s.modTank t g).tank t = g (s.tank t) := State.tank_modTank_same ..
  have once : (s.modTank t g).tanks.set t ((s.modTank t g).tank t).reconfigured
      = s.tanks.set t (g (s.tank t)).reconfigured := by
    rw [here]
    exact Vector.set_set ..
  unfold State.reconfigure
  exact congrArg (fun tanks => ({ s with
    tanks := tanks
    bus := { s.bus with poll := s.bus.poll.map fun p => if p.tank = t then { p with void := true } else p } }
      : State)) once

end Sys2Proof.Machine

namespace Sys2Proof
open Sys2Proof.Machine
set_option Elab.async false

/-- Settles O12: the good slots are read in turn, and the first slot at fault ends the reading. -/
theorem tableCommitTakesPoints : Obligations.TableCommitTakesPoints := by
  refine ⟨fun tag f s t ready owner low high => ⟨fun busy => ?_, fun points free staged good rising => ?_,
    fun points rest bad free staged good rising fault => ?_⟩, fun tag f s ready out => ?_⟩
  · exact event_request_exact ready _ _ _ _ ready.1 (tableCommit_busy owner low high busy)
  · have read : readTable ((s.tank t).staging.toList.take f.count) [] = .inl points := by
      rw [staged, ← List.append_nil (points.map some)]
      exact readTable_good points [] [] good rising
    refine event_request_exact ready _ _ _ _ (by exact ready.1) ?_
    rw [(tableCommit_free owner low high free).1 points read, State.reconfigure_modTank]
    rfl
  · have refused : ∀ b, bad = some b → ¬ tablePointOk points b = true := by
      intro b filled ok
      obtain ⟨⟨level, volume⟩, after⟩ := (tablePointOk_iff points b).1 ok
      rcases fault b filled with out | out | ⟨q, last, out⟩
      · omega
      · omega
      · obtain ⟨above, notBelow⟩ := after q last
        omega
    have read : readTable ((s.tank t).staging.toList.take f.count) [] = .inr points.length := by
      rw [staged]
      exact (readTable_good points [] _ good rising).trans (readTable_bad rest refused)
    exact event_request_exact ready _ _ _ _ ready.1 ((tableCommit_free owner low high free).2 _ read)
  · refine event_request_exact ready _ _ _ _ ready.1 ?_
    unfold tableCommit
    rcases out with owner | count
    · rw [eightNumber_eq_none owner]
      rfl
    · split
      · rfl
      · exact if_pos count

end Sys2Proof
end

section
/-! PROOFS. Rounds fall due, polls are sent, and polls fail (O25). -/
namespace Sys2Proof.Machine
-- One proof at a time, as the whole text is one module.
set_option Elab.async false

/-! ## A round falls due (04 R83) -/

theorem State.with_round_none {s : State} (round : s.bus.round = none) (due : Nat) :
    ({ s with bus := { s.bus with lastDue := due, round := none } } : State) =
      { s with bus := { s.bus with lastDue := due } } := by
  rw [← round]

/-- A round falls due while one runs: it waits. -/
theorem State.roundMadeDue_waits {s : State} (round : s.bus.round ≠ none) :
    s.roundMadeDue =
      if s.bus.poll = none then
        ({ s with bus := { s.bus with lastDue := s.elapsed, roundPending := true } } : State).served s.bus.queue
      else { s with bus := { s.bus with lastDue := s.elapsed, roundPending := true } } := by
  unfold State.roundMadeDue
  rw [if_pos round]

/-- A round falls due with none running and a tank to poll: it begins. -/
theorem State.roundMadeDue_begins {s : State} (round : s.bus.round = none) (found : ∃ t, (s.tank t).configured = true) :
    s.roundMadeDue =
      if s.bus.poll = none then
        ({ s with bus := { s.bus with lastDue := s.elapsed, round := some 0 } } : State).served s.bus.queue
      else { s with bus := { s.bus with lastDue := s.elapsed, round := some 0 } } := by
  unfold State.roundMadeDue
  rw [if_neg (not_not.2 round), if_pos found]

/-- A round falls due with none running and no tank to poll: it ends at its start. -/
theorem State.roundMadeDue_ends {s : State} (round : s.bus.round = none) (bare : ∀ t, (s.tank t).configured = false) :
    s.roundMadeDue =
      if s.bus.poll = none then
        ({ s with bus := { s.bus with lastDue := s.elapsed } } : State).roundOver.served s.bus.queue
      else ({ s with bus := { s.bus with lastDue := s.elapsed } } : State).roundOver := by
  have unconfigured : ¬ ∃ t, (s.tank t).configured = true := fun ⟨t, here⟩ => by rw [bare t] at here; cases here
  unfold State.roundMadeDue
  rw [if_neg (not_not.2 round), if_neg unconfigured, State.with_round_none round]

/-- ROUND_DUE on a running part. -/
theorem exec_roundDue {s : State} (running : s.power = .running) : exec .roundDue s = s.roundMadeDue.settled :=
  event_eq_settled running s.roundFallsDue_roundMadeDue

/-- The lowest of the eight that satisfies p. -/
theorem find?_eightNumbers {p : Fin 8 → Bool} {t : Fin 8} (here : p t = true) (before : ∀ k, k < t → p k = false) :
    eightNumbers.find? p = some t := by
  have parts : ∀ t : Fin 8, eightNumbers =
      (eightNumbers.filter fun k => k < t) ++ t :: eightNumbers.filter fun k => t < k := by decide
  rw [parts t, List.find?_append, List.find?_eq_none.2 fun k mem => ?_]
  · rw [Option.none_or, List.find?_cons_of_pos here]
  · rw [before k (by simpa using (List.mem_filter.1 mem).2)]
    simp

/-- A round that has just begun on an idle bus polls the first configured tank. -/
theorem State.served_firstOfRound {s : State} {t : Fin 8} (round : s.bus.round = some 0)
    (configured : (s.tank t).configured = true) (first : ∀ k, k < t → (s.tank k).configured = false) :
    s.served [] =
      { s with bus := { s.bus with poll := some (s.polling t), queue := [], round := some (t.val + 1) } } := by
  have found : eightNumbers.find? (fun k => decide (0 ≤ k.val) && (s.tank k).configured) = some t :=
    find?_eightNumbers (by simpa using configured) fun k before => by simpa using first k before
  unfold State.served
  rw [round]
  dsimp only [List.dropWhile_nil]
  rw [found]

/-! ## A poll fails (04 R82, R86) -/

/-- The tank of a poll that has failed; a void poll counts for nothing (04 R78). -/
theorem State.failPoll_served (p : Poll) (s : State) :
    s.failPoll p =
      ({ s with tanks := s.tanks.set p.tank (if p.void then s.tank p.tank else (s.tank p.tank).pollFailed) }
        : State).served s.bus.queue := by
  unfold State.failPoll
  rw [State.endPoll_served]
  cases p.void
  · rfl
  · have kept : ({ s with tanks := s.tanks.set p.tank (s.tank p.tank) } : State) = s := by rw [State.tanks_set_self]
    exact congrArg (State.served s.bus.queue) kept.symm

/-- The reply timer expires on a sent poll. -/
theorem replyTimerExpiry_sent {s : State} {p : Poll} (poll : s.bus.poll = some p) (sent : p.sent = true) :
    replyTimerExpiry s = s.failPoll p := by
  unfold replyTimerExpiry
  rw [poll]
  exact if_pos sent

theorem replyTimerExpiry_unsent {s : State} (unsent : ∀ p, s.bus.poll = some p → p.sent = false) :
    replyTimerExpiry s = s := by
  unfold replyTimerExpiry
  cases poll : s.bus.poll with
  | none => rfl
  | some p => exact if_neg (Bool.eq_false_iff.1 (unsent p poll))

/-! ## The bytes of a poll (04 R81) -/

theorem pollFrame_eq (address : Nat) :
    pollFrame address =
      [0x5A, BitVec.ofNat 8 address, 0x01, BitVec.ofNat 8 (0x5A + address + 0x01)] := by
  have check : checkByte [0x5A, BitVec.ofNat 8 address, 0x01] = BitVec.ofNat 8 (0x5A + address + 0x01) := by
    unfold checkByte
    rw [BitVec.ofNat_add, BitVec.ofNat_add]
    simp
  unfold pollFrame
  rw [check]

end Sys2Proof.Machine

namespace Sys2Proof
open Sys2Proof.Machine
set_option Elab.async false

/-- Settles O25: a round that falls due begins, waits or ends at once; a failed poll moves the gauge status, and the
bus is served. -/
theorem gaugePollsAndFailures : Obligations.GaugePollsAndFailures := by
  refine ⟨fun s running => event_eq_settled running rfl, fun s running => ?_,
    fun s t running round idle queue configured first => ?_, fun s p running poll sent => ?_,
    fun s running unsent => event_eq_settled running (replyTimerExpiry_unsent unsent),
    fun s p running poll unsent => ?_, fun s sent => ?_⟩
  · refine ⟨fun outstanding => ⟨fun round => ?_, fun round found => ?_, fun round bare => ?_⟩,
      fun idle => ⟨fun round => ?_, fun round found => ?_, fun round bare => ?_⟩⟩
    · rw [exec_roundDue running, State.roundMadeDue_waits round, if_neg outstanding]
    · rw [exec_roundDue running, State.roundMadeDue_begins round found, if_neg outstanding]
    · rw [exec_roundDue running, State.roundMadeDue_ends round bare, if_neg outstanding]
    · rw [exec_roundDue running, State.roundMadeDue_waits round, if_pos idle]
    · rw [exec_roundDue running, State.roundMadeDue_begins round found, if_pos idle]
    · rw [exec_roundDue running, State.roundMadeDue_ends round bare, if_pos idle]
  · rw [exec_roundDue running, State.roundMadeDue_begins round ⟨t, configured⟩, if_pos idle, queue]
    refine congrArg State.settled ((State.served_firstOfRound
      (s := { s with bus := { s.bus with lastDue := s.elapsed, round := some 0 } }) rfl configured first).trans ?_)
    rw [← queue]
    rfl
  · refine event_eq_settled running ((replyTimerExpiry_sent poll sent).trans ?_)
    rw [State.failPoll_served]
    refine congrArg (fun k => ({ s with tanks := s.tanks.set p.tank k } : State).served s.bus.queue) ?_
    refine if_congr Iff.rfl rfl ?_
    unfold Tank.pollFailed
    cases (s.tank p.tank).status <;> rfl
  · refine ⟨?_, ?_⟩
    · unfold State.gaugeDriverEnable
      rw [running, poll, Option.any_some, unsent]
      rfl
    · unfold State.gaugeBytes
      rw [poll]
      exact (if_neg (Bool.eq_false_iff.1 unsent)).trans (pollFrame_eq p.address)
  · unfold State.gaugeDriverEnable State.gaugeBytes
    cases poll : s.bus.poll with
    | none => exact ⟨Bool.and_false _, rfl⟩
    | some p =>
      rw [Option.any_some, sent p poll]
      exact ⟨Bool.and_false _, if_pos (sent p poll)⟩

end Sys2Proof
end

section
/-! PROOFS. A tank's record replaced (O9). -/
namespace Sys2Proof.Machine
-- One proof at a time, as the whole text is one module.
set_option Elab.async false

/-! ## The operands of TANK-SET (04 R78 check 1) -/

theorem eightNumber_eq_some {n : Nat} {t : Fin 8} (named : eightNumber n = some t) : n = t.val := by
  unfold eightNumber at named
  split at named
  · exact congrArg Fin.val (Option.some.inj named)
  · cases named

theorem addressCode_getD {address : Option Nat} (inRange : ∀ a, address = some a → 1 ≤ a ∧ a ≤ 31) :
    addressCode (address.getD 255) = some address := by
  unfold addressCode
  cases address with
  | none => rfl
  | some a =>
    obtain ⟨low, high⟩ := inRange a rfl
    exact (if_neg (show a ≠ 255 by omega)).trans (if_pos ⟨low, high⟩)

theorem addressCode_eq_none {n : Nat} (out : n = 0 ∨ (31 < n ∧ n ≠ 255)) : addressCode n = none := by
  unfold addressCode
  rw [if_neg (by omega), if_neg (by omega)]

/-- An address read is none or the one given. -/
theorem addressCode_eq_some {n : Nat} {address : Option Nat} (read : addressCode n = some address) (named : n ≠ 255) :
    address = some n := by
  unfold addressCode at read
  rw [if_neg named] at read
  split at read
  · exact (Option.some.inj read).symm
  · cases read

theorem alarmCode_code {c : VarianceClass} (class' : c ≠ .v0) : alarmCode c.code = some c := by
  cases c with
  | v0 => exact absurd rfl class'
  | v1 | v2 | v3 | v4 | v5 => rfl

theorem alarmCode_eq_none {n : Nat} (out : n = 0 ∨ 5 < n) : alarmCode n = none := by
  rcases out with rfl | big
  · rfl
  · obtain ⟨m, rfl⟩ := Nat.exists_eq_add_of_le' big
    rfl

/-- The fields of a TANK-SET within the ranges of 04 R77. -/
theorem readTankRecord_of_ranges {f : TankFields} {product : Option (Fin 6)} {address : Option Nat} {c : VarianceClass}
    (hp : f.product = indexCode product) (ha : f.gaugeAddress = address.getD 255)
    (inRange : ∀ a, address = some a → 1 ≤ a ∧ a ≤ 31) (hc : f.alarmClass = c.code) (class' : c ≠ .v0)
    (limits : f.cutOff ≤ 1000000000 ∧ f.lowBand ≤ 1000000000 ∧ f.highHigh ≤ 40000 ∧ f.leakThreshold ≤ 1000000000) :
    readTankRecord f =
      some { product := product, address := address, cutOff := f.cutOff, lowBand := f.lowBand, highHigh := f.highHigh
             leakThreshold := f.leakThreshold, alarmClass := c } := by
  unfold readTankRecord
  rw [hp, ha, hc, productCode_indexCode, addressCode_getD inRange, alarmCode_code class']
  exact if_pos limits

/-- A TANK-SET field out of the ranges of 04 R77 leaves no record. -/
theorem readTankRecord_eq_none {f : TankFields}
    (out : (5 < f.product ∧ f.product ≠ 255) ∨ (f.gaugeAddress = 0 ∨ (31 < f.gaugeAddress ∧ f.gaugeAddress ≠ 255))
      ∨ (f.alarmClass = 0 ∨ 5 < f.alarmClass)
      ∨ ¬ (f.cutOff ≤ 1000000000 ∧ f.lowBand ≤ 1000000000 ∧ f.highHigh ≤ 40000 ∧ f.leakThreshold ≤ 1000000000)) :
    readTankRecord f = none := by
  unfold readTankRecord
  split
  · rename_i product address class'
    rcases out with ⟨big, named⟩ | address' | alarm | limits
    · rw [productCode_eq_none big named] at product; cases product
    · rw [addressCode_eq_none address'] at address; cases address
    · rw [alarmCode_eq_none alarm] at class'; cases class'
    · exact if_neg limits
  · rfl

/-- A record read carries the gauge address given. -/
theorem readTankRecord_address {f : TankFields} {r : TankRecord} (read : readTankRecord f = some r)
    (named : f.gaugeAddress ≠ 255) : r.address = some f.gaugeAddress := by
  unfold readTankRecord at read
  split at read
  · rename_i address _
    split at read
    · cases read
      exact addressCode_eq_some address named
    · cases read
  · cases read

/-- The gauge address is taken where another tank has it. -/
theorem State.addressTaken_iff (s : State) (t : Fin 8) (address : Option Nat) :
    s.addressTaken t address = true ↔ ∃ a, address = some a ∧ ∃ u, u ≠ t ∧ (s.tank u).record.address = some a := by
  unfold State.addressTaken
  cases address <;> simp [mem_eightNumbers]

/-! ## What TANK-SET answers (04 R78) -/

/-- TANK-SET past its first check, on a busy tank. -/
theorem tankSet_busy {f : TankFields} {s : State} {t : Fin 8} {r : TankRecord} (tank : f.tank = t.val)
    (read : readTankRecord f = some r) (untaken : ¬ s.addressTaken t r.address = true) (busy : ¬ s.tankFree t) :
    tankSet f s = (refuse .tankBusy, s) := by
  unfold tankSet
  rw [tank, eightNumber_val, read]
  exact (if_neg untaken).trans (if_pos (State.tankBusy_of_not_free busy))

/-- TANK-SET past its checks. -/
theorem tankSet_accepted {f : TankFields} {s : State} {t : Fin 8} {r : TankRecord} (tank : f.tank = t.val)
    (read : readTankRecord f = some r) (untaken : ¬ s.addressTaken t r.address = true) (free : s.tankFree t) :
    tankSet f s =
      (accept, if (s.tank t).record.product = r.product ∧ (s.tank t).record.address = r.address then
          (s.modTank t fun k => { k with record := r }).evaluateBand t
        else (s.modTank t fun k => { k with record := r }).reconfigure t) := by
  unfold tankSet
  rw [tank, eightNumber_val, read]
  exact (if_neg untaken).trans (if_neg (State.not_tankBusy_of_free free))

/-- TANK-SET refused by its first check. -/
theorem tankSet_outOfRange {f : TankFields} {s : State}
    (out : 7 < f.tank ∨ readTankRecord f = none
      ∨ (f.gaugeAddress ≠ 255 ∧ ∃ u : Fin 8, u.val ≠ f.tank ∧ (s.tank u).record.address = some f.gaugeAddress)) :
    tankSet f s = (refuse .range, s) := by
  unfold tankSet
  split
  · rename_i t r number read
    rcases out with tank | unread | ⟨named, u, other, has⟩
    · rw [eightNumber_eq_none tank] at number; cases number
    · rw [unread] at read; cases read
    · have tank : f.tank = t.val := eightNumber_eq_some number
      have apart : u ≠ t := fun e => other (by rw [e, tank])
      exact if_pos ((State.addressTaken_iff s t r.address).2
        ⟨f.gaugeAddress, readTankRecord_address read named, u, apart, has⟩)
  · rfl

/-! ## The band of a free tank (04 R91) -/

theorem State.idle_of_laneTank {s : State} {t i : Fin 8} (free : s.tankFree t) (feeds : s.laneTank i = some t) :
    (s.lane i).state = .idle := by
  obtain ⟨p, product, fed⟩ := (State.laneTank_eq_some_iff s i t).1 feeds
  exact free.2 p ((State.feedTank_iff_fedProduct s p t).2 fed) i product

/-- No lane a free tank feeds is sent TANK-LOW. -/
theorem State.lanesMarked_of_free {s : State} {t : Fin 8} {crossing : Prop} [Decidable crossing] (free : s.tankFree t) :
    s.lanesMarked t crossing = s.lanes := by
  refine (State.lanes_eq_of_lane fun i => ?_).symm
  unfold State.lanesMarked
  rw [Fin.getElem_fin, Vector.getElem_ofFn, Fin.eta, if_neg]
  rintro ⟨_, demands, feeds⟩
  rw [State.idle_of_laneTank free feeds] at demands
  cases demands

/-- A pass gives a lane in IDLE the grant HOLD and no mark (03 R70). -/
theorem Lane.withGrant_of_idle {l : Lane} (u : State) (h : Fin 6) (left : Nat) (idle : l.state = .idle) :
    l.withGrant u h (u.grantFor h left l) = { l with arbiterGrant := .hold } := by
  have hold : u.grantFor h left l = .hold := by
    unfold State.grantFor
    rw [idle]
    exact if_neg fun c => nomatch c.1
  rw [hold]
  unfold Lane.withGrant
  simp

/-- An evaluation of a free tank gives the lanes it feeds HOLD where the low band is entered or left (04 R91). -/
theorem State.lanes_of_lanesBanded_free {s u : State} {t : Fin 8} {old : Band} (free : s.tankFree t)
    (banded : s.lanesBanded u t old) :
    u.lanes = Vector.ofFn fun i =>
      if ¬ ((u.tank t).band = .lowBand ↔ old = .lowBand) ∧ s.laneTank i = some t then
        { s.lane i with arbiterGrant := .hold }
      else s.lane i := by
  obtain ⟨pass, still⟩ := banded
  have marked := State.lanesMarked_of_free (crossing := (u.tank t).band = .cutOff ∧ old ≠ .cutOff) free
  refine State.lanes_eq_of_lane fun i => ?_
  rw [Fin.getElem_fin, Vector.getElem_ofFn, Fin.eta]
  by_cases flips : ¬ ((u.tank t).band = .lowBand ↔ old = .lowBand)
  · cases fed : s.fedProduct t with
    | none =>
      have unfed : ∀ p, s.feedTank p ≠ some t := fun p feeds => by
        rw [State.feedTank_iff_fedProduct, fed] at feeds; cases feeds
      have away : s.laneTank i ≠ some t := fun feeds => by
        obtain ⟨p, _, here⟩ := (State.laneTank_eq_some_iff s i t).1 feeds
        rw [fed] at here; cases here
      rw [if_neg fun c => away c.2]
      exact State.lane_congr i s u ((still (Or.inr unfed)).trans marked)
    | some p =>
      have feeds : s.laneTank i = some t ↔ (s.lane i).record.product = some p := by
        rw [State.laneTank_eq_some_iff, fed]
        simp
      have passed := State.passOf_of_lanes (s := s) marked
        (pass p flips ((State.feedTank_iff_fedProduct s p t).2 fed)) i
      rw [passed]
      by_cases mine : (s.lane i).record.product = some p
      · rw [if_pos mine, if_pos ⟨flips, feeds.2 mine⟩,
          Lane.withGrant_of_idle u p _ (State.idle_of_laneTank free (feeds.2 mine))]
      · rw [if_neg mine, if_neg fun c => mine (feeds.1 c.2)]
  · rw [if_neg fun c => flips c.1]
    exact State.lane_congr i s u ((still (Or.inl flips)).trans marked)

/-- A tank changed, but for its product and its band, and put into the band of its estimate (04 R91). -/
theorem State.evaluateBand_modTank {s : State} {t : Fin 8} {g : Tank → Tank}
    (product : (g (s.tank t)).record.product = (s.tank t).record.product)
    (band : (g (s.tank t)).band = (s.tank t).band) :
    s.lanesBanded ((s.modTank t g).evaluateBand t) t (s.tank t).band
      ∧ (s.modTank t g).evaluateBand t =
        { s with tanks := s.tanks.set t (g (s.tank t)).banded, lanes := ((s.modTank t g).evaluateBand t).lanes
                 link := s.linkRaising ((g (s.tank t)).banded.lowNotice t (s.tank t).band) } := by
  have here : (s.modTank t g).tank t = g (s.tank t) := State.tank_modTank_same ..
  have tanks : (s.modTank t g).tanks.set t (g (s.tank t)).banded = s.tanks.set t (g (s.tank t)).banded :=
    Vector.set_set ..
  obtain ⟨banded, rest⟩ := State.evaluateBand_banded t (s.modTank t g)
  rw [here, band] at banded rest
  rw [tanks] at rest
  exact ⟨State.lanesBanded.of_feeds (v := s.modTank t g) rfl (State.feedTank_modTank product) banded, rest⟩

/-- A free tank whose record changes but for its product and address is put into its band (04 R78, R91). -/
theorem State.evaluateBand_record {s : State} {t : Fin 8} (r : TankRecord) (free : s.tankFree t)
    (product : (s.tank t).record.product = r.product) :
    (s.modTank t fun k => { k with record := r }).evaluateBand t =
      { s with
        tanks := s.tanks.set t ({ s.tank t with record := r } : Tank).banded
        lanes := Vector.ofFn fun i =>
          if ¬ (({ s.tank t with record := r } : Tank).banded.band = .lowBand ↔ (s.tank t).band = .lowBand)
            ∧ s.laneTank i = some t then
            { s.lane i with arbiterGrant := .hold }
          else s.lane i
        link := s.linkRaising (({ s.tank t with record := r } : Tank).banded.lowNotice t (s.tank t).band) } := by
  obtain ⟨banded, rest⟩ := State.evaluateBand_modTank (s := s) (t := t) (g := fun k => { k with record := r })
    product.symm rfl
  generalize (s.modTank t fun k => { k with record := r }).evaluateBand t = u at banded rest ⊢
  have here : u.tank t = ({ s.tank t with record := r } : Tank).banded := by
    rw [rest]
    exact State.tank_modTank_same t (fun k => ({ k with record := r } : Tank).banded) s
  have lanes := State.lanes_of_lanesBanded_free free banded
  rw [here] at lanes
  rw [rest, lanes]

end Sys2Proof.Machine

namespace Sys2Proof
open Sys2Proof.Machine
set_option Elab.async false

/-- Settles O9: the checks are made in order; a changed product or address starts the tank afresh, and otherwise its
estimate is put into its band. -/
theorem tankSetReplacesRecord : Obligations.TankSetReplacesRecord := by
  refine ⟨fun tag f s t product address cls ready tank hp ha gauge hc class' cut low high leak => ?_,
    fun tag f s ready out => ?_⟩
  · have read := readTankRecord_of_ranges hp ha (fun a e => ⟨(gauge a e).1, (gauge a e).2.1⟩) hc class'
      ⟨cut, low, high, leak⟩
    have untaken : ¬ s.addressTaken t address = true := fun taken => by
      obtain ⟨a, named, u, other, has⟩ := (State.addressTaken_iff s t address).1 taken
      exact (gauge a named).2.2 u other has
    refine ⟨fun free changed => ?_, fun free sameProduct sameAddress => ?_, fun busy => ?_⟩
    · have unlike : ¬ ((s.tank t).record.product = product ∧ (s.tank t).record.address = address) :=
        fun same => changed.elim (· same.1) (· same.2)
      refine event_request_exact ready _ _ _ _ (by exact ready.1) ?_
      rw [tankSet_accepted tank read untaken free, if_neg unlike, State.reconfigure_modTank]
      rfl
    · refine event_request_exact ready _ _ _ _ (by exact ready.1) ?_
      rw [tankSet_accepted tank read untaken free, if_pos ⟨sameProduct, sameAddress⟩,
        State.evaluateBand_record _ free sameProduct]
      rfl
    · exact event_request_exact ready _ _ _ _ ready.1 (tankSet_busy tank read untaken busy)
  · refine event_request_exact ready _ _ _ _ ready.1 (tankSet_outOfRange ?_)
    rcases out with tank | product | zero | big | taken | field
    · exact Or.inl tank
    · exact Or.inr (Or.inl (readTankRecord_eq_none (Or.inl product)))
    · exact Or.inr (Or.inl (readTankRecord_eq_none (Or.inr (Or.inl (Or.inl zero)))))
    · exact Or.inr (Or.inl (readTankRecord_eq_none (Or.inr (Or.inl (Or.inr big)))))
    · exact Or.inr (Or.inr taken)
    · exact Or.inr (Or.inl (readTankRecord_eq_none (Or.inr (Or.inr (by omega)))))

end Sys2Proof
end

section
/-! PROOFS. A gauge's reply read from its bytes, and the gauged net (for O26). -/
namespace Sys2Proof.Machine
-- One proof at a time, as the whole text is one module.
set_option Elab.async false

/-! ## The reply's bytes (04 R81, R82) -/

/-- A two-byte field read as a number. -/
theorem getNum_two (hi lo : Byte) : getNum [hi, lo] = 256 * hi.toNat + lo.toNat := by
  simp [getNum]

/-- A signed two-byte field is the integer of its bits. -/
theorem intAt_two {body : List Byte} {at' : Nat} {hi lo : Byte} (field : (body.drop at').take 2 = [hi, lo]) :
    intAt body at' 2 = (hi ++ lo).toInt := by
  have number : numAt body at' 2 = (hi ++ lo).toNat := by
    unfold numAt
    rw [field, getNum_two, toNat_append_byte]
  unfold intAt
  rw [number, BitVec.toInt_eq_toNat_cond]
  exact if_congr (by omega) rfl rfl

/-- A complete reply is judged by its address, its check byte, its status and its level. -/
theorem readReply_complete (polled : Nat) {before after : List Byte}
    (address status level1 level0 temp1 temp0 water1 water0 check : Byte) (sync : (0x5A : Byte) ∉ before) :
    readReply polled (before ++ [0x5A, address, status, level1, level0, temp1, temp0, water1, water0, check] ++ after) =
      if address.toNat = polled
          ∧ check = 0x5A + address + status + level1 + level0 + temp1 + temp0 + water1 + water0
          ∧ status = 0 ∧ 256 * level1.toNat + level0.toNat ≤ 40000 then
        .good ⟨256 * level1.toNat + level0.toNat, (temp1 ++ temp0).toInt, 256 * water1.toNat + water0.toNat⟩
      else .failed := by
  let frame := [0x5A, address, status, level1, level0, temp1, temp0, water1, water0, check]
  have taken : ((0x5A :: (frame.tail ++ after)).dropWhile (· != 0x5A)).take 10 = frame := by
    rw [show (0x5A :: (frame.tail ++ after)).dropWhile (· != 0x5A) = 0x5A :: (frame.tail ++ after) from
      dropWhile_sync [] _ (by simp)]
    rfl
  have sum : checkByte (frame.take 9) = 0x5A + address + status + level1 + level0 + temp1 + temp0 + water1 + water0 := by
    simp [checkByte, frame]
  have checks : numAt frame 9 1 = (checkByte (frame.take 9)).toNat ↔
      check = 0x5A + address + status + level1 + level0 + temp1 + temp0 + water1 + water0 := by
    rw [numAt_one, sum]
    exact BitVec.toNat_inj
  have zero : numAt frame 2 1 = 0 ↔ status = 0 := by
    rw [numAt_one]
    exact BitVec.toNat_inj (y := 0)
  have address' : numAt frame 1 1 = address.toNat := numAt_one ..
  have level : numAt frame 3 2 = 256 * level1.toNat + level0.toNat := getNum_two ..
  have water : numAt frame 7 2 = 256 * water1.toNat + water0.toNat := getNum_two ..
  have temperature : intAt frame 5 2 = (temp1 ++ temp0).toInt := intAt_two rfl
  rw [List.append_assoc]
  refine (readReply_discards polled before (frame.tail ++ after) sync).trans ?_
  unfold readReply
  rw [taken]
  dsimp only
  rw [if_neg (by simp [frame]), address', level, water, temperature]
  exact if_congr (and_congr Iff.rfl (and_congr checks (and_congr zero Iff.rfl))) rfl rfl

/-- Fewer than nine bytes after the first 0x5A are not yet a reply. -/
theorem readReply_short (polled : Nat) {before rest : List Byte} (sync : (0x5A : Byte) ∉ before)
    (short : rest.length < 9) : readReply polled (before ++ 0x5A :: rest) = .incomplete := by
  unfold readReply
  rw [dropWhile_sync before rest sync]
  exact if_pos (by rw [List.length_take, List.length_cons]; omega)

/-- Without a 0x5A no reply has begun. -/
theorem readReply_unsynced (polled : Nat) {bytes : List Byte} (sync : (0x5A : Byte) ∉ bytes) :
    readReply polled bytes = .incomplete := by
  have dropped : bytes.dropWhile (· != 0x5A) = [] :=
    List.dropWhile_eq_nil_iff.2 fun b mem => by
      have other : b ≠ 0x5A := fun e => sync (e ▸ mem)
      simpa using other
  unfold readReply
  rw [dropped]
  rfl

/-! ## The gauged net (04 R89) -/

/-- The gauged net is the floor of a millionth of the corrected gross. -/
theorem gaugedNet_floor (table : List TablePoint) (alpha level water : Nat) (temperature : Int) :
    let points := table.map fun p => (p.level, (p.volume : Int))
    let gross := if water < level then interpolate points level - interpolate points water else 0
    let factor := 1000000 - ((alpha : Int) * (max (-400) (min 600 temperature) - 150)).tdiv 10
    let net := gaugedNet table alpha level water temperature
    net * 1000000 ≤ gross * factor ∧ gross * factor < (net + 1) * 1000000 := by
  intro points gross factor net
  have floor : net = gross * factor / 1000000 := rfl
  rw [floor]
  exact ⟨Int.ediv_mul_le _ (by decide), Int.lt_ediv_add_one_mul_self _ (by decide)⟩

theorem State.tankAlpha_eq (s : State) (t : Fin 8) :
    s.tankAlpha t = ((s.tank t).record.product.map fun p => (s.product p).alpha).getD 0 := by
  unfold State.tankAlpha
  cases (s.tank t).record.product <;> rfl

end Sys2Proof.Machine
end

section
/-! PROOFS. The steps on a good gauge reply (O26; 04 R103). -/
namespace Sys2Proof.Machine
-- One proof at a time, as the whole text is one module.
set_option Elab.async false

/-! ## Moves that leave a pass and an evaluation standing -/

/-- A pass stands in a state with the same headers, lanes, products and cap. -/
theorem State.passOf.of_units {s v u : State} {h : Fin 6} (pass : s.passOf v h) (products : u.products = v.products)
    (headers : u.headers = v.headers) (lanes : u.lanes = v.lanes) (capped : u.capped h = v.capped h) :
    s.passOf u h := by
  have product : ∀ k, u.product k = v.product k := fun k => State.product_congr k v u products
  have header : ∀ k, u.header k = v.header k := fun k => State.header_congr k v u headers
  have lane : ∀ i, u.lane i = v.lane i := fun i => State.lane_congr i v u lanes
  intro i
  rw [lane, pass i]
  unfold Lane.withGrant State.grantFor State.capacityLeft
  simp only [product, header, lane, capped]

/-- An evaluation stands in a state whose lanes, headers and products are the same, and the tanks in record and band. -/
theorem State.lanesBanded.of_tanks {s v u : State} {t : Fin 8} {old : Band} (banded : s.lanesBanded v t old)
    (products : u.products = v.products) (headers : u.headers = v.headers) (lanes : u.lanes = v.lanes)
    (tanks : ∀ k, (u.tank k).record = (v.tank k).record ∧ (u.tank k).band = (v.tank k).band) :
    s.lanesBanded u t old := by
  have capped : ∀ h, u.capped h = v.capped h := fun h => by
    have product : ∀ k, u.product k = v.product k := fun k => State.product_congr k v u products
    unfold State.capped State.feedTank
    simp only [product, (tanks _).1, (tanks _).2]
  unfold State.lanesBanded at banded ⊢
  rw [(tanks t).2, lanes]
  obtain ⟨pass, still⟩ := banded
  exact ⟨fun p flips feeds => (pass p flips feeds).of_units products headers lanes (capped p), still⟩

/-! ## One tank changed twice -/

/-- A tank put into a state is the one it has there. -/
theorem State.tank_of_set {s v : State} {t : Fin 8} {k : Tank} (tanks : v.tanks = s.tanks.set t k) : v.tank t = k :=
  (State.tank_congr t (s.modTank t fun _ => k) v tanks).trans (State.tank_modTank_same t (fun _ => k) s)

theorem State.tank_of_set_ne {s v : State} {t j : Fin 8} {k : Tank} (tanks : v.tanks = s.tanks.set t k) (other : j ≠ t) :
    v.tank j = s.tank j :=
  (State.tank_congr j (s.modTank t fun _ => k) v tanks).trans (State.tank_modTank_ne t j other (fun _ => k) s)

/-- A tank put into a state and changed there is put in once. -/
theorem State.tanks_modTank_of_set {s v : State} {t : Fin 8} {k : Tank} (tanks : v.tanks = s.tanks.set t k)
    (g : Tank → Tank) : (v.modTank t g).tanks = s.tanks.set t (g k) := by
  show v.tanks.set t (g (v.tank t)) = _
  rw [State.tank_of_set tanks, tanks]
  exact Vector.set_set ..

/-! ## A cause raised and the poll (07 R157) -/

/-- The raising of a cause leaves a poll outstanding. -/
theorem State.raises.poll_isSome {s u : State} {kind : CauseKind} {detail : Mask} {q : Poll}
    (raised : s.raises u kind detail) (poll : s.bus.poll = some q) : ∃ q', u.bus.poll = some q' := by
  obtain ⟨_, entered, stays, _, _⟩ := raised
  by_cases opens : s.shutdown.bay = .armed ∨ s.shutdown.bay = .disarmed
  · obtain ⟨_, _, _, _, _, bus, _⟩ := entered opens
    rw [bus, State.busAfterEntry_eq, State.busAsked_of_poll _ poll]
    exact ⟨_, rfl⟩
  · rw [stays (fun a => opens (Or.inl a)) fun d => opens (Or.inr d)]
    exact ⟨q, poll⟩

theorem State.busRests_of_poll {s : State} {q : Poll} (poll : s.bus.poll = some q) : s.busRests :=
  fun idle => by rw [poll] at idle; cases idle

/-! ## The leak check (04 R102) -/

/-- The drop a good reply shows is above the leak threshold, with no receipt in the slot. -/
def Tank.leakSeen (net : Int) (k : Tank) : Prop :=
  k.record.leakThreshold ≠ 0 ∧ k.receipt = none
    ∧ ∃ h, k.held = some h ∧ (k.record.leakThreshold : Int) < h.net - net - k.sincePoll

theorem Tank.leaks_iff (k : Tank) (net : Int) : k.leaks net = true ↔ k.leakSeen net := by
  unfold Tank.leaks Tank.leakSeen Tank.drop
  cases k.held with
  | none => simp
  | some h => simp [and_assoc]

theorem State.leakCheck_raises {s : State} {t : Fin 8} {net : Int} {q : Poll} (poll : s.bus.poll = some q)
    (leaks : (s.tank t).leakSeen net) :
    ({ s with tanks := s.tanks.set t { s.tank t with leak := true } } : State).raises (s.leakCheck t net) .tankleak
      (oneMember t) := by
  unfold State.leakCheck
  rw [if_pos ((Tank.leaks_iff _ net).2 leaks)]
  exact State.raise_raises (State.busRests_of_poll (s := s.modTank t fun k => { k with leak := true }) poll) ..

theorem State.leakCheck_quiet {s : State} {t : Fin 8} {net : Int} (sound : ¬ (s.tank t).leakSeen net) :
    s.leakCheck t net = s :=
  if_neg fun leaks => sound ((Tank.leaks_iff _ net).1 leaks)

theorem State.leakCheck_poll {s : State} {q : Poll} (t : Fin 8) (net : Int) (poll : s.bus.poll = some q) :
    ∃ q', (s.leakCheck t net).bus.poll = some q' := by
  by_cases leaks : (s.tank t).leakSeen net
  · exact (State.leakCheck_raises poll leaks).poll_isSome poll
  · rw [State.leakCheck_quiet leaks]
    exact ⟨q, poll⟩

/-! ## The high-high comparison (04 R100) -/

theorem State.overfillNotice_eq (t : Fin 8) (level : Nat) (s : State) :
    s.overfillNotice t level =
      { s with tanks := s.tanks.set t { s.tank t with highHigh := true, overfillStop := true }
               link := s.linkRaising [.overfillStop t level] } := by
  unfold State.overfillNotice
  rw [State.notify_linkRaising]
  rfl

/-- An overfill stop of an OPEN receipt, with a poll outstanding. -/
theorem State.overfillStop_eq {s : State} {t : Fin 8} {r : Receipt} {q : Poll} (level : Nat)
    (receipt : (s.tank t).receipt = some r) (opened : r.state = .opened) (poll : s.bus.poll = some q) :
    ((s.closeReceipt t .overfillStop).modTank t fun k => { k with watch := some level }).overfillNotice t level =
      { s with
        tanks := s.tanks.set t
          { s.tank t with
            highHigh := true, overfillStop := true, watch := some level
            receipt := some (r.settlingFrom s.period.clock .overfillStop s.bus.round.isSome) }
        bus := { s.bus with
          queue := queueing s.bus.queue t
          poll := some (if q.tank = t then { q with beforeClose := true } else q) }
        link := s.linkRaising [.overfillStop t level] } := by
  have closed := State.closeReceipt_of_poll .overfillStop receipt opened poll
  generalize s.closeReceipt t .overfillStop = v at closed
  have tanks := State.tanks_modTank_of_set (State.tanks_modTank_of_set (congrArg State.tanks closed)
    fun k => { k with watch := some level }) fun k => { k with highHigh := true, overfillStop := true }
  rw [State.overfillNotice_eq]
  apply State.ext_fields
  case h10 => exact tanks
  all_goals
    subst closed
    rfl

/-- With a poll outstanding, the comparison with the high-high level. -/
theorem State.highHighCheck_eq {s : State} {q : Poll} (t : Fin 8) (level : Nat) (poll : s.bus.poll = some q) :
    s.highHighCheck t level = s.levelCompared t level := by
  unfold State.highHighCheck State.levelCompared
  refine if_congr Iff.rfl rfl ?_
  by_cases inlet : (s.tank t).inlet = true
  · obtain ⟨r, receipt, opened⟩ := (Tank.inlet_eq_true_iff _).1 inlet
    rw [if_pos inlet, if_pos inlet, State.overfillStop_eq level receipt opened poll, receipt, poll]
    rfl
  · rw [if_neg inlet, if_neg inlet, State.overfillNotice_eq]

theorem State.levelCompared_poll {s : State} {q : Poll} (t : Fin 8) (level : Nat) (poll : s.bus.poll = some q) :
    ∃ q', (s.levelCompared t level).bus.poll = some q' := by
  unfold State.levelCompared
  dsimp only
  split
  · exact ⟨q, poll⟩
  · split
    · dsimp only
      rw [poll]
      exact ⟨_, rfl⟩
    · split
      · exact ⟨q, poll⟩
      · exact ⟨q, poll⟩

/-! ## The overfill watch (04 R101) -/

/-- A closed inlet, and a level more than 5 mm above the watch. -/
def Tank.overfills (level : Nat) (k : Tank) : Prop :=
  ∃ stop, k.watch = some stop ∧ k.inlet = false ∧ stop + 5 < level

theorem State.watchCheck_raises {s : State} {t : Fin 8} {level : Nat} {q : Poll} (poll : s.bus.poll = some q)
    (overfilled : (s.tank t).overfills level) :
    ({ s with tanks := s.tanks.set t { s.tank t with watch := some level } } : State).raises (s.watchCheck t level)
      .overfill (oneMember t) := by
  obtain ⟨stop, watch, inlet, above⟩ := overfilled
  unfold State.watchCheck
  rw [watch]
  dsimp only
  rw [if_pos ⟨inlet, above⟩]
  exact State.raise_raises (State.busRests_of_poll (s := s.modTank t fun k => { k with watch := some level }) poll) ..

theorem State.watchCheck_quiet {s : State} {t : Fin 8} {level : Nat} (within : ¬ (s.tank t).overfills level) :
    s.watchCheck t level = s := by
  unfold State.watchCheck
  cases watch : (s.tank t).watch with
  | none => rfl
  | some stop => exact if_neg fun overfilled => within ⟨stop, watch, overfilled⟩

theorem State.watchCheck_poll {s : State} {q : Poll} (t : Fin 8) (level : Nat) (poll : s.bus.poll = some q) :
    ∃ q', (s.watchCheck t level).bus.poll = some q' := by
  by_cases overfilled : (s.tank t).overfills level
  · exact (State.watchCheck_raises poll overfilled).poll_isSome poll
  · rw [State.watchCheck_quiet overfilled]
    exact ⟨q, poll⟩

/-! ## The reading is held, evaluated and settles a receipt (04 R87, R91, R97) -/

/-- The tank with a good reply as its held reading, before its estimate is evaluated (04 R86, R87, R90, R103). -/
def Tank.reading (r : GaugeReading) (now : Nat) (net : Int) (k : Tank) : Tank :=
  { k with
    held := some { level := r.level, temperature := r.temperature, water := r.water
                   time := now, net := net, counter := k.dispensed }
    sincePoll := 0, status := .good, fails := 0, noticed := false, opening := some (k.opening.getD net)
    openedLate := k.openedLate || k.opening.isNone }

theorem Tank.openWith_eq (net : Int) (k : Tank) :
    k.openWith net =
      { k with opening := some (k.opening.getD net), openedLate := k.openedLate || k.opening.isNone } := by
  obtain ⟨_, _, _, _, _, _, _, _, _, _, _, _, _, _, _, _, opening, _, _, _, _, _, openedLate⟩ := k
  unfold Tank.openWith
  cases opening with
  | none => simp
  | some value => simp

/-- The opening value may be taken before the band is evaluated. -/
theorem Tank.openWith_holdReading (r : GaugeReading) (now : Nat) (net : Int) (k : Tank) :
    (k.holdReading r now net).banded.openWith net = (k.reading r now net).banded := by
  rw [Tank.openWith_eq, Tank.banded_eq, Tank.banded_eq]
  rfl

/-- The opening value may be taken before a receipt completes. -/
theorem Tank.openWith_received (result : ReceiptResult) (net : Int) (k : Tank) :
    (k.received result).openWith net = (k.openWith net).received result := by
  rw [Tank.openWith_eq, Tank.openWith_eq]
  rfl

theorem State.settleOnReply_settles {s : State} {t : Fin 8} {q : Poll} {x : Receipt} (net : Int)
    (receipt : (s.tank t).receipt = some x) (settles : x.state = .settling ∧ q.beforeClose = false) :
    s.settleOnReply t q net =
      { s with tanks := s.tanks.set t ((s.tank t).received (x.resultOn net (s.tank t).dispensed false))
               link := s.linkRaising [.receiptEnd t (x.resultOn net (s.tank t).dispensed false)] } := by
  unfold State.settleOnReply
  rw [receipt]
  exact (if_pos settles).trans (State.completeReceipt_received ..)

theorem State.settleOnReply_waits {s : State} {t : Fin 8} {q : Poll} (net : Int)
    (waits : ∀ x, (s.tank t).receipt = some x → ¬ (x.state = .settling ∧ q.beforeClose = false)) :
    s.settleOnReply t q net = s := by
  unfold State.settleOnReply
  cases receipt : (s.tank t).receipt with
  | none => rfl
  | some x => exact if_neg (waits x receipt)

/-- The part once a good reply is held and its estimate is in its band (04 R103 steps 4 and 5). -/
def State.readingHeld (t : Fin 8) (r : GaugeReading) (now : Nat) (net : Int) (s : State) : State :=
  (s.modTank t (Tank.holdReading r now net)).evaluateBand t

theorem State.readingHeld_banded (t : Fin 8) (r : GaugeReading) (now : Nat) (net : Int) (s : State) :
    s.lanesBanded (s.readingHeld t r now net) t (s.tank t).band
      ∧ s.readingHeld t r now net =
        { s with
          tanks := s.tanks.set t ((s.tank t).holdReading r now net).banded, lanes := (s.readingHeld t r now net).lanes
          link := s.linkRaising (((s.tank t).holdReading r now net).banded.lowNotice t (s.tank t).band) } :=
  State.evaluateBand_modTank (g := Tank.holdReading r now net) rfl rfl

theorem State.tank_readingHeld (t : Fin 8) (r : GaugeReading) (now : Nat) (net : Int) (s : State) :
    (s.readingHeld t r now net).tank t = ((s.tank t).holdReading r now net).banded :=
  State.tank_of_set (congrArg State.tanks (s.readingHeld_banded t r now net).2)

/-- The part once the reading held has settled a receipt and given an opening value (04 R103 steps 4 to 7). -/
def State.readingTaken (t : Fin 8) (q : Poll) (r : GaugeReading) (now : Nat) (net : Int) (s : State) : State :=
  ((s.readingHeld t r now net).settleOnReply t q net).modTank t (Tank.openWith net)

/-- A reading taken, where the settling moves the tank by `f` and raises the notices `ends`. -/
theorem State.readingTaken_of_settled {s : State} {t : Fin 8} {q : Poll} {r : GaugeReading} {now : Nat} {net : Int}
    {f : Tank → Tank} {ends : List NoticeBody}
    (settled : ∀ v, v = s.readingHeld t r now net →
      v.settleOnReply t q net = { v with tanks := v.tanks.set t (f (v.tank t)), link := v.linkRaising ends })
    (opens : ∀ k, (f k).openWith net = f (k.openWith net))
    (keeps : ∀ k, (f k).record = k.record ∧ (f k).band = k.band) :
    s.lanesBanded (s.readingTaken t q r now net) t (s.tank t).band
      ∧ s.readingTaken t q r now net =
        { s with
          tanks := s.tanks.set t (f ((s.tank t).reading r now net).banded)
          lanes := (s.readingTaken t q r now net).lanes
          link := s.linkRaising (((s.tank t).reading r now net).banded.lowNotice t (s.tank t).band ++ ends) } := by
  have settled := settled _ rfl
  obtain ⟨banded, held⟩ := s.readingHeld_banded t r now net
  have low : ((s.tank t).reading r now net).banded.lowNotice t (s.tank t).band =
      ((s.tank t).holdReading r now net).banded.lowNotice t (s.tank t).band := by
    rw [Tank.banded_eq, Tank.banded_eq]
    rfl
  unfold State.readingTaken
  generalize s.readingHeld t r now net = v at settled banded held ⊢
  have tanks := congrArg State.tanks held
  have here := State.tank_of_set tanks
  generalize v.settleOnReply t q net = w at settled ⊢
  have settledTanks : w.tanks = s.tanks.set t (f ((s.tank t).holdReading r now net).banded) := by
    rw [settled, here, tanks]
    exact Vector.set_set ..
  have opened := State.tanks_modTank_of_set settledTanks (Tank.openWith net)
  rw [opens, Tank.openWith_holdReading] at opened
  have link : w.link =
      s.linkRaising (((s.tank t).reading r now net).banded.lowNotice t (s.tank t).band ++ ends) := by
    rw [settled, low, State.linkRaising_append]
    show v.linkRaising ends = _
    rw [held]
    rfl
  have moved : w.modTank t (Tank.openWith net) =
      { s with tanks := s.tanks.set t (f ((s.tank t).reading r now net).banded), lanes := v.lanes
               link := s.linkRaising (((s.tank t).reading r now net).banded.lowNotice t (s.tank t).band ++ ends) } := by
    have fields : w.modTank t (Tank.openWith net) =
        { v with tanks := (w.modTank t (Tank.openWith net)).tanks, link := w.link } := by
      rw [settled]
      rfl
    rw [fields, opened, link]
    exact congrArg (fun x : State => { x with
      tanks := s.tanks.set t (f ((s.tank t).reading r now net).banded)
      link := s.linkRaising (((s.tank t).reading r now net).banded.lowNotice t (s.tank t).band ++ ends) }) held
  rw [moved]
  refine ⟨banded.of_tanks ?_ ?_ rfl fun k => ?_, rfl⟩
  · rw [held]
  · rw [held]
  · by_cases mine : k = t
    · subst mine
      obtain ⟨record, band⟩ := keeps ((s.tank k).reading r now net).banded
      rw [here, State.tank_of_set (s := s) rfl, record, band, Tank.banded_eq, Tank.banded_eq]
      exact ⟨rfl, rfl⟩
    · rw [State.tank_of_set_ne tanks mine, State.tank_of_set_ne (s := s) rfl mine]
      exact ⟨rfl, rfl⟩

/-- A SETTLING receipt of a poll sent after its close completes on the reading. -/
theorem State.readingTaken_settles {s : State} {t : Fin 8} {q : Poll} {r : GaugeReading} {now : Nat} {net : Int}
    {x : Receipt} (receipt : (s.tank t).receipt = some x) (settles : x.state = .settling ∧ q.beforeClose = false) :
    s.lanesBanded (s.readingTaken t q r now net) t (s.tank t).band
      ∧ s.readingTaken t q r now net =
        { s with
          tanks := s.tanks.set t
            (((s.tank t).reading r now net).banded.received (x.resultOn net (s.tank t).dispensed false))
          lanes := (s.readingTaken t q r now net).lanes
          link := s.linkRaising (((s.tank t).reading r now net).banded.lowNotice t (s.tank t).band
            ++ [.receiptEnd t (x.resultOn net (s.tank t).dispensed false)]) } := by
  refine State.readingTaken_of_settled (fun v held => ?_) (Tank.openWith_received _ net) fun k => ⟨rfl, rfl⟩
  have here : v.tank t = ((s.tank t).holdReading r now net).banded := by rw [held, State.tank_readingHeld]
  rw [Tank.banded_eq] at here
  have still : (v.tank t).receipt = some x := by rw [here]; exact receipt
  have dispensed : (v.tank t).dispensed = (s.tank t).dispensed := by rw [here]; rfl
  rw [State.settleOnReply_settles net still settles, dispensed]

/-- Without one the reading is held, and nothing settles. -/
theorem State.readingTaken_waits {s : State} {t : Fin 8} {q : Poll} {r : GaugeReading} {now : Nat} {net : Int}
    (waits : ∀ x, (s.tank t).receipt = some x → ¬ (x.state = .settling ∧ q.beforeClose = false)) :
    s.lanesBanded (s.readingTaken t q r now net) t (s.tank t).band
      ∧ s.readingTaken t q r now net =
        { s with
          tanks := s.tanks.set t ((s.tank t).reading r now net).banded
          lanes := (s.readingTaken t q r now net).lanes
          link := s.linkRaising (((s.tank t).reading r now net).banded.lowNotice t (s.tank t).band) } := by
  have taken := State.readingTaken_of_settled (s := s) (t := t) (q := q) (r := r) (now := now) (net := net) (f := id)
    (ends := []) (fun v held => ?_) (fun _ => rfl) fun _ => ⟨rfl, rfl⟩
  · rwa [List.append_nil] at taken
  · have here : v.tank t = ((s.tank t).holdReading r now net).banded := by rw [held, State.tank_readingHeld]
    rw [Tank.banded_eq] at here
    rw [State.settleOnReply_waits net (by rw [here]; exact waits)]
    show v = { v with tanks := v.tanks.set t (v.tank t) }
    rw [State.tanks_set_self]

/-- Either way the lanes are those of the evaluation (04 R91). -/
theorem State.readingTaken_banded (t : Fin 8) (q : Poll) (r : GaugeReading) (now : Nat) (net : Int) (s : State) :
    s.lanesBanded (s.readingTaken t q r now net) t (s.tank t).band := by
  by_cases settles : ∃ x, (s.tank t).receipt = some x ∧ x.state = .settling ∧ q.beforeClose = false
  · obtain ⟨x, receipt, now⟩ := settles
    exact (State.readingTaken_settles receipt now).1
  · exact (State.readingTaken_waits fun x receipt now => settles ⟨x, receipt, now⟩).1

/-! ## The reply as a whole (04 R103) -/

/-- The part once the reading has been compared with the held one, the high-high level and the watch (04 R103 steps 2
and 3). -/
def State.levelJudged (t : Fin 8) (level : Nat) (net : Int) (s : State) : State :=
  ((s.leakCheck t net).levelCompared t level).watchCheck t level

theorem State.levelJudged_poll {s : State} {p : Poll} (t : Fin 8) (level : Nat) (net : Int)
    (poll : s.bus.poll = some p) : ∃ q, (s.levelJudged t level net).bus.poll = some q := by
  obtain ⟨_, leakPoll⟩ := State.leakCheck_poll t net poll
  obtain ⟨_, levelPoll⟩ := State.levelCompared_poll t level leakPoll
  exact State.watchCheck_poll t level levelPoll

/-- A good reply is judged, and its reading is taken with the poll as the judgement leaves it. -/
theorem State.goodReply_eq {s : State} {p q : Poll} {r : GaugeReading} {net : Int} (poll : s.bus.poll = some p)
    (gauged : net = gaugedNet ((s.tank p.tank).table.getD []) (s.tankAlpha p.tank) r.level r.water r.temperature)
    (judged : (s.levelJudged p.tank r.level net).bus.poll = some q) :
    s.goodReply p r = (s.levelJudged p.tank r.level net).readingTaken p.tank q r s.period.clock net := by
  obtain ⟨_, leakPoll⟩ := State.leakCheck_poll p.tank net poll
  have steps : s.goodReply p r =
      (((s.levelJudged p.tank r.level net).readingHeld p.tank r s.period.clock net).settleOnReply p.tank
        (((s.levelJudged p.tank r.level net).readingHeld p.tank r s.period.clock net).pollNow p) net).modTank p.tank
        (Tank.openWith net) := by
    unfold State.levelJudged
    rw [← State.highHighCheck_eq p.tank r.level leakPoll, gauged]
    rfl
  have now : ((s.levelJudged p.tank r.level net).readingHeld p.tank r s.period.clock net).pollNow p = q := by
    unfold State.pollNow
    rw [(State.readingHeld_banded ..).2]
    show (s.levelJudged p.tank r.level net).bus.poll.getD p = q
    rw [judged]
    rfl
  rw [steps, now]
  rfl

/-- Bytes for a sent poll: a good reply ends it and counts unless the poll is void, another is a failure, and an
incomplete one is waited for (04 R78, R82). -/
theorem gaugeReply_sent {bytes : List Byte} {s : State} {p : Poll} (poll : s.bus.poll = some p)
    (sent : p.sent = true) :
    (∀ r, readReply p.address bytes = .good r →
      gaugeReply bytes s = (if p.void then s else s.goodReply p r).endPoll)
      ∧ (readReply p.address bytes = .failed → gaugeReply bytes s = s.failPoll p)
      ∧ (readReply p.address bytes = .incomplete → gaugeReply bytes s = s) := by
  unfold gaugeReply
  rw [poll]
  dsimp only
  rw [if_pos sent]
  exact ⟨fun r reply => by rw [reply], fun reply => by rw [reply], fun reply => by rw [reply]⟩

theorem gaugeReply_unsent {bytes : List Byte} {s : State} (unsent : ∀ p, s.bus.poll = some p → p.sent = false) :
    gaugeReply bytes s = s := by
  unfold gaugeReply
  cases poll : s.bus.poll with
  | none => rfl
  | some p => exact if_neg (Bool.eq_false_iff.1 (unsent p poll))

end Sys2Proof.Machine

namespace Sys2Proof
open Sys2Proof.Machine
set_option Elab.async false

/-- Settles O26: each step of a good reply is stated of what the step before it left, an outstanding poll included; the
bytes are judged by their fields. -/
theorem goodReplyIsHeld : Obligations.GoodReplyIsHeld := by
  refine ⟨?_, fun bytes s p r running poll sent void reply => ?_, fun bytes s p running poll sent =>
      ⟨fun failed => ?_, fun incomplete => event_eq_settled running ((gaugeReply_sent poll sent).2.2 incomplete)⟩,
    fun bytes s running unsent => event_eq_settled running (gaugeReply_unsent unsent), gaugedNet_floor,
    State.tankAlpha_eq, ?_, fun polled bytes sync => readReply_unsynced polled sync,
    fun polled before rest sync short => readReply_short polled sync short⟩
  · intro bytes s p r running poll sent live reply t k net leaks
    obtain ⟨_, leakPoll⟩ := State.leakCheck_poll t net poll
    obtain ⟨_, levelPoll⟩ := State.levelCompared_poll t r.level leakPoll
    obtain ⟨q, judged⟩ := State.levelJudged_poll t r.level net poll
    have exec' : exec (.gaugeReply bytes) s = ((s.goodReply p r).served (s.goodReply p r).bus.queue).settled := by
      refine event_eq_settled running (((gaugeReply_sent poll sent).1 r reply).trans ?_)
      rw [live]
      exact State.endPoll_served _
    rw [State.goodReply_eq poll rfl judged] at exec'
    refine ⟨s.leakCheck t net, s.levelJudged t r.level net, _, State.leakCheck_raises poll, State.leakCheck_quiet,
      ⟨fun stop watch inlet above => State.watchCheck_raises levelPoll ⟨stop, watch, inlet, above⟩, fun within =>
        State.watchCheck_quiet fun ⟨stop, watch, inlet, above⟩ => ?_⟩,
      ⟨State.readingTaken_banded .., fun x settles => ?_, fun waits => ?_⟩, exec'⟩
    · rcases within stop watch with opened | below
      · rw [inlet] at opened; cases opened
      · omega
    · obtain ⟨receipt, settling, after⟩ := settles
      exact (State.readingTaken_settles receipt ⟨settling, after q judged⟩).2
    · refine (State.readingTaken_waits fun x receipt settles => waits x ⟨receipt, settles.1, fun q' poll' => ?_⟩).2
      rw [← Option.some.inj (judged.symm.trans poll')]
      exact settles.2
  · refine event_eq_settled running (((gaugeReply_sent poll sent).1 r reply).trans ?_)
    rw [void]
    exact s.endPoll_served
  · refine (event_eq_settled running (((gaugeReply_sent poll sent).2.1 failed).trans ?_)).trans
      (event_eq_settled running rfl).symm
    exact (replyTimerExpiry_sent poll sent).symm
  · intro polled before after address status level1 level0 temp1 temp0 water1 water0 check sync level good outcome
    have judged := readReply_complete polled (after := after) address status level1 level0 temp1 temp0 water1 water0
      check sync
    exact ⟨fun passes => judged.trans (if_pos passes), fun fails => judged.trans (if_neg fails)⟩

end Sys2Proof
end

section
/-! PROOFS. The reading step and the roll of a machine's record (O27, O28). -/
namespace Sys2Proof.Machine

/-! ## The reading step (05 R111, R112) -/

section
variable {now h last : Nat} {clockSet : Bool} {r : MachineRecord}

theorem readingStep_absent (absent : r.lastReading = none) :
    readingStep now clockSet h r =
      ⟨0, false, false, { r with lastReading := some h, readingTime := now, timed := clockSet }⟩ := by
  unfold readingStep
  rw [absent]

theorem readingStep_below (present : r.lastReading = some last) (below : h < last) :
    readingStep now clockSet h r = ⟨0, true, false, r⟩ := by
  unfold readingStep
  rw [present]
  exact if_pos below

theorem readingStep_equal (present : r.lastReading = some last) (equal : h = last) :
    readingStep now clockSet h r = ⟨0, false, false, r⟩ := by
  unfold readingStep
  rw [present]
  exact (if_neg (by omega)).trans (if_pos equal)

/-- A rise is taken whole unless the jump test is made and finds it (05 R112). -/
theorem readingStep_above (present : r.lastReading = some last) (above : last < h) :
    let taken := { r with lastReading := some h, readingTime := now, timed := clockSet }
    let allowance := (now - r.readingTime) / 360 + 10
    readingStep now clockSet h r =
      if clockSet = true ∧ r.timed = true ∧ allowance < h - last then ⟨allowance, false, true, taken⟩
      else ⟨h - last, false, false, taken⟩ := by
  unfold readingStep hourAllowance
  rw [present]
  exact (if_neg (by omega)).trans (if_neg (by omega))

/-- The last reading never falls (05 R111). -/
theorem readingStep_lastReading (present : r.lastReading = some last) :
    ∃ n, (readingStep now clockSet h r).record.lastReading = some n ∧ last ≤ n := by
  rcases Nat.lt_trichotomy h last with below | equal | above
  · rw [readingStep_below present below]
    exact ⟨last, present, le_rfl⟩
  · rw [readingStep_equal present equal]
    exact ⟨last, present, le_rfl⟩
  · refine ⟨h, ?_, above.le⟩
    rw [readingStep_above present above]
    split <;> rfl
end

/-! ## The roll (05 R121) -/

section
variable {period : Nat} {r : MachineRecord}

theorem MachineRecord.roll_current (current : r.recordPeriod = period) : r.roll period = r := by
  unfold MachineRecord.roll
  exact if_pos current

theorem MachineRecord.roll_behind (old : r.recordPeriod ≠ period)
    (next : (r.recordPeriod + 1) % 4294967296 = period) :
    r.roll period =
      { r with recordPeriod := period, lastHours := r.periodHours, lastNet := r.periodNet, periodHours := 0
               periodNet := Vector.replicate 6 0 } := by
  unfold MachineRecord.roll
  exact (if_neg old).trans (if_pos next)

theorem MachineRecord.roll_older (old : r.recordPeriod ≠ period)
    (older : (r.recordPeriod + 1) % 4294967296 ≠ period) :
    r.roll period =
      { r with recordPeriod := period, lastHours := 0, lastNet := Vector.replicate 6 0, periodHours := 0
               periodNet := Vector.replicate 6 0 } := by
  unfold MachineRecord.roll
  exact (if_neg old).trans (if_neg older)
end

end Sys2Proof.Machine

namespace Sys2Proof
open Sys2Proof.Machine

/-- Settles O27: the rows of the table are the branches of the step, a rise being judged by the jump test. -/
theorem readingStepTable : Obligations.ReadingStepTable := by
  intro now h clockSet r allowance taken
  refine ⟨readingStep_absent, fun last present => ⟨readingStep_below present, readingStep_equal present,
    fun above untested => ?_, fun above within => ?_, fun above set timed jump => ?_, readingStep_lastReading present⟩⟩
  · refine (readingStep_above present above).trans (if_neg fun tested => ?_)
    obtain ⟨set, timed, -⟩ := tested
    rcases untested with unset | untimed
    · rw [set] at unset; cases unset
    · rw [timed] at untimed; cases untimed
  · refine (readingStep_above present above).trans (if_neg fun tested => ?_)
    obtain ⟨-, -, jump⟩ := tested
    exact absurd within (Nat.not_le.2 jump)
  · exact (readingStep_above present above).trans (if_pos ⟨set, timed, jump⟩)

/-- Settles O28: within 32 bits one period behind is the next number modulo 2 to the 32 (08 R174). -/
theorem rollByPeriod : Obligations.RollByPeriod := by
  intro period r period_le record_le
  refine ⟨MachineRecord.roll_current, fun behind => ?_, fun old notNext notWrapped => ?_⟩
  · exact MachineRecord.roll_behind (by omega) (by omega)
  · exact MachineRecord.roll_older old (by omega)

end Sys2Proof
end

section
/-! PROOFS. MACHINE-READ and MACHINE-WRITE: a record is rolled and shown, or rolled and written (O29). -/
namespace Sys2Proof.Machine

/-! ## What MACHINE-READ shows (05 R106, R109, R123) -/

theorem State.mem_engagedLanes (s : State) (m : Fin 512) (p : Fin 6) (i : Fin 8) :
    (p, i) ∈ s.engagedLanes m ↔
      (s.lane i).record.product = some p ∧ (s.lane i).state.holdsReservation = true
        ∧ (s.lane i).delivery.machine = m := by
  simp [State.engagedLanes, State.laneOn, mem_sixNumbers, mem_eightNumbers, and_assoc]

/-- The service state by the interval and the hours, overdue a tenth of the interval past it (05 R114, R123). -/
theorem MachineRecord.serviceState_eq (r : MachineRecord) : r.serviceState =
    if r.serviceInterval = 0 then .noService
    else if r.hoursSinceService < r.serviceInterval then .ok
    else if r.serviceInterval * 11 / 10 ≤ r.hoursSinceService then .overdue
    else .due := by
  unfold MachineRecord.serviceState serviceOverdueFlag serviceDueFlag
  by_cases none : r.serviceInterval = 0
  · simp [none]
  · by_cases early : r.hoursSinceService < r.serviceInterval
    · simp [none, early, Nat.not_le.2 early]
    · simp [none, early, Nat.pos_of_ne_zero none, Nat.not_lt.1 early]

theorem MachineRecord.serviceState_noService (r : MachineRecord) :
    r.serviceState = .noService ↔ r.serviceInterval = 0 := by
  rw [r.serviceState_eq]
  split_ifs <;> simp_all

theorem MachineRecord.serviceState_ok (r : MachineRecord) :
    r.serviceState = .ok ↔ 0 < r.serviceInterval ∧ r.hoursSinceService < r.serviceInterval := by
  rw [r.serviceState_eq]
  split_ifs <;> simp <;> omega

theorem MachineRecord.serviceState_overdue (r : MachineRecord) :
    r.serviceState = .overdue ↔ 0 < r.serviceInterval ∧ r.serviceInterval ≤ r.hoursSinceService
      ∧ r.serviceInterval * 11 / 10 ≤ r.hoursSinceService := by
  rw [r.serviceState_eq]
  split_ifs <;> simp <;> omega

/-! ## The fields a mask names (05 R124) -/

theorem machineStatusCode_isSome (n : Nat) : (machineStatusCode n).isSome = true ↔ n ≤ 2 := by
  match n with
  | 0 | 1 | 2 => decide
  | n + 3 => simp [machineStatusCode]

theorem machineStatusCode_vacant (n : Nat) : machineStatusCode n = some .vacant ↔ n = 0 := by
  match n with
  | 0 | 1 | 2 => decide
  | n + 3 => simp [machineStatusCode]

theorem machineStatusCode_present {n : Nat} (present : n ≠ 0) (inRange : n ≤ 2) :
    machineStatusCode n = some (if n = 1 then .active else .barred) := by
  match n with
  | 1 | 2 => rfl

theorem namesWritable_iff (mask : Nat) : namesWritable mask = true ↔ mask % 128 ≠ 0 := by
  unfold namesWritable
  exact bne_iff_ne

theorem maskedInRange_iff (mask : Nat) (v : MachineValues) :
    maskedInRange mask v = true ↔
      (mask.testBit 0 = true → v.status ≤ 2) ∧ (mask.testBit 1 = true → v.permitted ≤ 63)
        ∧ (mask.testBit 2 = true → v.fuelCapacity ≤ 2000000) ∧ (mask.testBit 3 = true → v.serviceInterval ≤ 999999)
        ∧ (mask.testBit 4 = true → v.hoursSinceService ≤ 9999999)
        ∧ (mask.testBit 5 = true → ∀ h, v.hourBaseline = some h → h ≤ 9999999)
        ∧ (mask.testBit 6 = true → v.burnAverage ≤ 65535) := by
  have named (b p : Bool) : (!b || p) = true ↔ (b = true → p = true) := by cases b <;> simp
  have baseline : v.hourBaseline.all (· ≤ 9999999) = true ↔ ∀ h, v.hourBaseline = some h → h ≤ 9999999 := by
    simp [Option.all_eq_true]
  unfold maskedInRange masked
  simp only [Bool.and_eq_true, named, machineStatusCode_isSome, decide_eq_true_eq, baseline, and_assoc,
    Nat.lt_succ_iff]

/-! ## What MACHINE-WRITE makes of a record (05 R125, R126) -/

/-- A named status VACANT clears the record (05 R126). -/
theorem MachineRecord.write_vacant {now period mask : Nat} {clockSet : Bool} {v : MachineValues} {r : MachineRecord}
    (named : mask.testBit 0 = true) (vacant : v.status = 0) :
    r.write now clockSet period mask v = { recordPeriod := period } := by
  unfold MachineRecord.write
  exact if_pos ⟨named, (machineStatusCode_vacant _).2 vacant⟩

/-- A named hour baseline, present or not, by field (05 R125). -/
theorem MachineRecord.rebase_named (now : Nat) (clockSet b : Bool) (baseline : Option Nat) (r : MachineRecord) :
    (if b = true then r.rebase now clockSet baseline else r) =
      { r with lastReading := if b then baseline else r.lastReading
               readingTime := if b && baseline.isSome then now else r.readingTime
               timed := if b && baseline.isSome then clockSet else r.timed } := by
  cases b <;> cases baseline <;> rfl

/-- To set a part of a record or leave the record as it is, is to set the part to a choice. -/
theorem MachineRecord.ite_set {α : Type} (set : α → MachineRecord → MachineRecord) (get : MachineRecord → α) (b : Bool)
    (x : α) (r : MachineRecord) (kept : set (get r) r = r) :
    (if b = true then set x r else r) = set (if b = true then x else get r) r := by
  cases b
  · exact kept.symm
  · rfl

theorem MachineRecord.ite_interval (r : MachineRecord) (b : Bool) (n : Nat) :
    (if b = true then { r with serviceInterval := n, overdue := false } else r) =
      { r with serviceInterval := if b = true then n else r.serviceInterval
               overdue := if b = true then false else r.overdue } := by
  cases b <;> rfl

theorem MachineRecord.ite_hours (r : MachineRecord) (b : Bool) (n : Nat) :
    (if b = true then { r with hoursSinceService := n, overdue := false } else r) =
      { r with hoursSinceService := if b = true then n else r.hoursSinceService
               overdue := if b = true then false else r.overdue } := by
  cases b <;> rfl

/-- Every other write sets exactly the named fields (05 R125). -/
theorem MachineRecord.write_fields {now period mask : Nat} {clockSet : Bool} {v : MachineValues} {r : MachineRecord}
    (stays : mask.testBit 0 = false ∨ v.status ≠ 0) (inRange : mask.testBit 0 = true → v.status ≤ 2) :
    let b := fun n => mask.testBit n
    r.write now clockSet period mask v =
      { r with
        status := if b 0 then (if v.status = 1 then .active else .barred) else r.status
        permitted := if b 1 then BitVec.ofNat 8 v.permitted else r.permitted
        fuelCapacity := if b 2 then v.fuelCapacity else r.fuelCapacity
        serviceInterval := if b 3 then v.serviceInterval else r.serviceInterval
        hoursSinceService := if b 4 then v.hoursSinceService else r.hoursSinceService
        overdue := if b 3 || b 4 then false else r.overdue
        lastReading := if b 5 then v.hourBaseline else r.lastReading
        readingTime := if b 5 && v.hourBaseline.isSome then now else r.readingTime
        timed := if b 5 && v.hourBaseline.isSome then clockSet else r.timed
        burnAverage := if b 6 then v.burnAverage else r.burnAverage } := by
  intro b
  have notVacant : ¬ (b 0 = true ∧ machineStatusCode v.status = some .vacant) := fun ⟨named, code⟩ => by
    rcases stays with unnamed | present
    · exact Bool.eq_false_iff.1 unnamed named
    · exact present ((machineStatusCode_vacant _).1 code)
  have status : (if b 0 = true then (machineStatusCode v.status).getD r.status else r.status)
      = if b 0 = true then (if v.status = 1 then .active else .barred) else r.status := by
    split
    case isTrue named =>
      rcases stays with unnamed | present
      · exact absurd named (Bool.eq_false_iff.1 unnamed)
      · rw [machineStatusCode_present present (inRange named)]; rfl
    case isFalse => rfl
  have overdue : (if b 4 = true then false else if b 3 = true then false else r.overdue)
      = if (b 3 || b 4) = true then false else r.overdue := by
    cases b 3 <;> cases b 4 <;> rfl
  unfold MachineRecord.write masked
  rw [if_neg notVacant, ← status, ← overdue]
  extract_lets r1 r2 r3 r4 r5 r6
  have set1 : r1 = { r with status := _ } :=
    MachineRecord.ite_set (fun x r => { r with status := x }) MachineRecord.status _ _ r rfl
  have set2 : r2 = { r1 with permitted := _ } :=
    MachineRecord.ite_set (fun x r => { r with permitted := x }) MachineRecord.permitted _ _ r1 rfl
  have set3 : r3 = { r2 with fuelCapacity := _ } :=
    MachineRecord.ite_set (fun x r => { r with fuelCapacity := x }) MachineRecord.fuelCapacity _ _ r2 rfl
  have set4 : r4 = { r3 with serviceInterval := _, overdue := _ } := r3.ite_interval _ _
  have set5 : r5 = { r4 with hoursSinceService := _, overdue := _ } := r4.ite_hours _ _
  have set6 : r6 = { r5 with lastReading := _, readingTime := _, timed := _ } := r5.rebase_named _ _ _ _
  have set7 := MachineRecord.ite_set (fun x r => { r with burnAverage := x }) MachineRecord.burnAverage (b 6)
    v.burnAverage r6 rfl
  refine set7.trans ?_
  clear_value r1 r2 r3 r4 r5 r6
  subst set6 set5 set4 set3 set2 set1
  rfl

/-! ## The two requests (05 R123, R124) -/

/-- A record is rolled and written in one move. -/
theorem State.writeMachine_eq (mask : Nat) (v : MachineValues) (m : Fin 512) (s : State) :
    s.writeMachine mask v m =
      { s with machines := s.machines.set m (((s.machine m).roll s.period.number).write s.period.clock
                 s.period.clockSet s.period.number mask v) } := by
  simp [State.writeMachine, State.rollMachine, State.modMachine, State.setMachines, State.machine, State.now]

/-- MACHINE-READ of a machine hands its rolled record on. -/
theorem machineRead_machine (m : Fin 512) (s : State) :
    let r := (s.machine m).roll s.period.number
    machineRead m.val s =
      (accept (.machine ⟨r, s.engagedLanes m, r.serviceState⟩), { s with machines := s.machines.set m r }) := by
  have rolled : (s.rollMachine m).machine m = (s.machine m).roll s.period.number :=
    State.machine_modMachine_same m _ s
  unfold machineRead
  rw [machineNumber_val]
  dsimp only
  rw [rolled]
  rfl

section
variable {f : MachineWriteFields} {m : Fin 512} {s : State}

/-- A MACHINE-WRITE whose named fields are in range turns on the engagement alone. -/
theorem machineWrite_inRange (machine : f.machine = m.val) (names : namesWritable f.mask = true)
    (inRange : maskedInRange f.mask f.values = true) :
    machineWrite f s =
      if s.engaged m = true then (refuse .engaged, s) else (accept, s.writeMachine f.mask f.values m) := by
  unfold machineWrite
  rw [machine, machineNumber_val, names, inRange]
  rfl

theorem machineWrite_range
    (out : 511 < f.machine ∨ namesWritable f.mask = false ∨ maskedInRange f.mask f.values = false) :
    machineWrite f s = (refuse .range, s) := by
  unfold machineWrite
  rcases out with high | unnamed
  · rw [machineNumber_eq_none high]
  · have fails : (!(namesWritable f.mask && maskedInRange f.mask f.values)) = true := by
      rcases unnamed with none | bad
      · rw [none]; rfl
      · rw [bad, Bool.and_false]; rfl
    cases machineNumber f.machine with
    | none => rfl
    | some m => exact if_pos fails
end

end Sys2Proof.Machine

namespace Sys2Proof
open Sys2Proof.Machine

/-- Settles O29: a read is the roll and a view of the rolled record; a write in range turns on the engagement, and is
the roll and the record's write. -/
theorem machineReadAndWrite : Obligations.MachineReadAndWrite := by
  refine ⟨fun tag n s ready high => ?_, fun tag m s ready => ?_,
    fun tag f m s ready machine names status permitted capacity interval hours baseline burn => ?_,
    fun tag f s ready out => ?_⟩
  · refine event_request_exact ready _ _ _ _ ready.1 ?_
    unfold machineRead
    rw [machineNumber_eq_none high]
    rfl
  · exact ⟨_, _, event_request_exact ready _ _ _ _ ready.1 (machineRead_machine m s), s.mem_engagedLanes m,
      MachineRecord.serviceState_noService _, MachineRecord.serviceState_ok _, MachineRecord.serviceState_overdue _⟩
  · have write := machineWrite_inRange (s := s) machine ((namesWritable_iff _).2 names)
      ((maskedInRange_iff _ _).2 ⟨status, permitted, capacity, interval, hours, baseline, burn⟩)
    refine ⟨fun engaged => ?_, fun free => ?_⟩
    · rw [if_pos ((s.engaged_iff m).2 engaged)] at write
      exact event_request_exact ready _ _ _ _ ready.1 write
    · have unengaged : ¬ s.engaged m = true := fun engaged => by
        obtain ⟨i, held, same⟩ := (s.engaged_iff m).1 engaged
        exact free i held same
      rw [if_neg unengaged, State.writeMachine_eq] at write
      refine ⟨fun named vacant => ?_, fun stays => ?_⟩
      · rw [MachineRecord.write_vacant named vacant] at write
        exact event_request_exact ready _ _ _ _ ready.1 write
      · rw [MachineRecord.write_fields stays status] at write
        exact event_request_exact ready _ _ _ _ ready.1 write
  · refine event_request_exact ready _ _ _ _ ready.1 (machineWrite_range ?_)
    rcases out with high | none | out
    · exact Or.inl high
    · exact Or.inr (Or.inl (Bool.eq_false_iff.2 fun c => (namesWritable_iff _).1 c none))
    · refine Or.inr (Or.inr (Bool.eq_false_iff.2 fun inRange => ?_))
      obtain ⟨status, permitted, capacity, interval, hours, baseline, burn⟩ := (maskedInRange_iff _ _).1 inRange
      rcases out with ⟨b, h⟩ | ⟨b, h⟩ | ⟨b, h⟩ | ⟨b, h⟩ | ⟨b, h⟩ | ⟨b, n, present, h⟩ | ⟨b, h⟩
      · exact absurd (status b) (by omega)
      · exact absurd (permitted b) (by omega)
      · exact absurd (capacity b) (by omega)
      · exact absurd (interval b) (by omega)
      · exact absurd (hours b) (by omega)
      · exact absurd (baseline b n present) (by omega)
      · exact absurd (burn b) (by omega)

end Sys2Proof
end

section
/-! PROOFS. PATTERN-LOAD and GROUP-APPLY (O30): the walk over a group writes each member once, and which members it
writes is decided by the lanes, which it leaves alone. -/
namespace Sys2Proof.Machine

/-! ## Parts that differ in their machine records alone -/

/-- From s to t nothing but machine records has changed. -/
def State.machinesMoved (s t : State) : Prop := t = { s with machines := t.machines }

theorem State.machinesMoved_refl (s : State) : s.machinesMoved s := rfl

theorem State.machinesMoved.trans {s t u : State} (a : s.machinesMoved t) (b : t.machinesMoved u) :
    s.machinesMoved u := by
  unfold State.machinesMoved at *
  rw [b, a]

theorem State.writeMachine_machinesMoved (mask : Nat) (v : MachineValues) (m : Fin 512) (s : State) :
    s.machinesMoved (s.writeMachine mask v m) := rfl

theorem State.machinesMoved.engaged {s t : State} (moved : s.machinesMoved t) (m : Fin 512) :
    t.engaged m = s.engaged m := by
  rw [moved]
  rfl

theorem State.machinesMoved.period {s t : State} (moved : s.machinesMoved t) : t.period = s.period := by
  rw [moved]

/-! ## One write (05 R128) -/

theorem State.machine_writeMachine_same (mask : Nat) (v : MachineValues) (m : Fin 512) (s : State) :
    (s.writeMachine mask v m).machine m =
      ((s.machine m).roll s.period.number).write s.period.clock s.period.clockSet s.period.number mask v := by
  unfold State.writeMachine
  rw [State.machine_modMachine_same]
  exact congrArg _ (State.machine_modMachine_same m _ s)

theorem State.machine_writeMachine_ne {m n : Fin 512} (other : n ≠ m) (mask : Nat) (v : MachineValues) (s : State) :
    (s.writeMachine mask v m).machine n = s.machine n :=
  (State.machine_modMachine_ne m n other _ _).trans (State.machine_modMachine_ne m n other _ s)

/-! ## The walk over a group -/

/-- The pattern is applied to one member of a group, if the mask names it and it is not engaged (05 R128). -/
def State.applyToMember (p : PatternFields) (base members : Nat) (i : Fin 8) (t : State) : State :=
  if members.testBit i.val ∧ t.engaged (groupMember base i) = false then
    t.writeMachine p.mask p.values (groupMember base i)
  else t

theorem State.applyPattern_eq (p : PatternFields) (base members : Nat) (s : State) :
    s.applyPattern p base members = eachOfEight (State.applyToMember p base members) s := rfl

/-- A group holds each of its members once: 8 numbers in a row differ modulo 512. -/
theorem groupMember_injective (base : Nat) : Function.Injective (groupMember base) := fun i j same => by
  have same : (base + i.val) % 512 = (base + j.val) % 512 := congrArg Fin.val same
  exact Fin.ext (by omega)

section
variable {p : PatternFields} {base members : Nat}

theorem State.applyToMember_machinesMoved (i : Fin 8) (t : State) :
    t.machinesMoved (t.applyToMember p base members i) := by
  unfold State.applyToMember
  split
  · exact t.writeMachine_machinesMoved ..
  · exact t.machinesMoved_refl

/-- A member's part of the walk leaves every other machine as it is. -/
theorem State.machine_applyToMember_ne {i : Fin 8} {m : Fin 512} (other : m ≠ groupMember base i) (t : State) :
    (t.applyToMember p base members i).machine m = t.machine m := by
  unfold State.applyToMember
  split
  · exact State.machine_writeMachine_ne other ..
  · rfl

theorem State.applyToMember_skipped {i : Fin 8} {t : State}
    (skipped : members.testBit i.val = false ∨ t.engaged (groupMember base i) = true) :
    t.applyToMember p base members i = t := by
  unfold State.applyToMember
  refine if_neg fun ⟨named, free⟩ => ?_
  rcases skipped with unnamed | engaged
  · exact Bool.eq_false_iff.1 unnamed named
  · exact Bool.eq_false_iff.1 free engaged

theorem State.applyPattern_machinesMoved (s : State) : s.machinesMoved (s.applyPattern p base members) :=
  eachOfEight_induction (P := s.machinesMoved) _ (fun i t moved => moved.trans (t.applyToMember_machinesMoved i))
    s.machinesMoved_refl

/-- A machine that is no applied member stays as it is. -/
theorem State.machine_applyPattern_other {m : Fin 512} {s : State}
    (skipped : ∀ i, groupMember base i = m → members.testBit i.val = false ∨ s.engaged m = true) :
    (s.applyPattern p base members).machine m = s.machine m := by
  have walk := eachOfEight_induction (P := fun t => s.machinesMoved t ∧ t.machine m = s.machine m)
    (State.applyToMember p base members) (fun i t ⟨moved, kept⟩ => ?_) ⟨s.machinesMoved_refl, rfl⟩
  · exact walk.2
  · refine ⟨moved.trans (t.applyToMember_machinesMoved i), ?_⟩
    by_cases here : groupMember base i = m
    · rw [State.applyToMember_skipped (by rw [moved.engaged, here]; exact skipped i here)]
      exact kept
    · rw [State.machine_applyToMember_ne (Ne.symm here)]
      exact kept

end

/-- What unit i's part of a walk makes of a reading that no other unit's part changes, the walk makes of it; the parts
may rely on what each of them keeps. -/
theorem eachOfEight_at {α : Type} {P : State → Prop} (π : State → α) (g : α → α) (f : Fin 8 → State → State) (i : Fin 8)
    (keeps : ∀ j t, P t → P (f j t)) (here : ∀ t, P t → π (f i t) = g (π t))
    (others : ∀ j t, j ≠ i → π (f j t) = π t) {s : State} (start : P s) : π (eachOfEight f s) = g (π s) := by
  have walk : ∀ (l : List (Fin 8)) (t : State), l.Nodup → P t →
      π (l.foldl (fun t j => f j t) t) = if i ∈ l then g (π t) else π t := by
    intro l
    induction l with
    | nil => exact fun _ _ _ => rfl
    | cons j l ih =>
      intro t nodup law
      obtain ⟨fresh, nodup⟩ := List.nodup_cons.1 nodup
      rw [List.foldl_cons, ih _ nodup (keeps j t law)]
      by_cases hj : j = i
      · subst hj
        rw [if_neg fresh, if_pos List.mem_cons_self, here t law]
      · rw [others j t hj]
        simp only [List.mem_cons, Ne.symm hj, false_or]
  exact (walk eightNumbers s eightNumbers_nodup start).trans (if_pos (mem_eightNumbers i))

/-- A named member that is not engaged is rolled and written, once. -/
theorem State.machine_applyPattern_applied {p : PatternFields} {base members : Nat} {i : Fin 8} {s : State}
    (named : members.testBit i.val = true) (free : s.engaged (groupMember base i) = false) :
    (s.applyPattern p base members).machine (groupMember base i) =
      ((s.machine (groupMember base i)).roll s.period.number).write s.period.clock s.period.clockSet s.period.number
        p.mask p.values := by
  refine eachOfEight_at (P := s.machinesMoved) (fun t => t.machine (groupMember base i))
    (fun r => (r.roll s.period.number).write s.period.clock s.period.clockSet s.period.number p.mask p.values)
    (State.applyToMember p base members) i (fun j t moved => moved.trans (t.applyToMember_machinesMoved j))
    (fun t moved => ?_)
    (fun j t other => State.machine_applyToMember_ne (fun same => other (groupMember_injective base same).symm) t)
    s.machinesMoved_refl
  have written : t.applyToMember p base members i = t.writeMachine p.mask p.values (groupMember base i) :=
    if_pos ⟨named, (moved.engaged _).trans free⟩
  rw [written, State.machine_writeMachine_same, moved.period]

/-! ## The two requests (05 R127, R128) -/

theorem patternLoad_range {f : PatternFields} {s : State}
    (out : namesWritable f.mask = false ∨ maskedInRange f.mask f.values = false) :
    patternLoad f s = (refuse .range, s) := by
  unfold patternLoad
  refine if_neg (Bool.eq_false_iff.1 ?_)
  rcases out with none | bad
  · rw [none]; rfl
  · rw [bad, Bool.and_false]

section
variable {f : GroupFields} {s : State}

theorem groupApply_noPattern (aligned : f.base % 8 = 0) (inRange : f.base ≤ 504) (none : s.pattern = none) :
    groupApply f s = (refuse .noPattern, s) := by
  unfold groupApply
  rw [if_neg (by omega), none]

theorem groupApply_pattern {p : PatternFields} (aligned : f.base % 8 = 0) (inRange : f.base ≤ 504)
    (held : s.pattern = some p) :
    groupApply f s =
      (accept (.masks (maskOf fun i => f.members.testBit i.val && !s.engaged (groupMember f.base i))
        (maskOf fun i => f.members.testBit i.val && s.engaged (groupMember f.base i))),
        s.applyPattern p f.base f.members) := by
  unfold groupApply
  rw [if_neg (by omega), held]
end

end Sys2Proof.Machine

namespace Sys2Proof
open Sys2Proof.Machine

/-- Settles O30: a pattern in range is held; a group's walk writes exactly its named members that are not engaged. -/
theorem patternAppliedToGroup : Obligations.PatternAppliedToGroup := by
  refine ⟨fun tag f s ready => ⟨fun ⟨names, inRange⟩ => ?_, fun out => ?_⟩,
    fun tag f s ready => ⟨fun out => ?_, fun aligned inRange none => ?_, fun pattern aligned inRange held => ?_⟩⟩
  · refine event_request_exact ready _ _ _ _ ready.1 ?_
    unfold patternLoad
    rw [names, inRange]
    rfl
  · exact event_request_exact ready _ _ _ _ ready.1 (patternLoad_range out)
  · exact event_request_exact ready _ _ _ _ ready.1 (if_pos out)
  · exact event_request_exact ready _ _ _ _ ready.1 (groupApply_noPattern aligned inRange none)
  · have running : (s.applyPattern pattern f.base f.members).power = .running :=
      (congrArg State.power s.applyPattern_machinesMoved).trans ready.1
    exact ⟨_, _, _, event_request_exact ready _ _ _ _ running
      (groupApply_pattern aligned inRange held), s.applyPattern_machinesMoved,
      fun i => ⟨maskOf_getLsbD _ i, maskOf_getLsbD _ i⟩, fun i => State.machine_applyPattern_applied,
      fun m => State.machine_applyPattern_other⟩

end Sys2Proof
end

section
/-! PROOFS. The journal's numbering under commits and releases, and its reservations counted on the lanes (06 R129 to
R131). -/
namespace Sys2Proof.Machine
set_option Elab.async false

/-! ## Numbers in the order of assignment (06 R130) -/

theorem consecutive_cons (a : Nat) (l : List Nat) :
    consecutive (a :: l) ↔ (∀ b, l.head? = some b → b = nextSeq a) ∧ consecutive l := by
  cases l with
  | nil => simp [consecutive]
  | cons b rest => simp [consecutive]

/-- The number that follows the last one may join. -/
theorem consecutive_concat {l : List Nat} {n : Nat} (run : consecutive l)
    (follows : ∀ a, l.getLast? = some a → n = nextSeq a) : consecutive (l ++ [n]) := by
  induction l with
  | nil => trivial
  | cons a l ih =>
    obtain ⟨head, rest⟩ := (consecutive_cons a l).1 run
    refine (consecutive_cons a (l ++ [n])).2 ⟨fun b first => ?_, ih rest fun c last => ?_⟩
    · cases l with
      | nil => simp_all
      | cons c l => exact head b (by simpa using first)
    · exact follows c (by rw [List.getLast?_cons, last]; rfl)

theorem consecutive_of_suffix {k l : List Nat} (suffix : k <:+ l) (run : consecutive l) : consecutive k := by
  obtain ⟨before, rfl⟩ := suffix
  induction before with
  | nil => exact run
  | cons a before ih => exact ih ((consecutive_cons a _).1 run).2

/-! ## Commits and releases (06 R133, R142) -/

theorem recordsAfter_suffix (n : Nat) (l : List JournalRecord) : recordsAfter n l <:+ l := by
  induction l with
  | nil => exact List.suffix_rfl
  | cons r l ih =>
    unfold recordsAfter
    split
    · exact List.suffix_cons r l
    · exact ih.trans (List.suffix_cons r l)

/-- A release keeps the newest records, the last number and the reservations. -/
theorem Journal.release_keeps (n : Nat) (j : Journal) :
    (j.release n).records <:+ j.records ∧ (j.release n).lastSeq = j.lastSeq
      ∧ (j.release n).reserved = j.reserved := by
  unfold Journal.release
  split
  · exact ⟨recordsAfter_suffix n j.records, rfl, rfl⟩
  · exact ⟨List.suffix_rfl, rfl, rfl⟩

theorem Journal.numbered.commit {j : Journal} (numbered : j.numbered) (r : JournalRecord) (period : Nat) :
    (j.commit r period).numbered := by
  obtain ⟨run, last⟩ := numbered
  refine ⟨?_, fun x newest => ?_⟩
  · show consecutive ((j.records ++ [_]).map JournalRecord.seq)
    rw [List.map_append]
    refine consecutive_concat run fun a newest => ?_
    rw [List.getLast?_map] at newest
    obtain ⟨x, mem, rfl⟩ := Option.map_eq_some_iff.1 newest
    rw [last x mem]
  · have here : (j.records ++ [{ r with seq := nextSeq j.lastSeq, period := period }]).getLast? = some x := newest
    rw [List.getLast?_concat, Option.some.injEq] at here
    subst here; rfl

theorem Journal.numbered.release {j : Journal} (numbered : j.numbered) (n : Nat) : (j.release n).numbered := by
  obtain ⟨run, last⟩ := numbered
  obtain ⟨suffix, lastSeq, -⟩ := j.release_keeps n
  refine ⟨consecutive_of_suffix (suffix.map _) run, fun r newest => ?_⟩
  rw [lastSeq]
  obtain ⟨before, split⟩ := suffix
  refine last r ?_
  rw [← split, List.getLast?_append, newest]
  rfl

/-! ## Reservations on the lanes (06 R131) -/

/-- From s to t lane i alone gives up its reservation. -/
structure State.placeFreed (i : Fin 8) (s t : State) : Prop where
  was : (s.lane i).state.holdsReservation = true
  now : (t.lane i).state.holdsReservation = false
  others : ∀ j, j ≠ i → (t.lane j).state.holdsReservation = (s.lane j).state.holdsReservation

theorem State.placeFreed.reservingLanes {i : Fin 8} {s t : State} (freed : State.placeFreed i s t) :
    s.reservingLanes = t.reservingLanes + 1 := by
  have others : (eightNumbers.erase i).countP (fun j => (s.lane j).state.holdsReservation) =
      (eightNumbers.erase i).countP fun j => (t.lane j).state.holdsReservation :=
    List.countP_congr fun j mem => by rw [freed.others j (eightNumbers_nodup.mem_erase_iff.1 mem).1]
  unfold State.reservingLanes
  rw [← List.countP_eq_length_filter, ← List.countP_eq_length_filter,
    (List.perm_cons_erase (mem_eightNumbers i)).countP_eq, (List.perm_cons_erase (mem_eightNumbers i)).countP_eq,
    List.countP_cons, List.countP_cons, others, freed.was, freed.now]
  rfl

/-- A change of one lane by which it comes to hold no reservation frees its place alone. -/
theorem State.placeFreed_modLane (i : Fin 8) (f : Lane → Lane) (s : State)
    (was : (s.lane i).state.holdsReservation = true) (now : (f (s.lane i)).state.holdsReservation = false) :
    State.placeFreed i s (s.modLane i f) where
  was := was
  now := by rw [State.lane_modLane_same]; exact now
  others j hj := by rw [State.lane_modLane_ne _ _ hj]

/-! ## The law of the journal -/

/-- The reservations are those of the lanes, the places suffice, and the held records run up to the last number. -/
structure State.journalLaw (s : State) : Prop where
  balanced : s.journalBalanced
  numbered : s.journal.numbered

/-- From s to t the journal is as it was and every lane holds a reservation that held one. -/
structure State.journalQuiet (s t : State) : Prop where
  journal : t.journal = s.journal
  lanes : ∀ i, (t.lane i).state.holdsReservation = (s.lane i).state.holdsReservation

theorem State.journalQuiet_refl (s : State) : s.journalQuiet s := ⟨rfl, fun _ => rfl⟩

theorem State.journalQuiet.trans {s t u : State} (a : s.journalQuiet t) (b : t.journalQuiet u) : s.journalQuiet u :=
  ⟨b.journal.trans a.journal, fun i => (b.lanes i).trans (a.lanes i)⟩

theorem State.journalQuiet_of_frame {s t : State} (lanes : t.lanes = s.lanes := by simp)
    (journal : t.journal = s.journal := by simp) : s.journalQuiet t :=
  ⟨journal, fun i => by rw [State.lane_congr i s t lanes]⟩

theorem State.journalQuiet.reservingLanes {s t : State} (q : s.journalQuiet t) :
    t.reservingLanes = s.reservingLanes := by
  unfold State.reservingLanes
  simp only [q.lanes]

/-- Quiet moves keep the law. -/
theorem State.journalQuiet.keeps {s t : State} (q : s.journalQuiet t) (law : s.journalLaw) : t.journalLaw := by
  obtain ⟨⟨count, room⟩, numbered⟩ := law
  refine ⟨⟨?_, ?_⟩, ?_⟩
  · rw [q.journal, q.reservingLanes]; exact count
  · rw [q.journal]; exact room
  · rw [q.journal]; exact numbered

/-- What leaves lanes and journal alone keeps the law. -/
theorem State.journalLaw.unmoved {s t : State} (law : s.journalLaw) (lanes : t.lanes = s.lanes := by simp)
    (journal : t.journal = s.journal := by simp) : t.journalLaw := (State.journalQuiet_of_frame lanes journal).keeps law

/-- A lane gives up its reservation and the journal frees its place (06 R131). -/
theorem State.journalLaw.withdrawn {s t : State} {i : Fin 8} (law : s.journalLaw) (freed : State.placeFreed i s t)
    (journal : t.journal = s.journal.withdraw) : t.journalLaw := by
  obtain ⟨⟨count, room⟩, numbered⟩ := law
  have lanes := freed.reservingLanes
  have reserved : t.journal.reserved = s.journal.reserved - 1 := by rw [journal]; rfl
  have held : t.journal.held = s.journal.held := by rw [journal]; rfl
  refine ⟨⟨by omega, by omega⟩, ?_⟩
  rw [journal]; exact numbered

/-- A lane gives up its reservation to the record that is committed (06 R133). -/
theorem State.journalLaw.recorded {s t : State} {i : Fin 8} {r : JournalRecord} {period : Nat} (law : s.journalLaw)
    (freed : State.placeFreed i s t) (journal : t.journal = s.journal.commit r period) : t.journalLaw := by
  obtain ⟨⟨count, room⟩, numbered⟩ := law
  have lanes := freed.reservingLanes
  have reserved : t.journal.reserved = s.journal.reserved - 1 := by rw [journal]; rfl
  have held : t.journal.held = s.journal.held + 1 := by
    rw [journal]; simp [Journal.held, Journal.commit]
  refine ⟨⟨by omega, by omega⟩, ?_⟩
  rw [journal]; exact numbered.commit r period

/-- A lane takes a reservation where a place is free (06 R131). -/
theorem State.journalLaw.reserved {s t : State} {i : Fin 8} (law : s.journalLaw) (taken : State.placeFreed i t s)
    (journal : t.journal = s.journal.reserve) (place : s.journal.free ≠ 0) : t.journalLaw := by
  obtain ⟨⟨count, room⟩, numbered⟩ := law
  have lanes := taken.reservingLanes
  have reserved : t.journal.reserved = s.journal.reserved + 1 := by rw [journal]; rfl
  have held : t.journal.held = s.journal.held := by rw [journal]; rfl
  have free : 0 < 2048 - s.journal.held - s.journal.reserved := Nat.pos_of_ne_zero place
  refine ⟨⟨by omega, by omega⟩, ?_⟩
  rw [journal]; exact numbered

/-- Records released leave more room (06 R142). -/
theorem State.journalLaw.released {s t : State} (law : s.journalLaw) (n : Nat)
    (lanes : t.lanes = s.lanes := by simp) (journal : t.journal = s.journal.release n := by simp) : t.journalLaw := by
  obtain ⟨⟨count, room⟩, numbered⟩ := law
  obtain ⟨suffix, -, reserved⟩ := s.journal.release_keeps n
  have fewer : (s.journal.release n).held ≤ s.journal.held := suffix.length_le
  have places : t.reservingLanes = s.reservingLanes := by
    unfold State.reservingLanes
    simp only [fun i => State.lane_congr i s t lanes]
  refine ⟨⟨?_, ?_⟩, ?_⟩
  · rw [journal, reserved, places]; exact count
  · rw [journal, reserved]; omega
  · rw [journal]; exact numbered.release n

end Sys2Proof.Machine
end

section
/-! PROOFS. The pumps, the tanks, the lanes that end and shutdown entry under the law of the journal (06 R131, R133). -/
namespace Sys2Proof.Machine
set_option Elab.async false

/-! ## Moves that keep every reservation -/

/-- A change of one lane that keeps its reservation is quiet. -/
theorem State.modLane_journalQuiet (i : Fin 8) (f : Lane → Lane) (s : State)
    (same : (f (s.lane i)).state.holdsReservation = (s.lane i).state.holdsReservation := by exact rfl) :
    s.journalQuiet (s.modLane i f) where
  journal := rfl
  lanes j := by
    by_cases hj : j = i
    · subst hj; rw [State.lane_modLane_same, same]
    · rw [State.lane_modLane_ne _ _ hj]

/-- A header's move touches the lanes' grants alone. -/
theorem State.headerMoved.journalQuiet {h : Fin 6} {s t : State} (m : s.headerMoved h t) : s.journalQuiet t :=
  ⟨by rw [m.rest], fun i => by rw [(m.lanes i).state_eq]⟩

theorem eachOfEight_journalQuiet (f : Fin 8 → State → State) (quiet : ∀ i (s : State), s.journalQuiet (f i s))
    (s : State) : s.journalQuiet (eachOfEight f s) :=
  eachOfEight_induction (P := s.journalQuiet) f (fun i t before => before.trans (quiet i t)) s.journalQuiet_refl

theorem eachOfSix_journalQuiet (f : Fin 6 → State → State) (quiet : ∀ h (s : State), s.journalQuiet (f h s))
    (s : State) : s.journalQuiet (eachOfSix f s) := by
  have walk : ∀ (l : List (Fin 6)) (t : State), t.journalQuiet (l.foldl (fun t h => f h t) t) := by
    intro l
    induction l with
    | nil => exact State.journalQuiet_refl
    | cons h l ih => exact fun t => (quiet h t).trans (ih _)
  exact walk sixNumbers s

/-! ## Pumps, passes and endings sent -/

theorem State.notify_journalQuiet (b : NoticeBody) (s : State) : s.journalQuiet (s.notify b) :=
  State.journalQuiet_of_frame

theorem State.grantPass_journalQuiet (h : Fin 6) (s : State) : s.journalQuiet (s.grantPass h) :=
  (State.grantPass_headerMoved h s).journalQuiet

theorem State.setPump_journalQuiet (h : Fin 6) (p : PumpState) (a b : Option Timer) (s : State) :
    s.journalQuiet (s.setPump h p a b) := (State.setPump_headerMoved h p a b s).journalQuiet

theorem State.demandLeft_journalQuiet (h : Fin 6) (s : State) : s.journalQuiet (s.demandLeft h) :=
  (State.demandLeft_headerMoved h s).journalQuiet

theorem serveHeads_journalQuiet (l : List (Fin 6)) (s : State) : s.journalQuiet (serveHeads l s) := by
  induction l generalizing s with
  | nil => exact s.journalQuiet_refl
  | cons h rest ih =>
    unfold serveHeads
    split
    · exact (State.startPump_headerMoved h s).journalQuiet.trans (ih _)
    · exact s.journalQuiet_refl

theorem State.testSlot_journalQuiet (s : State) : s.journalQuiet s.testSlot := serveHeads_journalQuiet _ s

theorem State.joinQueue_journalQuiet (h : Fin 6) (s : State) : s.journalQuiet (s.joinQueue h) := by
  have queued := (State.queued_headerMoved h s).journalQuiet
  rw [State.joinQueue_eq]
  split
  · exact queued.trans (serveHeads_journalQuiet _ _)
  · exact queued

theorem State.demandAppeared_journalQuiet (h : Fin 6) (had : Bool) (s : State) :
    s.journalQuiet (s.demandAppeared h had) := by
  unfold State.demandAppeared
  split
  · exact State.grantPass_journalQuiet h s
  · split
    · exact State.joinQueue_journalQuiet h s
    · exact State.setPump_journalQuiet ..
    all_goals exact State.grantPass_journalQuiet h s

/-- An ending sent to lanes is a mark beside their state. -/
theorem State.sendEnding_journalQuiet (p : Fin 6) (mark : Lane → Lane) (same : ∀ l, (mark l).state = l.state)
    (s : State) : s.journalQuiet (s.sendEnding p mark) := by
  refine eachOfEight_journalQuiet _ (fun i t => ?_) s
  split
  · exact State.modLane_journalQuiet i mark t (by rw [same])
  · exact t.journalQuiet_refl

theorem State.failPump_journalQuiet (h : Fin 6) (reason : PumpReason) (s : State) :
    s.journalQuiet (s.failPump h reason) := by
  have failed : s.journalQuiet (s.modHeader h fun k => { k with pump := .failed, proving := none, runOn := none }) :=
    State.journalQuiet_of_frame
  exact ((failed.trans
    (State.sendEnding_journalQuiet h (fun l => { l with pumpEnding := true }) (fun _ => rfl) _)).trans
    (State.grantPass_journalQuiet h _)).trans (State.notify_journalQuiet _ _)

theorem State.stopHeaders_journalQuiet (s : State) : s.journalQuiet s.stopHeaders :=
  eachOfSix_journalQuiet _ (fun h t => (State.stopHeader_headerMoved h t).journalQuiet) s

/-! ## The stock band (04 R91) -/

theorem State.evaluateBand_journalQuiet (t : Fin 8) (s : State) : s.journalQuiet (s.evaluateBand t) := by
  unfold State.evaluateBand
  extract_lets k band s1 s2
  have banded : s.journalQuiet s1 := State.journalQuiet_of_frame (t := s1) rfl rfl
  clear_value s1
  have sent : s1.journalQuiet s2 := by
    unfold s2
    split
    · refine State.journalQuiet.trans ?_ (State.notify_journalQuiet _ _)
      split
      · exact State.sendEnding_journalQuiet _ (fun l => { l with tankLowEnding := true }) (fun _ => rfl) s1
      · exact s1.journalQuiet_refl
    · exact s1.journalQuiet_refl
  split
  · exact banded.trans sent
  · split
    · exact (banded.trans sent).trans (State.grantPass_journalQuiet _ s2)
    · exact banded.trans sent

theorem State.debitLane_journalQuiet (i : Fin 8) (net : Nat) (s : State) : s.journalQuiet (s.debitLane i net) := by
  unfold State.debitLane
  split
  · exact (State.journalQuiet_of_frame (t := s.modTank _ (Tank.debit net))).trans (State.evaluateBand_journalQuiet _ _)
  · exact s.journalQuiet_refl

/-! ## Lanes that close, withdraw and commit (01 R13, R23, R24) -/

/-- A lane with a demand holds a reservation. -/
theorem LaneState.holdsReservation_of_demands {l : LaneState} (demands : l.demands = true) :
    l.holdsReservation = true := by
  revert demands
  cases l <;> decide

/-- A demanding lane that enters CLOSING keeps its reservation (06 R131). -/
theorem State.closeCore_journalQuiet {i : Fin 8} {s : State} (demands : (s.lane i).state.demands = true)
    (cause : EndCause) : s.journalQuiet (s.closeCore i cause) :=
  (State.modLane_journalQuiet i (Lane.enterClosing cause (s.startTimer 5)) s
    (LaneState.holdsReservation_of_demands demands).symm).trans (State.journalQuiet_of_frame rfl rfl)

theorem State.closeLane_journalQuiet (i : Fin 8) (cause : EndCause) (s : State) :
    s.journalQuiet (s.closeLane i cause) := by
  unfold State.closeLane State.laneDemandLeft
  split
  · rename_i demands
    have closed := State.closeCore_journalQuiet demands cause
    split
    · exact closed.trans (State.demandLeft_journalQuiet _ _)
    · exact closed
  · exact s.journalQuiet_refl

theorem State.journalLaw.withdrawLane {s : State} (law : s.journalLaw) {i : Fin 8}
    (authorised : (s.lane i).state = .authorised) : (s.withdrawLane i).journalLaw := by
  have freed := State.placeFreed_modLane i Lane.toIdle s (by rw [authorised]; rfl) rfl
  exact law.withdrawn (t := s.withdrawLane i) ⟨freed.was, freed.now, freed.others⟩ rfl

theorem Lane.afterCommit_holdsReservation (nozzleOut : Bool) (l : Lane) :
    (l.afterCommit nozzleOut).state.holdsReservation = false := by
  unfold Lane.afterCommit
  split <;> rfl

/-- A commit whose lane leaves its delivery turns the lane's reservation into a record (06 R133). -/
theorem State.journalLaw.commitDelivery {s : State} (law : s.journalLaw) {i : Fin 8} (valveHeld : Bool)
    (holds : (s.lane i).state.holdsReservation = true) (f : Lane → Lane)
    (rests : ∀ l, (f l).state.holdsReservation = false) : ((s.commitDelivery i valveHeld).modLane i f).journalLaw := by
  have other : ∀ j, j ≠ i → (s.commitDelivery i valveHeld).lane j = s.lane j := fun j hj => by
    have apart : i.val ≠ j.val := fun e => hj (Fin.ext e.symm)
    rw [State.commitDelivery_eq]
    simp [State.lane, Vector.getElem_set_ne, apart]
  refine law.recorded (i := i) (r := s.buildRecord i valveHeld) (period := s.period.number)
    ⟨holds, ?_, fun j hj => ?_⟩ ?_
  · rw [State.lane_modLane_same]; exact rests _
  · rw [State.lane_modLane_ne _ _ hj, other j hj]
  · rw [State.commitDelivery_eq]; rfl

theorem State.journalLaw.finishClose {s : State} (law : s.journalLaw) {i : Fin 8}
    (closing : (s.lane i).state = .closing) (valveHeld : Bool) : (s.finishClose i valveHeld).journalLaw :=
  law.commitDelivery valveHeld (by rw [closing]; rfl) (fun l => { l.afterCommit l.nozzleOut with leaveReport := true })
    fun l => l.afterCommit_holdsReservation l.nozzleOut

/-! ## The lane stop, shutdown entry and causes (01 R30; 07 R156, R157) -/

theorem State.journalLaw.stopLane {s : State} (law : s.journalLaw) (i : Fin 8) : (s.stopLane i).journalLaw := by
  unfold State.stopLane
  split
  · rename_i authorised; exact law.withdrawLane authorised
  · split
    · rename_i demands; exact (State.closeCore_journalQuiet demands _).keeps law
    · exact law

theorem State.journalLaw.laneStop {s : State} (law : s.journalLaw) : s.laneStop.journalLaw := by
  refine (eachOfSix_journalQuiet _ (fun h t => ?_) _).keeps
    (eachOfEight_induction (P := State.journalLaw) _ (fun i _ kept => State.journalLaw.stopLane kept i) law)
  split
  · exact State.demandLeft_journalQuiet h t
  · exact t.journalQuiet_refl

theorem State.journalLaw.shutLane {s : State} (law : s.journalLaw) (i : Fin 8) : (s.shutLane i).journalLaw := by
  unfold State.shutLane
  split
  · rename_i authorised; exact law.withdrawLane authorised
  · split
    · rename_i demands; exact (State.closeCore_journalQuiet demands _).keeps law
    · exact law

theorem State.journalLaw.shutdownEntry {s : State} (law : s.journalLaw) : s.shutdownEntry.journalLaw := by
  have lanes : s.lanesShut.journalLaw :=
    eachOfEight_induction (P := State.journalLaw) _ (fun i _ kept => State.journalLaw.shutLane kept i)
      (law.unmoved (t := s.modShutdown fun u => { u with bay := .shutting }))
  have units : s.unitsShut.journalLaw :=
    ((State.stopHeaders_journalQuiet _).keeps lanes).unmoved (t := s.lanesShut.stopHeaders.closeInlets)
  rw [State.shutdownEntry_eq]
  split
  · exact units.unmoved
  · exact units

theorem State.journalLaw.raise {s : State} (law : s.journalLaw) (kind : CauseKind) (detail : Mask) :
    (s.raise kind detail).journalLaw := by
  have recorded : (s.recordCause kind detail).journalLaw := law.unmoved
  refine (State.notify_journalQuiet _ _).keeps ?_
  rw [State.entryIfOpen_eq]
  split
  · exact recorded.shutdownEntry
  · exact recorded

theorem State.journalLaw.laneReport {s : State} (law : s.journalLaw) (i : Fin 8) (reason : LockoutReason) :
    (s.laneReport i reason).journalLaw := by
  unfold State.laneReport
  split
  case h_1 | h_2 => exact law.unmoved
  all_goals exact law.raise _ _

end Sys2Proof.Machine
end

section
/-! PROOFS. The events of the lanes, tanks, headers and the Shutdown Unit under the law of the journal. -/
namespace Sys2Proof.Machine
set_option Elab.async false

/-! ## Gauge replies (04 R103) -/

theorem State.journalLaw.leakCheck {s : State} (law : s.journalLaw) (t : Fin 8) (net : Int) :
    (s.leakCheck t net).journalLaw := by
  unfold State.leakCheck
  split
  · exact State.journalLaw.raise (s := s.modTank t fun k => { k with leak := true }) law.unmoved _ _
  · exact law

theorem State.journalLaw.watchCheck {s : State} (law : s.journalLaw) (t : Fin 8) (level : Nat) :
    (s.watchCheck t level).journalLaw := by
  unfold State.watchCheck
  split
  · exact law
  · split
    · exact State.journalLaw.raise (s := s.modTank t fun k => { k with watch := some level }) law.unmoved _ _
    · exact law

theorem State.journalLaw.goodReply {s : State} (law : s.journalLaw) (p : Poll) (r : GaugeReading) :
    (s.goodReply p r).journalLaw := by
  unfold State.goodReply
  extract_lets t net s3 s5
  have compared : s3.journalLaw :=
    State.journalLaw.watchCheck ((law.leakCheck t net).unmoved (t := (s.leakCheck t net).highHighCheck t r.level)) t
      r.level
  have held : s5.journalLaw :=
    (State.evaluateBand_journalQuiet t _).keeps
      (compared.unmoved (t := s3.modTank t (Tank.holdReading r s.now net)))
  exact held.unmoved

theorem State.journalLaw.gaugeReply {s : State} (law : s.journalLaw) (bytes : List Byte) :
    (gaugeReply bytes s).journalLaw := by
  have ended : ∀ t : State, t.journalLaw → t.endPoll.journalLaw := fun _ kept => kept.unmoved
  unfold Machine.gaugeReply
  split
  · exact law
  · split
    · split
      · exact law
      · exact law.unmoved
      · refine ended _ ?_
        split
        · exact law
        · exact law.goodReply _ _
    · exact law

/-! ## Nozzle, timers and endings (01 2.5, 2.6) -/

theorem State.liftExceptions_journalQuiet (i : Fin 8) (p : Fin 6) (s : State) :
    s.journalQuiet (s.liftExceptions i p) := by
  unfold State.liftExceptions
  split
  · exact State.closeLane_journalQuiet i _ s
  · split
    · split
      · exact State.closeLane_journalQuiet i _ s
      · exact s.journalQuiet_refl
    · exact s.journalQuiet_refl

/-- The delivery of an AUTHORISED lane goes on with the reservation of its authorisation (01 R13). -/
theorem State.startDelivery_journalQuiet {i : Fin 8} {s : State} (authorised : (s.lane i).state = .authorised) :
    s.journalQuiet (s.startDelivery i) := by
  unfold State.startDelivery
  split
  · exact s.journalQuiet_refl
  · rename_i p _
    have lifted := State.modLane_journalQuiet i
      (Lane.lifted (s.startTimer ((s.product p).maxOpen * 60)) (s.startTimer 60)) s (by rw [authorised]; rfl)
    exact (lifted.trans (State.demandAppeared_journalQuiet p _ _)).trans (State.liftExceptions_journalQuiet i p _)

theorem nozzleLift_journalQuiet (i : Fin 8) (s : State) : s.journalQuiet (nozzleLift i s) := by
  have out := State.modLane_journalQuiet i (fun l => { l with nozzleOut := true }) s
  unfold nozzleLift
  split
  · exact s.journalQuiet_refl
  · dsimp only
    split
    · rename_i authorised
      exact out.trans (State.startDelivery_journalQuiet (by rw [State.lane_modLane_same]; exact authorised))
    · exact out

theorem nozzleHangup_journalQuiet (i : Fin 8) (s : State) : s.journalQuiet (nozzleHangup i s) := by
  have into := State.modLane_journalQuiet i (fun l => { l with nozzleOut := false }) s
  unfold nozzleHangup
  split
  · dsimp only
    split
    · rename_i done
      refine into.trans (State.modLane_journalQuiet i Lane.toIdle _ ?_)
      rw [State.lane_modLane_same]
      show false = (s.lane i).state.holdsReservation
      rw [done]; rfl
    · exact into.trans (State.closeLane_journalQuiet i _ _)
  · exact s.journalQuiet_refl

theorem State.journalLaw.authorisationExpiry {s : State} (law : s.journalLaw) (i : Fin 8) :
    (authorisationExpiry i s).journalLaw := by
  unfold Machine.authorisationExpiry
  split
  · rename_i expires
    exact (State.notify_journalQuiet _ _).keeps (law.withdrawLane expires.1)
  · exact law

theorem maxOpenExpiry_journalQuiet (i : Fin 8) (s : State) : s.journalQuiet (maxOpenExpiry i s) := by
  unfold maxOpenExpiry
  split
  · exact State.closeLane_journalQuiet i _ s
  · exact s.journalQuiet_refl

theorem State.journalLaw.closeLimitExpiry {s : State} (law : s.journalLaw) (i : Fin 8) :
    (closeLimitExpiry i s).journalLaw := by
  unfold Machine.closeLimitExpiry
  split
  · rename_i expires
    exact (State.modLane_journalQuiet i _ _).keeps (law.finishClose expires.1 true)
  · exact law

theorem creepWindowExpiry_journalQuiet (i : Fin 8) (s : State) : s.journalQuiet (creepWindowExpiry i s) := by
  unfold creepWindowExpiry
  split
  · exact State.modLane_journalQuiet i _ s
  · exact s.journalQuiet_refl

theorem pumpEnding_journalQuiet (i : Fin 8) (s : State) : s.journalQuiet (pumpEnding i s) := by
  unfold pumpEnding
  split
  · exact (State.modLane_journalQuiet i _ s).trans (State.closeLane_journalQuiet i _ _)
  · exact s.journalQuiet_refl

theorem tankLowEnding_journalQuiet (i : Fin 8) (s : State) : s.journalQuiet (tankLowEnding i s) := by
  unfold tankLowEnding
  split
  · exact (State.modLane_journalQuiet i _ s).trans (State.closeLane_journalQuiet i _ _)
  · exact s.journalQuiet_refl

/-- A lane that takes its grant goes between WAITING, FLOWING and TRIMMING (01 R15, R16). -/
theorem grantTaken_journalQuiet (i : Fin 8) (s : State) : s.journalQuiet (grantTaken i s) := by
  unfold grantTaken
  dsimp only
  cases state : (s.lane i).state
  case waiting =>
    dsimp only
    split
    · exact State.modLane_journalQuiet i _ s
    · have flows := State.modLane_journalQuiet i (Lane.enterFlow (s.lane i).arbiterGrant) s
        (by rw [state]; unfold Lane.enterFlow; dsimp only; split <;> rfl)
      split
      · exact flows
      · exact flows.trans (State.notify_journalQuiet _ _)
  case flowing | trimming =>
    dsimp only
    split
    · exact State.modLane_journalQuiet i _ s (by rw [state]; rfl)
    · exact State.modLane_journalQuiet i _ s
  all_goals exact State.modLane_journalQuiet i _ s

/-! ## The sample (01 R17) -/

/-- The tests of a sample may take a lane from FLOWING to TRIMMING, and to no other state (01 R18, R19). -/
theorem Lane.sampleTests_holdsReservation (p : Product) (l : Lane) :
    (l.sampleTests p).1.state.holdsReservation = l.state.holdsReservation := by
  have prime : (l.primeTest p).state = l.state := by
    unfold Lane.primeTest
    split <;> rfl
  have trim : ∀ k : Lane, (k.trimTest p).state.holdsReservation = k.state.holdsReservation := by
    intro k
    unfold Lane.trimTest
    split
    · dsimp only
      split
      · rename_i flowing; rw [flowing]; rfl
      · rfl
    · rfl
  unfold Lane.sampleTests Lane.stageTests
  split
  · rw [prime]
  · rw [trim, prime]

theorem State.applyTests_journalQuiet (i : Fin 8) (h : Fin 6) (s : State) : s.journalQuiet (s.applyTests i h) := by
  have tested := State.modLane_journalQuiet i (fun _ => ((s.lane i).sampleTests (s.product h)).1) s
    (Lane.sampleTests_holdsReservation _ _)
  unfold State.applyTests
  dsimp only
  split
  · exact tested.trans (State.closeLane_journalQuiet i _ _)
  · split
    · exact tested
    · exact tested.trans (State.grantPass_journalQuiet h _)

theorem State.journalLaw.hoseTest {s : State} (law : s.journalLaw) (i : Fin 8) (h : Fin 6) :
    (s.hoseTest i h).journalLaw := by
  have counted : ∀ c, (s.modLane i fun l => { l with hoseCount := c }).journalLaw := fun c =>
    (State.modLane_journalQuiet i _ s).keeps law
  unfold State.hoseTest
  dsimp only
  split
  · split
    · split
      · exact counted 1
      · exact (counted 0).raise _ _
    · exact counted 0
  · exact law

theorem State.journalLaw.laneTests {s : State} (law : s.journalLaw) (i : Fin 8) : (s.laneTests i).journalLaw := by
  unfold State.laneTests State.closeTest
  split
  · rename_i closing
    split
    · exact law.finishClose closing false
    · exact law
  · split
    · exact ((State.applyTests_journalQuiet i _ s).keeps law).hoseTest i _
    · exact law

theorem State.journalLaw.meteredSample {s : State} (law : s.journalLaw) (i : Fin 8) (n : Nat) :
    (s.meteredSample i n).journalLaw := by
  have taken : ∀ u : State, u.journalLaw →
      ((u.modLane i (Lane.addSample n (s.metering i n) s.now)).laneTests i).journalLaw :=
    fun u kept => State.journalLaw.laneTests ((State.modLane_journalQuiet i _ u).keeps kept) i
  unfold State.meteredSample
  dsimp only
  split
  · exact taken s law
  · exact (State.debitLane_journalQuiet i _ _).keeps (taken _ law.unmoved)

theorem State.journalLaw.sample {s : State} (law : s.journalLaw) (i : Fin 8) : (sample i s).journalLaw := by
  have read : (s.modLane i Lane.readCount).journalLaw := (State.modLane_journalQuiet i _ s).keeps law
  unfold Machine.sample
  dsimp only
  split
  · exact read.meteredSample i _
  · split
    · refine (State.modLane_journalQuiet i _ _ ?_).keeps read
      unfold Lane.creepSample
      split <;> rfl
    · exact read

/-! ## The headers' events (03 R61 to R66) -/

theorem State.proved_journalQuiet (h : Fin 6) (s : State) : s.journalQuiet (s.proved h) :=
  (State.proved_headerMoved h s).journalQuiet

theorem proveChange_journalQuiet (h : Fin 6) (active : Bool) (s : State) : s.journalQuiet (proveChange h active s) := by
  have moved : s.journalQuiet (s.modHeader h fun k => { k with prove := active }) := State.journalQuiet_of_frame
  unfold proveChange
  dsimp only
  split
  · exact s.journalQuiet_refl
  · split
    · split
      · exact moved.trans (State.proved_journalQuiet h _)
      · exact moved
    · split
      · exact moved
      · exact moved.trans (State.failPump_journalQuiet h _ _)
    · split
      · exact moved
      · exact moved.trans (State.failPump_journalQuiet h _ _)
    all_goals exact moved

theorem provingTimerExpiry_journalQuiet (h : Fin 6) (s : State) : s.journalQuiet (provingTimerExpiry h s) := by
  unfold provingTimerExpiry
  split
  · exact State.failPump_journalQuiet h _ s
  · exact s.journalQuiet_refl

theorem runonExpiry_journalQuiet (h : Fin 6) (s : State) : s.journalQuiet (runonExpiry h s) := by
  unfold runonExpiry
  split
  · exact State.setPump_journalQuiet ..
  · exact s.journalQuiet_refl

theorem staggerElapsed_journalQuiet (s : State) : s.journalQuiet (staggerElapsed s) :=
  (State.journalQuiet_of_frame (t := s.modSlot fun k => { k with free := true })).trans (State.testSlot_journalQuiet _)

/-! ## The Shutdown Unit's events (07 R148 to R159) -/

theorem State.journalLaw.sumpActive {s : State} (law : s.journalLaw) (n : Fin 4) (active : Bool) :
    (sumpActive n active s).journalLaw := by
  unfold Machine.sumpActive
  dsimp only
  split
  · exact law
  · split
    · exact State.journalLaw.raise (s := s.modShutdown _) law.unmoved _ _
    · exact law.unmoved

theorem State.journalLaw.pressRelease {s : State} (law : s.journalLaw) (lengthMs : Nat) :
    (pressRelease lengthMs s).journalLaw := by
  have short : ∀ t : State, t.journalLaw → (t.shortPress lengthMs).journalLaw := by
    intro t kept
    unfold State.shortPress
    split
    · exact kept.laneStop.unmoved
    all_goals exact kept
  unfold Machine.pressRelease
  split
  · exact law
  · exact short (s.modShutdown _) law.unmoved
  · exact law.unmoved

theorem State.journalLaw.longPress {s : State} (law : s.journalLaw) : (longPress s).journalLaw := by
  unfold Machine.longPress
  split
  · exact State.journalLaw.raise (s := s.modShutdown _) law.unmoved _ _
  · exact law

theorem State.journalLaw.valveFailureReport {s : State} (law : s.journalLaw) (i : Fin 8) :
    (valveFailureReport i s).journalLaw := by
  unfold Machine.valveFailureReport
  split
  · exact law
  · exact State.journalLaw.laneReport ((State.modLane_journalQuiet i _ s).keeps law) i _

theorem State.journalLaw.creepReport {s : State} (law : s.journalLaw) (i : Fin 8) : (creepReport i s).journalLaw := by
  unfold Machine.creepReport
  split
  · exact law
  · exact State.journalLaw.laneReport ((State.modLane_journalQuiet i _ s).keeps law) i _

theorem closingReport_journalQuiet (i : Fin 8) (s : State) : s.journalQuiet (closingReport i s) := by
  unfold closingReport
  split
  · exact (State.modLane_journalQuiet i (fun l => { l with leaveReport := false }) s).trans
      (State.journalQuiet_of_frame rfl rfl)
  · exact s.journalQuiet_refl

end Sys2Proof.Machine
end

section
/-! PROOFS. The period close, the starts, the requests and the host link under the law of the journal. -/
namespace Sys2Proof.Machine
set_option Elab.async false

/-! ## The period close (08 R176) -/

theorem State.resetFigures_journalQuiet (s : State) : s.journalQuiet s.resetFigures :=
  (eachOfEight_journalQuiet _ (fun i t => (State.journalQuiet_of_frame (t := t.modTank i Tank.newPeriod)).trans
    (State.modLane_journalQuiet i (fun l => { l with totals := {} }) _)) s).trans (State.journalQuiet_of_frame rfl rfl)

theorem State.closePeriod_journalQuiet (reason : CloseReason) (kind : Option PeriodKind) (s : State) :
    s.journalQuiet (s.closePeriod reason kind) := by
  have reset := (State.journalQuiet_of_frame (s := s) (t := s.useTanks.closeNotices)).trans
    (State.resetFigures_journalQuiet _)
  refine reset.trans ?_
  unfold State.closePeriod
  exact State.journalQuiet_of_frame

theorem boundary_journalQuiet (s : State) : s.journalQuiet (boundary s) := by
  unfold boundary
  split
  · exact (State.journalQuiet_of_frame (t := s.modPeriod fun u => { u with boundaryDue := none })).trans
      (State.closePeriod_journalQuiet _ _ _)
  · exact s.journalQuiet_refl

theorem State.lateClose_journalQuiet (s : State) : s.journalQuiet s.lateClose := by
  unfold State.lateClose
  split
  · split
    · exact State.closePeriod_journalQuiet _ _ s
    · exact s.journalQuiet_refl
  · exact s.journalQuiet_refl

/-! ## Power and the starts (10 R200 to R206) -/

/-- A part that has lost its supply keeps its lanes and its journal. -/
theorem State.goDark_journalQuiet (power : Power) (s : State) : s.journalQuiet (s.goDark power) := by
  unfold State.goDark
  exact State.journalQuiet_of_frame

/-- A lane at rest after a start keeps its state until it is recovered (10 R205). -/
theorem State.restUnits_journalQuiet (s : State) : s.journalQuiet s.restUnits := by
  unfold State.restUnits
  extract_lets a w
  have lanes : a.journalQuiet w := eachOfEight_journalQuiet _ (fun i t =>
    (State.modLane_journalQuiet i Lane.afterStart t).trans State.journalQuiet_of_frame) a
  exact ((State.journalQuiet_of_frame (s := s) (t := a) rfl rfl).trans lanes).trans
    (State.journalQuiet_of_frame rfl rfl)

theorem State.rest_journalQuiet (kind : StartKind) (baudHigh : Bool) (s : State) :
    s.journalQuiet (s.rest kind baudHigh) := by
  refine s.restUnits_journalQuiet.trans ?_
  unfold State.rest
  exact State.journalQuiet_of_frame

/-- The recovery of a lane withdraws its authorisation or commits its delivery (01 R32). -/
theorem State.journalLaw.recoverLane {s : State} (law : s.journalLaw) (nozzleOut : Mask) (i : Fin 8) :
    (recoverLane nozzleOut i s).journalLaw := by
  have committed (holds : (s.lane i).state.holdsReservation = true) :
      (s.powerCommit i (nozzleOut.getLsbD i.val)).journalLaw :=
    ((State.modLane_journalQuiet i (fun l => { l with delivery := { l.delivery with endCause := some .power } })
      s).keeps law).commitDelivery false (by rw [State.lane_modLane_same]; exact holds) _
      (Lane.afterCommit_holdsReservation _)
  unfold Machine.recoverLane
  cases state : (s.lane i).state
  case idle | done => exact law
  case authorised => exact law.withdrawLane state
  all_goals exact committed (by rw [state]; rfl)

theorem State.journalLaw.recover {s : State} (law : s.journalLaw) (pins : StartPins) : (s.recover pins).journalLaw := by
  have lanes : ∀ t : State, t.journalLaw → (t.recoverLanes pins.nozzleOut).journalLaw := fun t kept =>
    eachOfEight_induction (P := State.journalLaw) _ (fun i _ here => here.recoverLane pins.nozzleOut i) kept
  unfold State.recover
  split
  · exact lanes _ (s.lateClose_journalQuiet.keeps law)
  · exact (State.lateClose_journalQuiet _).keeps (lanes s law)

/-- After a cold start no record is held and no lane holds a reservation (10 R203). -/
theorem State.afterColdStart_journalLaw (baudHigh : Bool) : (State.afterColdStart baudHigh).journalLaw := by
  have idle : ∀ i, ((State.afterColdStart baudHigh).lane i).state.holdsReservation = false := fun i => by
    simp [State.lane, State.afterColdStart, LaneState.holdsReservation]
  have none' : (State.afterColdStart baudHigh).reservingLanes = 0 := by
    unfold State.reservingLanes
    simp only [idle, List.filter_false, List.length_nil]
  exact ⟨⟨none'.symm, Nat.zero_le _⟩, trivial, fun r newest => by cases newest⟩

/-- Every start keeps the law: a warm one recovers the lanes, a cold one empties the journal. -/
theorem State.journalLaw.start {s : State} (law : s.journalLaw) (pins : StartPins) : (s.start pins).journalLaw := by
  unfold State.start
  split
  · have rested := (s.rest_journalQuiet (if pins.keyLow then .key else .warm) pins.baudHigh).keeps law
    unfold State.warmStart
    exact (rested.recover pins).unmoved
  · exact (State.afterColdStart_journalLaw pins.baudHigh).unmoved rfl rfl

/-! ## Requests that move neither lanes nor journal -/

theorem productSet_journalQuiet (f : ProductFields) (s : State) : s.journalQuiet (productSet f s).2 := by
  unfold productSet
  repeat' split
  all_goals exact State.journalQuiet_of_frame

theorem tablePoint_journalQuiet (f : TablePointFields) (s : State) : s.journalQuiet (tablePoint f s).2 := by
  unfold tablePoint
  repeat' split
  all_goals exact State.journalQuiet_of_frame

theorem tableCommit_journalQuiet (f : CommitFields) (s : State) : s.journalQuiet (tableCommit f s).2 := by
  unfold tableCommit
  repeat' split
  all_goals exact State.journalQuiet_of_frame

theorem timeSet_journalQuiet (clock : Nat) (s : State) : s.journalQuiet (timeSet clock s).2 := by
  unfold timeSet
  split
  all_goals exact State.journalQuiet_of_frame

theorem laneQuery_journalQuiet (lane : Nat) (s : State) : s.journalQuiet (laneQuery lane s).2 := by
  unfold laneQuery
  split
  all_goals exact State.journalQuiet_of_frame

theorem tankQuery_journalQuiet (tank : Nat) (s : State) : s.journalQuiet (tankQuery tank s).2 := by
  unfold tankQuery
  split
  all_goals exact State.journalQuiet_of_frame

theorem gaugeNow_journalQuiet (tank : Nat) (s : State) : s.journalQuiet (gaugeNow tank s).2 := by
  unfold gaugeNow
  repeat' split
  all_goals exact State.journalQuiet_of_frame

theorem receiptOpen_journalQuiet (f : ReceiptOpenFields) (s : State) : s.journalQuiet (receiptOpen f s).2 := by
  unfold receiptOpen openReceipt
  dsimp only
  repeat' split
  all_goals exact State.journalQuiet_of_frame

theorem receiptClose_journalQuiet (tank : Nat) (s : State) : s.journalQuiet (receiptClose tank s).2 := by
  unfold receiptClose
  repeat' split
  all_goals exact State.journalQuiet_of_frame

theorem bookSet_journalQuiet (f : BookFields) (s : State) : s.journalQuiet (bookSet f s).2 := by
  unfold bookSet
  repeat' split
  all_goals exact State.journalQuiet_of_frame

theorem machineRead_journalQuiet (machine : Nat) (s : State) : s.journalQuiet (machineRead machine s).2 := by
  unfold machineRead
  split
  all_goals exact State.journalQuiet_of_frame

theorem machineWrite_journalQuiet (f : MachineWriteFields) (s : State) : s.journalQuiet (machineWrite f s).2 := by
  unfold machineWrite
  repeat' split
  all_goals exact State.journalQuiet_of_frame

theorem patternLoad_journalQuiet (f : PatternFields) (s : State) : s.journalQuiet (patternLoad f s).2 := by
  unfold patternLoad
  split
  all_goals exact State.journalQuiet_of_frame

theorem groupApply_journalQuiet (f : GroupFields) (s : State) : s.journalQuiet (groupApply f s).2 := by
  unfold groupApply
  repeat' split
  all_goals exact State.journalQuiet_of_frame

theorem journalRead_journalQuiet (f : JournalReadFields) (s : State) : s.journalQuiet (journalRead f s).2 := by
  unfold journalRead
  split
  all_goals exact State.journalQuiet_of_frame

theorem bayArm_journalQuiet (s : State) : s.journalQuiet (bayArm s).2 := by
  unfold bayArm
  repeat' split
  all_goals exact State.journalQuiet_of_frame

theorem bayClear_journalQuiet (kind : Nat) (s : State) : s.journalQuiet (bayClear kind s).2 := by
  unfold bayClear
  repeat' split
  all_goals exact State.journalQuiet_of_frame

theorem status_journalQuiet (part : Nat) (s : State) : s.journalQuiet (status part s).2 := by
  unfold status
  split
  all_goals exact State.journalQuiet_of_frame

theorem reportRead_journalQuiet (f : ReportReadFields) (s : State) : s.journalQuiet (reportRead f s).2 := by
  unfold reportRead
  repeat' split
  all_goals exact State.journalQuiet_of_frame

/-! ## Requests that move a lane beside its state -/

/-- LANE-SET gives an IDLE lane a new record and leaves it IDLE (01 R2). -/
theorem laneSet_journalQuiet (f : LaneFields) (s : State) : s.journalQuiet (laneSet f s).2 := by
  unfold laneSet
  split
  · split
    · exact s.journalQuiet_refl
    · dsimp only
      exact State.modLane_journalQuiet _ _ s
  · exact s.journalQuiet_refl

theorem curvePoint_journalQuiet (f : CurvePointFields) (s : State) : s.journalQuiet (curvePoint f s).2 := by
  unfold curvePoint
  split
  · exact s.journalQuiet_refl
  · split
    · dsimp only
      exact State.modLane_journalQuiet _ _ s
    · exact s.journalQuiet_refl

theorem curveCommit_journalQuiet (f : CommitFields) (s : State) : s.journalQuiet (curveCommit f s).2 := by
  unfold curveCommit
  split
  · exact s.journalQuiet_refl
  · split
    · exact s.journalQuiet_refl
    · split
      · exact s.journalQuiet_refl
      · split
        · exact s.journalQuiet_refl
        · dsimp only
          exact State.modLane_journalQuiet _ _ s

/-- TANK-SET puts the estimate into its band, which sends endings and makes a pass (04 R91). -/
theorem tankSet_journalQuiet (f : TankFields) (s : State) : s.journalQuiet (tankSet f s).2 := by
  unfold tankSet
  split
  · rename_i t r _ _
    have recorded : s.journalQuiet (s.modTank t fun k => { k with record := r }) := State.journalQuiet_of_frame
    split
    · exact s.journalQuiet_refl
    · split
      · exact s.journalQuiet_refl
      · dsimp only
        split
        · exact recorded.trans (State.evaluateBand_journalQuiet t _)
        · exact recorded.trans State.journalQuiet_of_frame
  · exact s.journalQuiet_refl

/-- BAY-SET tests the start slot, which may start pumps (03 R64). -/
theorem baySet_journalQuiet (f : BayFields) (s : State) : s.journalQuiet (baySet f s).2 := by
  unfold baySet
  split
  · exact s.journalQuiet_refl
  · rename_i v _
    have retested := State.journalQuiet_of_frame (s := s) (t := (s.setSettings v).modSlot
      (StartSlot.retest s.settings.stagger v.stagger s.elapsed (s.phase 0)))
    exact (retested.trans (State.testSlot_journalQuiet _)).trans State.journalQuiet_of_frame

theorem bayDisarm_journalQuiet (s : State) : s.journalQuiet (bayDisarm s).2 := by
  have disarmed : s.journalQuiet (s.modShutdown fun u => { u with bay := .disarmed }) := State.journalQuiet_of_frame
  unfold bayDisarm
  dsimp only
  split
  · exact s.journalQuiet_refl
  · split
    · exact s.journalQuiet_refl
    · dsimp only
      exact disarmed.trans (State.stopHeaders_journalQuiet _)

theorem pumpReset_journalQuiet (header : Nat) (s : State) : s.journalQuiet (pumpReset header s).2 := by
  unfold pumpReset
  split
  · exact s.journalQuiet_refl
  · split
    · dsimp only
      exact State.setPump_journalQuiet ..
    · exact s.journalQuiet_refl

/-! ## Requests that move a reservation or a record -/

/-- An AUTHORISE is accepted on an IDLE lane with a place free, and takes the place (01 R9; 06 R131). -/
theorem State.journalLaw.acceptAuthorise {s : State} (law : s.journalLaw) {o : AuthoriseOperands}
    (idle : (s.lane o.lane).state = .idle) (place : s.journal.free ≠ 0) (f : AuthoriseFields) (p : Fin 6) (t : Fin 8) :
    (acceptAuthorise f o p t s).2.journalLaw := by
  unfold Machine.acceptAuthorise
  dsimp only
  refine law.reserved (i := o.lane) ⟨?_, by rw [idle]; rfl, fun j hj => ?_⟩ (by simp) place
  · rw [State.lane_modLane_same]; rfl
  · have kept : ((s.hourProcessing o.machine o.lane f.hourReading).2.modJournal Journal.reserve).lane j = s.lane j :=
      State.lane_congr j s _ (by simp)
    rw [State.lane_modLane_ne _ _ hj, kept]

/-- The checks of an AUTHORISE in their order; the one that follows the place's check may use a reading (01 R9). -/
theorem State.journalLaw.authorise {s : State} (law : s.journalLaw) (f : AuthoriseFields) :
    (authorise f s).2.journalLaw := by
  unfold Machine.authorise checkAuthorise
  split
  · exact law
  · split
    · exact law
    · split
      · exact law
      · rename_i idle
        split
        · exact law
        · split
          · exact law
          · split
            · exact law
            · split
              · exact law
              · split
                · exact law
                · rename_i place
                  split
                  · exact law.unmoved
                  · exact law.acceptAuthorise (not_not.1 idle) place f _ _

theorem State.journalLaw.cancel {s : State} (law : s.journalLaw) (lane : Nat) : (cancel lane s).2.journalLaw := by
  unfold Machine.cancel State.cancelLane
  split
  · exact law
  · dsimp only
    split
    · rename_i authorised; exact law.withdrawLane authorised
    · exact (State.closeLane_journalQuiet _ _ s).keeps law

theorem State.journalLaw.journalAck {s : State} (law : s.journalLaw) (n : Nat) : (journalAck n s).2.journalLaw := by
  unfold Machine.journalAck
  split
  · exact law.released n
  · exact law

/-- Every request's owner keeps the law of the journal. -/
theorem State.journalLaw.serveRequest {s : State} (law : s.journalLaw) (r : Request) :
    (serveRequest r s).2.journalLaw := by
  cases r with
  | productSet f => exact (productSet_journalQuiet f s).keeps law
  | laneSet f => exact (laneSet_journalQuiet f s).keeps law
  | tankSet f => exact (tankSet_journalQuiet f s).keeps law
  | tablePoint f => exact (tablePoint_journalQuiet f s).keeps law
  | tableCommit f => exact (tableCommit_journalQuiet f s).keeps law
  | curvePoint f => exact (curvePoint_journalQuiet f s).keeps law
  | curveCommit f => exact (curveCommit_journalQuiet f s).keeps law
  | baySet f => exact (baySet_journalQuiet f s).keeps law
  | timeSet n => exact (timeSet_journalQuiet n s).keeps law
  | authorise f => exact law.authorise f
  | cancel n => exact law.cancel n
  | laneQuery n => exact (laneQuery_journalQuiet n s).keeps law
  | tankQuery n => exact (tankQuery_journalQuiet n s).keeps law
  | gaugeNow n => exact (gaugeNow_journalQuiet n s).keeps law
  | receiptOpen f => exact (receiptOpen_journalQuiet f s).keeps law
  | receiptClose n => exact (receiptClose_journalQuiet n s).keeps law
  | bookSet f => exact (bookSet_journalQuiet f s).keeps law
  | machineRead n => exact (machineRead_journalQuiet n s).keeps law
  | machineWrite f => exact (machineWrite_journalQuiet f s).keeps law
  | patternLoad f => exact (patternLoad_journalQuiet f s).keeps law
  | groupApply f => exact (groupApply_journalQuiet f s).keeps law
  | journalRead f => exact (journalRead_journalQuiet f s).keeps law
  | journalStop => exact law
  | journalAck n => exact law.journalAck n
  | bayArm => exact (bayArm_journalQuiet s).keeps law
  | bayDisarm => exact (bayDisarm_journalQuiet s).keeps law
  | bayShutdown => exact law.raise .command 0
  | bayClear n => exact (bayClear_journalQuiet n s).keeps law
  | pumpReset n => exact (pumpReset_journalQuiet n s).keeps law
  | status n => exact (status_journalQuiet n s).keeps law
  | reportNow => exact (State.closePeriod_journalQuiet .request none s).keeps law
  | reportRead f => exact (reportRead_journalQuiet f s).keeps law

/-! ## The host link (09 R187 to R192) -/

theorem State.journalLaw.takeHeld {s : State} (law : s.journalLaw) : s.takeHeld.journalLaw := by
  have answered : ∀ (u : State) (kind tag : Byte) (a : Answer), u.journalLaw → (u.putReply kind tag a).journalLaw :=
    fun _ _ _ _ kept => kept.unmoved
  have held : ∀ f, (s.modLink f).journalLaw := fun _ => law.unmoved
  unfold State.takeHeld
  split
  · refine answered _ _ _ _ ?_
    unfold serveFrame
    split
    · exact (held _).serveRequest _
    · dsimp only [unknownKind]; exact held _
    · dsimp only [malformed]; exact held _
  · exact law

theorem State.journalLaw.frameCompletes {s : State} (law : s.journalLaw) (bytes : List Byte) :
    (s.frameCompletes bytes).journalLaw := by
  unfold State.frameCompletes State.offerFrame
  dsimp only
  split
  · split
    · exact State.journalLaw.takeHeld (s := State.holdFrame _ _) law.unmoved
    · exact law.unmoved
  · exact law.unmoved

theorem State.journalLaw.hostByteReceived {s : State} (law : s.journalLaw) (b : Byte) :
    (hostByteReceived b s).journalLaw := by
  unfold Machine.hostByteReceived
  split
  · split
    · exact law.unmoved
    · exact law
  · dsimp only
    split
    · exact law.unmoved
    · split
      · exact law.frameCompletes _
      · exact law.unmoved

/-- The end of a message may release the record it carried, and moves the journal no other way (06 R138). -/
theorem State.journalLaw.messageSent {s : State} (law : s.journalLaw) (m : TxMessage) :
    (s.messageSent m).journalLaw := by
  cases m with
  | reply r => exact law.unmoved (t := (s.modLink fun k => { k with reply := none }).beginBurst)
  | record r =>
    show (s.recordSent r).journalLaw
    unfold State.recordSent
    split
    · dsimp only
      split
      · exact law.released r.seq
      · exact law.unmoved
    · exact law
  | journalEnd e => exact law.unmoved (t := s.setBurst none)
  | notice n => exact law

theorem State.journalLaw.frameSent {s : State} (law : s.journalLaw) : (frameSent s).journalLaw := by
  unfold Machine.frameSent
  split
  · exact State.journalLaw.takeHeld
      (State.journalLaw.messageSent (s := s.modLink fun k => { k with line := none }) law.unmoved _)
  · exact law

end Sys2Proof.Machine
end

section
/-! PROOFS. Every command and every step keeps the law of the journal (O58). -/
namespace Sys2Proof.Machine
set_option Elab.async false

/-- The answer of a command keeps the law of the journal. -/
def keepsJournalLaw (o : Host.Outcome State Fault Refusal) : Prop := ∀ t, o = .next t → t.journalLaw

theorem keepsJournalLaw_next {t : State} (law : t.journalLaw) : keepsJournalLaw (.next t) := fun _ e => by
  cases e; exact law

theorem event_keepsJournalLaw (f : State → State) {s : State} (law : s.journalLaw) (kept : (f s).journalLaw) :
    keepsJournalLaw (event f s) := by
  refine keepsJournalLaw_next ?_
  split
  · exact kept.unmoved
  · exact law

theorem request_keepsJournalLaw (f : HeldFrame) (owner : State → Answer × State) {s : State} (law : s.journalLaw)
    (kept : (owner s).2.journalLaw) : keepsJournalLaw (event (State.request f owner) s) := by
  refine event_keepsJournalLaw _ law ?_
  unfold State.request
  split
  · exact law.unmoved
  · exact kept.unmoved

/-- Every row that is no request keeps the law of the journal. -/
theorem exec_keepsJournalLaw_of_event (c : Instr) (noRequest : asRequest c = none) {s : State} (law : s.journalLaw) :
    keepsJournalLaw (exec c s) := by
  have quiet : ∀ (f : State → State), s.journalQuiet (f s) → keepsJournalLaw (event f s) := fun f q =>
    event_keepsJournalLaw f law (q.keeps law)
  have moved : ∀ (f : State → State), (f s).journalLaw → keepsJournalLaw (event f s) := fun f kept =>
    event_keepsJournalLaw f law kept
  cases c
  case unknownKind | malformed => exact request_keepsJournalLaw _ _ law law
  case frameReceived bytes => exact moved _ (law.frameCompletes bytes)
  case frameGap => exact quiet _ State.journalQuiet_of_frame
  case frameSent => exact moved _ law.frameSent
  case hostByteReceived byte => exact moved _ (law.hostByteReceived byte)
  case pulse i => exact quiet _ (State.modLane_journalQuiet i countPulse s)
  case sample i => exact moved _ (law.sample i)
  case nozzleLift i => exact quiet _ (nozzleLift_journalQuiet i s)
  case nozzleHangup i => exact quiet _ (nozzleHangup_journalQuiet i s)
  case authorisationExpiry i => exact moved _ (law.authorisationExpiry i)
  case maxOpenExpiry i => exact quiet _ (maxOpenExpiry_journalQuiet i s)
  case closeLimitExpiry i => exact moved _ (law.closeLimitExpiry i)
  case creepWindowExpiry i => exact quiet _ (creepWindowExpiry_journalQuiet i s)
  case grantTaken i => exact quiet _ (grantTaken_journalQuiet i s)
  case pumpEnding i => exact quiet _ (pumpEnding_journalQuiet i s)
  case tankLowEnding i => exact quiet _ (tankLowEnding_journalQuiet i s)
  case proveChange h active => exact quiet _ (proveChange_journalQuiet h active s)
  case provingTimerExpiry h => exact quiet _ (provingTimerExpiry_journalQuiet h s)
  case runonExpiry h => exact quiet _ (runonExpiry_journalQuiet h s)
  case staggerElapsed => exact quiet _ (staggerElapsed_journalQuiet s)
  case roundDue => exact quiet _ State.journalQuiet_of_frame
  case gaugePollSent => exact quiet _ State.journalQuiet_of_frame
  case gaugeReply bytes => exact moved _ (law.gaugeReply bytes)
  case replyTimerExpiry => exact quiet _ State.journalQuiet_of_frame
  case sumpActive sump active => exact moved _ (law.sumpActive sump active)
  case pressBegin => exact quiet _ State.journalQuiet_of_frame
  case pressRelease lengthMs => exact moved _ (law.pressRelease lengthMs)
  case longPress => exact moved _ law.longPress
  case valveFailureReport i => exact moved _ (law.valveFailureReport i)
  case creepReport i => exact moved _ (law.creepReport i)
  case closingReport i => exact quiet _ (closingReport_journalQuiet i s)
  case keyTurn => exact quiet _ State.journalQuiet_of_frame
  case keySeenHigh => exact quiet _ State.journalQuiet_of_frame
  case boundary => exact quiet _ (boundary_journalQuiet s)
  case powerLoss =>
    refine keepsJournalLaw_next ?_
    split
    · exact law
    · exact (State.goDark_journalQuiet _ s).keeps law
  case resetAssert =>
    refine keepsJournalLaw_next ?_
    split
    · exact (State.goDark_journalQuiet _ s).keeps law
    · exact law
  case vbatLoss =>
    refine keepsJournalLaw_next ?_
    split
    · exact law.unmoved
    · exact law
  case coldStart pins => exact keepsJournalLaw_next (law.start pins)
  case warmStart pins => exact keepsJournalLaw_next (law.start pins)
  case clockSecond =>
    refine keepsJournalLaw_next ?_
    split
    · exact law.unmoved
    · split
      · exact law.unmoved
      · exact law
  all_goals cases noRequest

/-- Every command keeps the law of the journal. -/
theorem exec_keepsJournalLaw (c : Instr) {s : State} (law : s.journalLaw) : keepsJournalLaw (exec c s) := by
  cases row : asRequest c with
  | none => exact exec_keepsJournalLaw_of_event c row law
  | some named =>
    rw [exec_of_asRequest row]
    exact request_keepsJournalLaw _ _ law (law.serveRequest named.2)

/-- A step keeps the law of the journal. -/
theorem step_keepsJournalLaw {s : State} (law : s.journalLaw) : keepsJournalLaw (step s) := by
  unfold step
  split
  · exact keepsJournalLaw_next law
  · exact exec_keepsJournalLaw _ law.unmoved

end Sys2Proof.Machine

namespace Sys2Proof
open Sys2Proof.Machine
set_option Elab.async false

/-- Settles O58: a place is taken only by an accepted authorisation, and given up only with its lane's authorisation or
to its lane's record, which takes the number that follows the last; a release drops the oldest records. -/
theorem journalLawIsKept : Obligations.JournalLawIsKept := by
  intro s t balanced numbered next
  have kept := step_keepsJournalLaw ⟨balanced, numbered⟩ t next
  exact ⟨kept.balanced, kept.numbered⟩

end Sys2Proof
end

section
/-! PROOFS. The classing of a number, where a burst starts, and what an acknowledgement releases (O31, O32). -/
namespace Sys2Proof.Machine
set_option Elab.async false

/-! ## Held and issued numbers (06 R130) -/

theorem Journal.holds_iff (j : Journal) (n : Nat) : j.holds n = true ↔ ∃ r ∈ j.records, r.seq = n := by
  simp [Journal.holds]

theorem Journal.holds_eq_false {j : Journal} {n : Nat} (absent : ∀ r ∈ j.records, r.seq ≠ n) : j.holds n = false :=
  Bool.eq_false_iff.2 fun held => by
    obtain ⟨r, mem, here⟩ := (j.holds_iff n).1 held
    exact absent r mem here

/-- The distance back to a number, taken round the last number once they have wrapped, says whether it was issued. -/
theorem Journal.issued_iff {j : Journal} {n : Nat} (bounded : j.lastSeq ≤ 4294967295) :
    j.issued n = true ↔ j.wasIssued n := by
  unfold Journal.issued Journal.wasIssued lastNumber
  cases j.wrapped
  · simp only [Bool.false_eq_true, if_false, Bool.and_eq_true, decide_eq_true_eq, eq_self, true_implies, false_implies,
      and_true]
    omega
  · simp only [if_true, Bool.and_eq_true, decide_eq_true_eq, eq_self, true_implies, false_implies, Bool.true_eq_false,
      true_and]
    omega

/-! ## The records from a number on (06 R136, R142) -/

variable {before after : List JournalRecord} {r : JournalRecord} {n : Nat}

/-- The records behind the first one numbered n. -/
theorem recordsAfter_append (here : r.seq = n) (earlier : ∀ x ∈ before, x.seq ≠ n) :
    recordsAfter n (before ++ r :: after) = after := by
  induction before with
  | nil => exact if_pos here
  | cons x before ih =>
    have first : x.seq ≠ n := earlier x List.mem_cons_self
    show (if x.seq = n then _ else recordsAfter n (before ++ r :: after)) = after
    rw [if_neg first, ih fun y mem => earlier y (List.mem_cons_of_mem x mem)]

theorem dropWhile_seq_append (here : r.seq = n) (earlier : ∀ x ∈ before, x.seq ≠ n) :
    (before ++ r :: after).dropWhile (fun x => x.seq != n) = r :: after := by
  rw [List.dropWhile_append_of_pos fun x mem => by simpa using earlier x mem,
    List.dropWhile_cons_of_neg (by simp [here])]

theorem dropWhile_seq_of_absent {l : List JournalRecord} (absent : ∀ x ∈ l, x.seq ≠ n) :
    l.dropWhile (fun x => x.seq != n) = [] :=
  List.dropWhile_eq_nil_iff.2 fun x mem => by simpa using absent x mem

/-- Acknowledging a held number leaves the records behind it. -/
theorem Journal.release_held {j : Journal} (records : j.records = before ++ r :: after) (here : r.seq = n)
    (earlier : ∀ x ∈ before, x.seq ≠ n) : j.release n = { j with records := after } := by
  have held : j.holds n = true := (j.holds_iff n).2 ⟨r, by rw [records]; simp, here⟩
  unfold Journal.release
  rw [if_pos held, records, recordsAfter_append here earlier]

theorem Journal.release_absent {j : Journal} (absent : ∀ r ∈ j.records, r.seq ≠ n) : j.release n = j := by
  unfold Journal.release
  rw [Journal.holds_eq_false absent]
  rfl

/-! ## The intended count (06 R136) -/

theorem Journal.intended_of_absent {j : Journal} {start : Nat} (count : Nat)
    (absent : ∀ r ∈ j.records, r.seq ≠ start) : j.intended start count = 0 := by
  unfold Journal.intended
  rw [dropWhile_seq_of_absent absent]
  simp

theorem Journal.intended_of_held {j : Journal} (count : Nat) (records : j.records = before ++ r :: after)
    (here : r.seq = n) (earlier : ∀ x ∈ before, x.seq ≠ n) :
    j.intended n count = if count = 0 then after.length + 1 else min count (after.length + 1) := by
  unfold Journal.intended
  rw [records, dropWhile_seq_append here earlier]
  rfl

/-! ## Where a burst starts (06 R136) -/

theorem Journal.readStart_zero {j : Journal} :
    j.readStart 0 = (if j.records.isEmpty then nextSeq j.lastSeq else j.tail, false) := rfl

theorem Journal.readStart_held {j : Journal} (nonzero : n ≠ 0) (held : ∃ r ∈ j.records, r.seq = n) :
    j.readStart n = (n, false) := by
  unfold Journal.readStart
  rw [if_neg nonzero, if_pos ((j.holds_iff n).2 held)]

theorem Journal.readStart_released {j : Journal} (nonzero : n ≠ 0) (absent : ∀ r ∈ j.records, r.seq ≠ n)
    (issued : j.issued n = true) :
    j.readStart n = (if j.records.isEmpty then nextSeq j.lastSeq else j.tail, true) := by
  unfold Journal.readStart
  rw [if_neg nonzero, Journal.holds_eq_false absent, issued]
  rfl

theorem Journal.readStart_unissued {j : Journal} (nonzero : n ≠ 0) (absent : ∀ r ∈ j.records, r.seq ≠ n)
    (unissued : j.issued n = false) : j.readStart n = (n, false) := by
  unfold Journal.readStart
  rw [if_neg nonzero, Journal.holds_eq_false absent, unissued]
  rfl

/-! ## The requests (06 R136, R142) -/

theorem journalRead_accepted {f : JournalReadFields} {auto : Bool} {s : State} (count : f.count ≤ 64)
    (flag : f.autoAck = auto.toNat) :
    journalRead f s =
      (⟨.accepted, .journalStart (s.journal.readStart f.start).1 (s.journal.readStart f.start).2
          (s.journal.intended (s.journal.readStart f.start).1 f.count)⟩,
        { s with burst := some { next := (s.journal.readStart f.start).1, count := f.count, auto := auto } }) := by
  unfold journalRead
  rw [decide_eq_true count, flag, flagCode_toNat]
  rfl

theorem journalRead_range {f : JournalReadFields} {s : State} (out : 64 < f.count ∨ 1 < f.autoAck) :
    journalRead f s = (⟨.range, .empty⟩, s) := by
  unfold journalRead
  rcases out with count | flag
  · rw [decide_eq_false (by omega)]
    rfl
  · rw [flagCode_eq_none flag]
    cases decide (f.count ≤ 64) <;> rfl

end Sys2Proof.Machine

namespace Sys2Proof
open Sys2Proof.Machine
set_option Elab.async false

/-- Settles O31: the burst set and the reply are those of the start found, which each class of number gives in turn. -/
theorem journalReadStartsBurst : Obligations.JournalReadStartsBurst := by
  refine ⟨fun tag f auto s ready count flag => ?_, fun j n bounded => Journal.issued_iff bounded,
    fun tag f s ready out => event_request_exact ready _ _ _ _ ready.1 (journalRead_range out),
    fun tag s ready => event_request_exact ready _ _ _ _ ready.1 rfl⟩
  refine ⟨_, _, _, event_request_exact ready _ _ _ _ ready.1 (journalRead_accepted count flag), ?_, ?_, ?_, ?_, ?_, ?_,
    fun absent => Journal.intended_of_absent _ absent,
    fun before r after records here earlier => Journal.intended_of_held _ records here earlier⟩
  · intro zero records
    rw [zero, Journal.readStart_zero, if_neg (by simpa using records)]
    exact ⟨rfl, rfl⟩
  · intro zero empty
    rw [zero, Journal.readStart_zero, empty]
    exact ⟨rfl, rfl⟩
  · intro nonzero held
    rw [Journal.readStart_held nonzero held]
    exact ⟨rfl, rfl⟩
  · intro nonzero absent issued records
    rw [Journal.readStart_released nonzero absent issued, if_neg (by simpa using records)]
    exact ⟨rfl, rfl⟩
  · intro nonzero empty issued
    rw [Journal.readStart_released nonzero (by simp [empty]) issued, empty]
    exact ⟨rfl, rfl⟩
  · intro nonzero absent unissued
    rw [Journal.readStart_unissued nonzero absent unissued]
    exact ⟨rfl, rfl⟩

/-- Settles O32: a held number leaves the records behind it, a number issued and no longer held leaves all of them. -/
theorem journalAckReleases : Obligations.JournalAckReleases := by
  refine fun tag n s ready => ⟨fun before r after records here earlier => ?_, fun absent issued => ?_,
    fun absent unissued => ?_⟩
  · refine event_request_exact ready _ _ _ _ ready.1 ?_
    have held : s.journal.holds n = true := (Journal.holds_iff _ n).2 ⟨r, by rw [records]; simp, here⟩
    have released : s.journal.held - after.length = before.length + 1 := by
      unfold Journal.held
      rw [records, List.length_append, List.length_cons]
      omega
    unfold journalAck
    rw [held, Journal.release_held records here earlier, Bool.true_or, if_pos rfl, ← released]
    rfl
  · refine event_request_exact ready _ _ _ _ ready.1 ?_
    unfold journalAck
    rw [issued, Journal.release_absent absent, Bool.or_true, if_pos rfl]
    dsimp only
    rw [Nat.sub_self]
    rfl
  · refine event_request_exact ready _ _ _ _ ready.1 ?_
    unfold journalAck
    rw [Journal.holds_eq_false absent, unissued]
    rfl

end Sys2Proof
end

section
/-! PROOFS. The arbiter's choice and the notice queue's admission (O54; 09 R192 to R195; 06 R137, R141). -/
namespace Sys2Proof.Machine
set_option Elab.async false

/-! ## The arbiter's choice (09 R192) -/

section
variable {s : State}

theorem State.kick_of_busy (line : s.link.line ≠ none) : s.kick = s := by
  obtain ⟨m, sending⟩ := Option.ne_none_iff_exists'.1 line
  unfold State.kick
  rw [sending]
  cases s.power <;> rfl

theorem State.kick_of_reply {r : Reply} (running : s.power = .running) (line : s.link.line = none)
    (reply : s.link.reply = some r) :
    s.kick = { s with link := { s.link with line := some (.reply r) } } := by
  unfold State.kick
  conv_lhs => rw [running, line, reply]
  rfl

theorem State.runningBurst_of_started {b : Burst} (burst : s.burst = some b) (started : b.started = true) :
    s.runningBurst = some b := by
  unfold State.runningBurst
  rw [burst]
  exact if_pos started

theorem State.runningBurst_eq_none (waits : ∀ b, s.burst = some b → b.started = false) : s.runningBurst = none := by
  unfold State.runningBurst
  cases burst : s.burst with
  | none => rfl
  | some b => exact if_neg (by rw [waits b burst]; simp)

/-- A running burst sends its next message, and goes on as the message leaves it. -/
theorem State.kick_of_burst {b c : Burst} {m : TxMessage} (running : s.power = .running) (line : s.link.line = none)
    (reply : s.link.reply = none) (burst : s.burst = some b) (started : b.started = true)
    (message : burstMessage s.journal b = (m, c)) :
    s.kick = { s with burst := some c, link := { s.link with line := some m } } := by
  unfold State.kick
  conv_lhs =>
    rw [running, line, reply, State.runningBurst_of_started burst started]
    dsimp only
    rw [message]
  rfl

theorem State.kick_of_notice {n : Notice} {rest : List Notice} (running : s.power = .running)
    (line : s.link.line = none) (reply : s.link.reply = none) (waits : ∀ b, s.burst = some b → b.started = false)
    (notices : s.link.notices = n :: rest) :
    s.kick = { s with link := { s.link with notices := rest, line := some (.notice n) } } := by
  unfold State.kick
  conv_lhs => rw [running, line, reply, State.runningBurst_eq_none waits, notices]
  rfl

theorem State.kick_of_nothing (running : s.power = .running) (line : s.link.line = none)
    (reply : s.link.reply = none) (waits : ∀ b, s.burst = some b → b.started = false) (notices : s.link.notices = []) :
    s.kick = s := by
  unfold State.kick
  rw [running, line, reply, State.runningBurst_eq_none waits, notices]
end

/-! ## The messages of a burst (06 R137, R139, R141) -/

section
variable {s : State} {b : Burst}

theorem burstMessage_of_ending {reason : EndReason} (ending : b.ending = some reason) :
    burstMessage s.journal b = (s.journalEnd b reason, b) := by
  unfold burstMessage
  rw [ending]
  rfl

theorem burstMessage_of_countDone (ending : b.ending = none) (asked : b.count ≠ 0) (done : b.sent = b.count) :
    burstMessage s.journal b = (s.journalEnd b .countDone, { b with ending := some .countDone }) := by
  unfold burstMessage
  rw [ending]
  exact if_pos ⟨asked, done⟩

theorem find?_seq_append {before after : List JournalRecord} {r : JournalRecord} {n : Nat} (here : r.seq = n)
    (earlier : ∀ x ∈ before, x.seq ≠ n) : (before ++ r :: after).find? (fun x => x.seq == n) = some r := by
  rw [List.find?_append, List.find?_eq_none.2 fun x mem => by simpa using earlier x mem,
    List.find?_cons_of_pos (by simp [here])]
  rfl

theorem burstMessage_of_record {before after : List JournalRecord} {r : JournalRecord} (ending : b.ending = none)
    (more : b.count = 0 ∨ b.sent ≠ b.count) (records : s.journal.records = before ++ r :: after)
    (here : r.seq = b.next) (earlier : ∀ x ∈ before, x.seq ≠ b.next) :
    burstMessage s.journal b = (.record r, { b with next := nextSeq b.next }) := by
  unfold burstMessage
  rw [ending, records, find?_seq_append here earlier]
  exact if_neg fun ⟨asked, done⟩ => more.elim asked (absurd done)

theorem burstMessage_of_noMore (ending : b.ending = none) (more : b.count = 0 ∨ b.sent ≠ b.count)
    (absent : ∀ r ∈ s.journal.records, r.seq ≠ b.next) :
    burstMessage s.journal b = (s.journalEnd b .noMore, { b with ending := some .noMore }) := by
  unfold burstMessage
  rw [ending, List.find?_eq_none.2 fun x mem => by simpa using absent x mem]
  exact if_neg fun ⟨asked, done⟩ => more.elim asked (absurd done)
end

/-! ## The notice queue (09 R194, R195) -/

/-- The level found is that of a queued notice below the one offered, and no queued notice is below it. -/
theorem lowestBelow_spec (level : Nat) (l : List Notice) :
    match lowestBelow level l with
    | none => ∀ x ∈ l, level ≤ x.level
    | some k => k < level ∧ (∃ x ∈ l, x.level = k) ∧ ∀ x ∈ l, k ≤ x.level := by
  induction l with
  | nil => simp [lowestBelow]
  | cons n l ih =>
    unfold lowestBelow
    dsimp only
    by_cases below : n.level < level
    · rw [if_pos below]
      cases found : lowestBelow level l with
      | none =>
        rw [found] at ih
        refine ⟨below, ⟨n, List.mem_cons_self, rfl⟩, List.forall_mem_cons.2 ⟨le_rfl, fun x mem => ?_⟩⟩
        exact below.le.trans (ih x mem)
      | some k =>
        rw [found] at ih
        obtain ⟨lower, ⟨x, mem, here⟩, least⟩ := ih
        refine ⟨(min_le_left _ _).trans_lt lower, ?_, List.forall_mem_cons.2 ⟨min_le_right _ _, fun y hy =>
          (min_le_left _ _).trans (least y hy)⟩⟩
        rcases le_total k n.level with first | first
        · exact ⟨x, List.mem_cons_of_mem n mem, by rw [here]; exact (min_eq_left first).symm⟩
        · exact ⟨n, List.mem_cons_self, (min_eq_right first).symm⟩
    · rw [if_neg below]
      cases found : lowestBelow level l with
      | none =>
        rw [found] at ih
        exact List.forall_mem_cons.2 ⟨not_lt.1 below, ih⟩
      | some k =>
        rw [found] at ih
        obtain ⟨lower, ⟨x, mem, here⟩, least⟩ := ih
        exact ⟨lower, ⟨x, List.mem_cons_of_mem n mem, here⟩,
          List.forall_mem_cons.2 ⟨lower.le.trans (not_lt.1 below), least⟩⟩

theorem lowestBelow_eq_none {level : Nat} {l : List Notice} (above : ∀ x ∈ l, level ≤ x.level) :
    lowestBelow level l = none := by
  have spec := lowestBelow_spec level l
  cases found : lowestBelow level l with
  | none => rfl
  | some k =>
    rw [found] at spec
    obtain ⟨lower, ⟨x, mem, here⟩, -⟩ := spec
    have := above x mem
    omega

theorem lowestBelow_eq_some {level : Nat} {l : List Notice} {m : Notice} (mem : m ∈ l) (below : m.level < level)
    (least : ∀ x ∈ l, m.level ≤ x.level) : lowestBelow level l = some m.level := by
  have spec := lowestBelow_spec level l
  cases found : lowestBelow level l with
  | none =>
    rw [found] at spec
    have := spec m mem
    omega
  | some k =>
    rw [found] at spec
    obtain ⟨-, ⟨x, here, level⟩, lowest⟩ := spec
    rw [Nat.le_antisymm (lowest m mem) (level ▸ least x here)]

section
variable {n : Notice} {k : Link}

theorem Link.offer_of_room (room : k.notices.length < 32) : k.offer n = { k with notices := k.notices ++ [n] } :=
  if_pos room

theorem Link.offer_discards (full : 32 ≤ k.notices.length) (above : ∀ m ∈ k.notices, n.level ≤ m.level) :
    k.offer n = { k with overflow := true } := by
  unfold Link.offer
  rw [if_neg (by omega), lowestBelow_eq_none above]

/-- The notice that leaves is the first of the lowest level queued. -/
theorem Link.offer_displaces {before after : List Notice} {m : Notice} (full : 32 ≤ k.notices.length)
    (notices : k.notices = before ++ m :: after) (below : m.level < n.level)
    (older : ∀ x ∈ before, m.level < x.level) (newer : ∀ x ∈ after, m.level ≤ x.level) :
    k.offer n = { k with notices := before ++ after ++ [n], displaced := true } := by
  have lowest : lowestBelow n.level k.notices = some m.level := by
    refine lowestBelow_eq_some (by rw [notices]; simp) below fun x mem => ?_
    rw [notices, List.mem_append, List.mem_cons] at mem
    rcases mem with old | rfl | new
    · exact (older x old).le
    · exact le_rfl
    · exact newer x new
  have leaves : k.notices.eraseP (fun x => x.level == m.level) = before ++ after := by
    rw [notices, List.eraseP_append_right _ fun x mem => by simpa using (older x mem).ne',
      List.eraseP_cons_of_pos (by simp)]
  unfold Link.offer
  rw [if_neg (by omega), lowest]
  dsimp only
  rw [leaves]
end

end Sys2Proof.Machine
end

section
/-! PROOFS. The bytes on HTX: a journal record's layout, and each message's frame (O54; 06 R135; 09 R185, R190,
R193). -/
namespace Sys2Proof.Machine
set_option Elab.async false

/-! ## Fields one after another -/

/-- The field a body begins with. -/
theorem numAt_putNum (w n : Nat) (rest : List Byte) : numAt (putNum w n ++ rest) 0 w = n % 256 ^ w :=
  numAt_field [] rest w n

/-- A body that is one field. -/
theorem numAt_putNum_last (w n : Nat) : numAt (putNum w n) 0 w = n % 256 ^ w := by
  simpa using numAt_putNum w n []

/-- A field that stands behind another one. -/
theorem numAt_putNum_skip {v at' : Nat} (behind : v ≤ at') (n w : Nat) (rest : List Byte) :
    numAt (putNum v n ++ rest) at' w = numAt rest (at' - v) w := by
  have skipped : (putNum v n ++ rest).drop at' = rest.drop (at' - v) := by
    rw [List.drop_append, putNum_length, List.drop_eq_nil_of_le (by rwa [putNum_length]), List.nil_append]
  unfold numAt
  rw [skipped]

theorem putIndex_eq {n : Nat} (i : Option (Fin n)) : putIndex i = putNum 1 (indexCode i) := by
  cases i with
  | none => simp [putIndex, indexCode, putNum]
  | some i => rfl

theorem indexCode_mod {n : Nat} (small : n ≤ 256) (i : Option (Fin n)) : indexCode i % 256 = indexCode i := by
  refine Nat.mod_eq_of_lt ?_
  cases i with
  | none => show 255 < 256; omega
  | some i => exact i.isLt.trans_le small

/-! ## Flags in a number (09 R191) -/

theorem flagBits_testBit (l : List Bool) (i : Nat) : (flagBits l).testBit i = l.getD i false := by
  induction l generalizing i with
  | nil => simp [flagBits]
  | cons b l ih =>
    unfold flagBits
    cases i with
    | zero => cases b <;> simp [Nat.testBit_zero]
    | succ i =>
      have half : (b.toNat + 2 * flagBits l) / 2 = flagBits l := by
        have := b.toNat_le
        omega
      rw [Nat.testBit_succ, half, ih, List.getD_cons_succ]

theorem flagBits_lt (l : List Bool) : flagBits l < 2 ^ l.length := by
  induction l with
  | nil => simp [flagBits]
  | cons b l ih =>
    have bit : b.toNat ≤ 1 := Bool.toNat_le b
    unfold flagBits
    rw [List.length_cons, Nat.pow_succ]
    omega

/-- A field of w bits that holds flags shows each of them at its place. -/
theorem getLsbD_flagBits {w i : Nat} (l : List Bool) (inside : i < w) :
    (BitVec.ofNat w (flagBits l)).getLsbD i = l.getD i false := by
  rw [BitVec.getLsbD_ofNat, flagBits_testBit]
  simp [inside]

/-- No bit stands above the flags. -/
theorem ofNat_flagBits_lt {w : Nat} (l : List Bool) (fits : l.length < w) :
    BitVec.ofNat w (flagBits l) < BitVec.ofNat w (2 ^ l.length) := by
  have bound : 2 ^ l.length < 2 ^ w := Nat.pow_lt_pow_right (by omega) fits
  have few := flagBits_lt l
  rw [BitVec.lt_def, BitVec.toNat_ofNat, BitVec.toNat_ofNat, Nat.mod_eq_of_lt bound, Nat.mod_eq_of_lt (few.trans bound)]
  exact few

/-! ## A journal record (06 R135) -/

/-- The flags of a record, the one of bit 0 first. -/
def JournalFlags.toList (f : JournalFlags) : List Bool :=
  [f.short, f.clamped, f.hoursBackward, f.hoursJump, f.tempHeld, f.tempClamped, f.rateCapped, f.saturated, f.valveHeld,
    f.burnHigh, f.serviceReset]

/-- Which of a record's optional fields stand, the one of bit 0 first. -/
def JournalRecord.presence (r : JournalRecord) : List Bool :=
  [r.firstFlow.isSome, r.hourReading.isSome, r.burn.isSome]

theorem EndCause.code_eq (c : EndCause) : c.code % 256 = endCauseCode c := by cases c <;> rfl

/-- The number of a signed field of two bytes. -/
theorem intAt_of_numAt {b : List Byte} {at' : Nat} {v : Int} (field : numAt b at' 2 = (v % 65536).toNat)
    (low : -32768 ≤ v) (high : v ≤ 32767) : intAt b at' 2 = v := by
  unfold intAt
  rw [field]
  simp only [Nat.reduceMul, Nat.reduceSub, Nat.reducePow, Int.reducePow]
  split <;> omega

/-- A record's body, field after field. -/
theorem JournalRecord.body_fields (r : JournalRecord) :
    r.body =
      putNum 4 r.seq ++ (putNum 1 r.lane.val ++ (putNum 1 (indexCode r.product) ++ (putNum 1 (indexCode r.tank)
        ++ (putNum 1 r.cause.code ++ (putNum 2 r.machine.val ++ (putNum 2 r.operator ++ (putNum 4 r.authTime
        ++ (putNum 4 (r.firstFlow.getD 0) ++ (putNum 4 r.endTime ++ (putNum 4 r.preset ++ (putNum 6 r.gross
        ++ (putNum 6 r.net ++ (putNum 4 r.peak ++ (putNum 2 (r.endTemp % 65536).toNat
        ++ (putNum 4 (r.hourReading.getD 0) ++ (putNum 4 r.accrued ++ (putNum 2 (r.burn.getD 0)
        ++ (putNum 4 r.period ++ (putNum 2 r.flags.bits
        ++ putNum 1 (flagBits r.presence)))))))))))))))))))) := by
  unfold JournalRecord.body JournalRecord.presence
  simp only [putIndex_eq, putInt, List.append_assoc, Int.reducePow]

theorem JournalRecord.body_length (r : JournalRecord) : r.body.length = 63 := by
  rw [r.body_fields]
  simp only [List.length_append, putNum_length]

theorem ofNat_mod_two_pow (w n : Nat) : BitVec.ofNat w (n % 2 ^ w) = BitVec.ofNat w n :=
  BitVec.eq_of_toNat_eq (by simp)

/-- The flags of a record as its two bytes show them. -/
theorem JournalRecord.body_flags (r : JournalRecord) :
    BitVec.ofNat 16 (numAt r.body 60 2) = BitVec.ofNat 16 r.flags.bits := by
  rw [r.body_fields]
  simp only [numAt_putNum_skip, numAt_putNum, Nat.reduceLeDiff, Nat.reduceSub]
  exact ofNat_mod_two_pow 16 _

/-- The presence bits of a record as its last byte shows them. -/
theorem JournalRecord.body_present (r : JournalRecord) :
    BitVec.ofNat 8 (numAt r.body 62 1) = BitVec.ofNat 8 (flagBits r.presence) := by
  rw [r.body_fields]
  simp only [numAt_putNum_skip, numAt_putNum_last, Nat.reduceLeDiff, Nat.reduceSub]
  exact ofNat_mod_two_pow 8 _

/-- The temperature of a record as its two bytes show it. -/
theorem JournalRecord.body_endTemp (r : JournalRecord) (low : -32768 ≤ r.endTemp) (high : r.endTemp ≤ 32767) :
    intAt r.body 44 2 = r.endTemp := by
  refine intAt_of_numAt ?_ low high
  rw [r.body_fields]
  simp only [numAt_putNum_skip, numAt_putNum, Nat.reduceLeDiff, Nat.reduceSub]
  omega

theorem JournalFlags.bits_shown (f : JournalFlags) :
    let flags := BitVec.ofNat 16 f.bits
    flags.getLsbD 0 = f.short ∧ flags.getLsbD 1 = f.clamped ∧ flags.getLsbD 2 = f.hoursBackward
      ∧ flags.getLsbD 3 = f.hoursJump ∧ flags.getLsbD 4 = f.tempHeld ∧ flags.getLsbD 5 = f.tempClamped
      ∧ flags.getLsbD 6 = f.rateCapped ∧ flags.getLsbD 7 = f.saturated ∧ flags.getLsbD 8 = f.valveHeld
      ∧ flags.getLsbD 9 = f.burnHigh ∧ flags.getLsbD 10 = f.serviceReset ∧ flags < 0x800 := by
  have bits : f.bits = flagBits f.toList := rfl
  have few : BitVec.ofNat 16 (flagBits f.toList) < BitVec.ofNat 16 (2 ^ 11) := ofNat_flagBits_lt f.toList
    (by simp [JournalFlags.toList])
  simp only [bits, getLsbD_flagBits, Nat.reduceLT]
  exact ⟨rfl, rfl, rfl, rfl, rfl, rfl, rfl, rfl, rfl, rfl, rfl, few⟩

theorem JournalRecord.presence_shown (r : JournalRecord) :
    let present := BitVec.ofNat 8 (flagBits r.presence)
    present.getLsbD 0 = r.firstFlow.isSome ∧ present.getLsbD 1 = r.hourReading.isSome
      ∧ present.getLsbD 2 = r.burn.isSome ∧ present < 8 := by
  have few : BitVec.ofNat 8 (flagBits r.presence) < BitVec.ofNat 8 (2 ^ 3) := ofNat_flagBits_lt r.presence
    (by simp [JournalRecord.presence])
  simp only [getLsbD_flagBits, Nat.reduceLT]
  exact ⟨rfl, rfl, rfl, few⟩

/-- A record's bytes carry every field at its place (06 R135). -/
theorem JournalRecord.body_laidOut (r : JournalRecord) : r.laidOut r.body := by
  have lane : r.lane.val % 256 = r.lane.val := Nat.mod_eq_of_lt (by omega)
  have machine : r.machine.val % 65536 = r.machine.val := Nat.mod_eq_of_lt (by omega)
  unfold JournalRecord.laidOut
  rw [r.body_flags, r.body_present]
  refine ⟨r.body_length, ?_, ?_, ?_, ?_, ?_, ?_, ?_, ?_, ?_, ?_, ?_, ?_, ?_, ?_, r.body_endTemp, ?_, ?_, ?_, ?_,
    r.flags.bits_shown, r.presence_shown⟩
  all_goals
    rw [r.body_fields]
    simp only [numAt_putNum_skip, numAt_putNum, Nat.reduceLeDiff, Nat.reduceSub, Nat.reducePow, le_refl, lane, machine,
      indexCode_mod, EndCause.code_eq]

/-! ## The frames (09 R185, R190, R193) -/

theorem statusCode_eq (st : Status) : putNum 1 st.code = [statusCode st] := by cases st <;> rfl

theorem noticeKind_eq (b : NoticeBody) : b.kind = noticeKind b := by cases b <;> rfl

theorem putNum_four (n : Nat) :
    putNum 4 n =
      [BitVec.ofNat 8 (n / 16777216), BitVec.ofNat 8 (n / 65536), BitVec.ofNat 8 (n / 256), BitVec.ofNat 8 n] := by
  simp only [putNum, Nat.reducePow, Nat.div_one]

/-- The bytes on HTX are the message's frame whole. -/
theorem State.hostBytes_of_line {s : State} {m : TxMessage} (line : s.link.line = some m) :
    s.hostBytes = wholeFrame m.parts.1 m.parts.2.1 m.parts.2.2 := by
  unfold State.hostBytes
  rw [line]
  exact frameBytes_whole _ _ _

theorem State.hostBytes_of_reply {s : State} {r : Reply} (line : s.link.line = some (.reply r)) :
    s.hostBytes = wholeFrame (r.kind + 0x40) r.tag (statusCode r.answer.status :: r.answer.payload.body) := by
  rw [State.hostBytes_of_line line]
  show wholeFrame _ _ (putNum 1 r.answer.status.code ++ _) = _
  rw [statusCode_eq]
  rfl

theorem State.hostBytes_of_record {s : State} {r : JournalRecord} (line : s.link.line = some (.record r)) :
    s.hostBytes = wholeFrame 0x80 0 r.body := by
  rw [State.hostBytes_of_line line]
  rfl

theorem State.hostBytes_of_journalEnd {s : State} {e : JournalEnd} (line : s.link.line = some (.journalEnd e)) :
    s.hostBytes = wholeFrame 0x81 0 e.body := by
  rw [State.hostBytes_of_line line]
  rfl

theorem State.hostBytes_of_notice {s : State} {n : Notice} (line : s.link.line = some (.notice n)) :
    s.hostBytes = wholeFrame (noticeKind n.body) 0
      ([BitVec.ofNat 8 (n.time / 16777216), BitVec.ofNat 8 (n.time / 65536), BitVec.ofNat 8 (n.time / 256),
        BitVec.ofNat 8 n.time] ++ n.body.body) := by
  rw [State.hostBytes_of_line line]
  show wholeFrame n.body.kind 0 (putNum 4 n.time ++ n.body.body) = _
  rw [noticeKind_eq, putNum_four]

end Sys2Proof.Machine

namespace Sys2Proof
open Sys2Proof.Machine
set_option Elab.async false

/-- Settles O54: the arbiter's choice by what the line, the reply slot, the burst and the queue hold; the queue's
admission by the lowest level it holds; and each message's frame by its kind. -/
theorem arbiterOrder : Obligations.ArbiterOrder := by
  refine ⟨fun s running => ⟨State.kick_of_busy, fun r => State.kick_of_reply running,
      fun b line reply burst started => ⟨fun reason ending => ?_, fun ending asked done => ?_,
        fun before r after ending more records here earlier => ?_, fun ending more absent => ?_⟩,
      fun n rest => State.kick_of_notice running, State.kick_of_nothing running⟩,
    State.notify_linkRaising, fun n k => ⟨Link.offer_of_room, Link.offer_discards,
      fun before m after full notices below older newer => Link.offer_displaces full notices below older newer⟩,
    fun b => ?_, fun s => ⟨fun line => ?_, fun r => State.hostBytes_of_reply,
      fun r line => ⟨State.hostBytes_of_record line, r.body_laidOut⟩, fun e => State.hostBytes_of_journalEnd,
      fun n => State.hostBytes_of_notice⟩⟩
  · rw [State.kick_of_burst running line reply burst started (burstMessage_of_ending ending), ← burst]
  · exact State.kick_of_burst running line reply burst started (burstMessage_of_countDone ending asked done)
  · exact State.kick_of_burst running line reply burst started
      (burstMessage_of_record ending more records here earlier)
  · exact State.kick_of_burst running line reply burst started (burstMessage_of_noMore ending more absent)
  · cases b <;> rfl
  · unfold State.hostBytes
    rw [line]
    rfl

end Sys2Proof
end

section
/-! PROOFS. The requests that arm, disarm and clear the bay (O33, O37; 07 R164 to R168). -/
namespace Sys2Proof.Machine
set_option Elab.async false

/-! ## Conditions read as the rules state them -/

theorem PressState.held_iff (p : PressState) : p.held = true ↔ p ≠ .noPress := by
  cases p <;> simp [PressState.held]

theorem PressState.held_eq (p : PressState) : p.held = decide (p ≠ .noPress) :=
  Bool.eq_iff_iff.2 (p.held_iff.trans decide_eq_true_iff.symm)

theorem LaneState.atRest_iff (l : LaneState) : l.atRest = true ↔ l = .idle ∨ l = .done := by
  cases l <;> simp [LaneState.atRest]

/-- A set is empty exactly when nothing satisfies what it is the set of. -/
theorem maskOf_eq_zero_iff (p : Fin 8 → Bool) : maskOf p = 0 ↔ ∀ i, p i = false :=
  ⟨maskOf_eq_zero, fun none => Mask.ext_members fun i => by rw [maskOf_getLsbD, none]; simp⟩

theorem maskOf_ne_zero_iff (p : Fin 8 → Bool) : maskOf p ≠ 0 ↔ ∃ i, p i = true := by
  rw [Ne, maskOf_eq_zero_iff]
  simp

/-! ## BAY-ARM (07 R167) -/

theorem bayArm_blocked {s : State} (disarmed : s.shutdown.bay = .disarmed)
    (present : s.shutdown.sumps ≠ 0 ∨ s.shutdown.press ≠ .noPress) :
    bayArm s = (⟨.conditionPresent, .armBlocked s.shutdown.sumps (decide (s.shutdown.press ≠ .noPress))⟩, s) := by
  unfold bayArm
  rw [if_neg (not_not.2 disarmed), PressState.held_eq, if_pos (present.imp_right decide_eq_true)]

theorem bayArm_clear {s : State} (disarmed : s.shutdown.bay = .disarmed) (dry : s.shutdown.sumps = 0)
    (free : s.shutdown.press = .noPress) :
    bayArm s = (accept (.bay .armed), s.modShutdown fun u => { u with bay := .armed }) := by
  unfold bayArm
  rw [if_neg (not_not.2 disarmed), if_neg]
  rw [dry, free]
  simp [PressState.held]

/-! ## BAY-DISARM (07 R168) -/

/-- The lanes that keep the bay from being disarmed. -/
def State.workingLanes (s : State) : Mask := maskOf fun i => !(s.lane i).state.atRest

/-- The tanks that keep the bay from being disarmed. -/
def State.openTanks (s : State) : Mask := maskOf fun t => (s.tank t).inlet

theorem State.workingLanes_getLsbD (s : State) (i : Fin 8) :
    s.workingLanes.getLsbD i.val = true ↔ ¬ ((s.lane i).state = .idle ∨ (s.lane i).state = .done) := by
  unfold State.workingLanes
  rw [maskOf_getLsbD, ← LaneState.atRest_iff]
  simp

theorem State.openTanks_getLsbD (s : State) (t : Fin 8) : s.openTanks.getLsbD t.val = (s.tank t).inlet :=
  maskOf_getLsbD _ t

theorem bayDisarm_busy {s : State} (armed : s.shutdown.bay = .armed)
    (busy : (∃ i, ¬ ((s.lane i).state = .idle ∨ (s.lane i).state = .done)) ∨ ∃ t, (s.tank t).inlet = true) :
    bayDisarm s = (⟨.busy, .masks s.workingLanes s.openTanks⟩, s) := by
  have found : s.workingLanes ≠ 0 ∨ s.openTanks ≠ 0 := by
    refine busy.imp (fun ⟨i, works⟩ => (maskOf_ne_zero_iff _).2 ⟨i, ?_⟩) (maskOf_ne_zero_iff _).2
    rw [← LaneState.atRest_iff] at works
    simpa using works
  exact (if_neg (not_not.2 armed)).trans (if_pos found)

theorem bayDisarm_idle {s : State} (armed : s.shutdown.bay = .armed)
    (idle : ∀ i, (s.lane i).state = .idle ∨ (s.lane i).state = .done) (shut : ∀ t, (s.tank t).inlet = false) :
    bayDisarm s = (accept (.bay .disarmed), (s.modShutdown fun u => { u with bay := .disarmed }).stopHeaders) := by
  have lanes : s.workingLanes = 0 := (maskOf_eq_zero_iff _).2 fun i => by
    rw [(LaneState.atRest_iff _).2 (idle i)]; rfl
  have tanks : s.openTanks = 0 := (maskOf_eq_zero_iff _).2 shut
  exact (if_neg (not_not.2 armed)).trans (if_neg (not_or.2 ⟨not_not.2 lanes, not_not.2 tanks⟩))

theorem State.headers_eq_of_header {s : State} {headers : Vector Header 6} (h : ∀ k, s.header k = headers[k]) :
    s.headers = headers :=
  Vector.ext fun j hj => h ⟨j, hj⟩

/-- The headers stopped, as one state (03 R69). -/
theorem State.stopHeaders_eq (s : State) :
    s.stopHeaders =
      { s with
        headers := Vector.ofFn fun h => (s.header h).barred
        slot := { s.slot with queue := s.stopHeaders.slot.queue }
        lanes := Vector.ofFn fun i =>
          if (s.lane i).record.product = none then s.lane i else { s.lane i with arbiterGrant := .hold } } := by
  obtain ⟨header, lane, slot⟩ := s.stopHeaders_barred
  have headers : s.stopHeaders.headers = Vector.ofFn fun h => (s.header h).barred :=
    State.headers_eq_of_header fun h => by rw [header, Fin.getElem_fin, Vector.getElem_ofFn]
  have lanes : s.stopHeaders.lanes = Vector.ofFn fun i =>
      if (s.lane i).record.product = none then s.lane i else (s.lane i).held :=
    State.lanes_eq_of_lane fun i => by rw [lane, Fin.getElem_fin, Vector.getElem_ofFn]
  apply State.ext_fields <;> simp only [State.stopHeaders_frame]
  · exact lanes
  · exact headers
  · exact slot

/-! ## BAY-CLEAR (07 R164 to R166) -/

theorem causeCode_eq_none {n : Nat} (h : 6 < n) : causeCode n = none := by
  unfold causeCode
  split
  case h_8 => rfl
  all_goals omega

theorem Tank.overHigh_iff (k : Tank) : k.overHigh = true ↔ ∃ h, k.held = some h ∧ k.record.highHigh ≤ h.level := by
  unfold Tank.overHigh
  cases k.held <;> simp

/-- A member is present when the record names it and its kind's condition holds of it (07 R165). -/
theorem State.conditionMembers_getLsbD (s : State) (r : CauseRecord) (i : Fin 8) :
    (s.conditionMembers r).getLsbD i.val = true ↔
      r.detail.getLsbD i.val = true
        ∧ ((r.kind = .sump ∧ s.shutdown.sumps.getLsbD i.val = true)
          ∨ (r.kind = .overfill ∧ ∃ h, (s.tank i).held = some h ∧ (s.tank i).record.highHigh ≤ h.level)
          ∨ (r.kind = .runaway ∧ (s.lane i).quietRun < 5)) := by
  unfold State.conditionMembers
  cases kind : r.kind
  case sump => simp
  case overfill =>
    rw [BitVec.getLsbD_and, maskOf_getLsbD, Bool.and_eq_true, Tank.overHigh_iff]
    simp
  case runaway =>
    rw [BitVec.getLsbD_and, maskOf_getLsbD, Bool.and_eq_true, decide_eq_true_iff]
    simp
  case hose | estop | tankleak | command => simp

theorem State.conditionPresent_iff (s : State) (r : CauseRecord) :
    s.conditionPresent r = true ↔ s.conditionMembers r ≠ 0 ∨ (r.kind = .estop ∧ s.shutdown.press ≠ .noPress) := by
  unfold State.conditionPresent
  rw [Bool.or_eq_true, Bool.and_eq_true, PressState.held_iff]
  simp

theorem bayClear_range {n : Nat} (s : State) (h : 6 < n) : bayClear n s = (refuse .range, s) := by
  unfold bayClear
  rw [causeCode_eq_none h]

theorem bayClear_open {s : State} (kind : CauseKind) (bay : s.shutdown.bay ≠ .shut) :
    bayClear kind.code s = (refuse .bayState, s) := by
  unfold bayClear
  rw [causeCode_code]
  exact if_pos bay

section
variable {s : State} {top : CauseRecord} {rest : List CauseRecord}

/-- In SHUT the answer goes by the top record: its kind, its condition, and its removal. -/
theorem bayClear_shut (kind : CauseKind) (shut : s.shutdown.bay = .shut) (stack : s.shutdown.stack = top :: rest) :
    bayClear kind.code s =
      if top.kind ≠ kind then (⟨.wrongRecord, .topKind (some top.kind)⟩, s)
      else if s.conditionPresent top then (⟨.conditionPresent, .members (s.conditionMembers top)⟩, s)
      else
        (accept (.cleared kind rest.length (rest.head?.map CauseRecord.kind) (if rest = [] then .disarmed else .shut)),
          s.modShutdown fun u => { u with stack := rest, bay := if rest = [] then .disarmed else .shut }) := by
  unfold bayClear
  rw [causeCode_code]
  dsimp only
  rw [if_neg (not_not.2 shut), stack]
  simp only [List.isEmpty_iff]

theorem bayClear_present (shut : s.shutdown.bay = .shut) (stack : s.shutdown.stack = top :: rest)
    (present : s.conditionMembers top ≠ 0 ∨ (top.kind = .estop ∧ s.shutdown.press ≠ .noPress)) :
    bayClear top.kind.code s = (⟨.conditionPresent, .members (s.conditionMembers top)⟩, s) := by
  rw [bayClear_shut _ shut stack, if_neg (not_not.2 rfl), if_pos ((s.conditionPresent_iff top).2 present)]

theorem bayClear_pops (shut : s.shutdown.bay = .shut) (stack : s.shutdown.stack = top :: rest)
    (absent : s.conditionMembers top = 0) (free : top.kind ≠ .estop ∨ s.shutdown.press = .noPress) :
    bayClear top.kind.code s =
      (accept (.cleared top.kind rest.length (rest.head?.map CauseRecord.kind)
          (if rest = [] then .disarmed else .shut)),
        s.modShutdown fun u => { u with stack := rest, bay := if rest = [] then .disarmed else .shut }) := by
  have clear : ¬ s.conditionPresent top = true := by
    rw [State.conditionPresent_iff]
    rintro (members | ⟨estop, press⟩)
    · exact members absent
    · exact free.elim (fun kind => kind estop) press
  rw [bayClear_shut _ shut stack, if_neg (not_not.2 rfl), if_neg clear]

end

end Sys2Proof.Machine

namespace Sys2Proof
open Sys2Proof.Machine
set_option Elab.async false

/-- Settles O33: each request by the bay state and what stands in its way, and the headers stopped as one state. -/
theorem bayArmAndDisarm : Obligations.BayArmAndDisarm := by
  refine ⟨fun tag s ready => ⟨fun bay => ?_, fun disarmed present => ?_, fun disarmed dry free => ?_⟩,
    fun tag s ready => ⟨fun bay => ?_, fun armed busy => ?_, fun armed idle shut => ?_⟩⟩
  · exact event_request_exact ready _ _ _ _ ready.1 (if_pos bay)
  · exact event_request_exact ready _ _ _ _ ready.1 (bayArm_blocked disarmed present)
  · exact event_request_exact ready _ _ _ _ ready.1 (bayArm_clear disarmed dry free)
  · exact event_request_exact ready _ _ _ _ ready.1 (if_pos bay)
  · exact ⟨s.workingLanes, s.openTanks, event_request_exact ready _ _ _ _ ready.1 (bayDisarm_busy armed busy),
      s.workingLanes_getLsbD, s.openTanks_getLsbD⟩
  · refine ⟨(s.modShutdown fun u => { u with bay := .disarmed }).stopHeaders.slot.queue, fun law => ?_, ?_⟩
    · exact State.stopHeaders_queue (law.of_fields rfl rfl)
    · refine event_request_exact ready _ _ _ _ ready.1 ((bayDisarm_idle armed idle shut).trans ?_)
      exact congrArg (Prod.mk _) (State.stopHeaders_eq _)

/-- Settles O37: a code out of range, a bay not SHUT, and in SHUT the top record's kind and condition, in this
order. -/
theorem bayClearPopsTop : Obligations.BayClearPopsTop := by
  refine ⟨fun tag n s ready h => ?_, fun tag kind s ready => ⟨fun bay => ?_, fun top rest shut stack =>
    ⟨fun other => ?_, ?_⟩⟩⟩
  · exact event_request_exact ready _ _ _ _ ready.1 (bayClear_range s h)
  · exact event_request_exact ready _ _ _ _ ready.1 (bayClear_open kind bay)
  · exact event_request_exact ready _ _ _ _ ready.1 ((bayClear_shut kind shut stack).trans (if_pos other))
  · rintro rfl
    refine ⟨s.conditionMembers top, s.conditionMembers_getLsbD top, fun present => ?_, fun absent free => ?_⟩
    · exact event_request_exact ready _ _ _ _ ready.1 (bayClear_present shut stack present)
    · exact event_request_exact ready _ _ _ _ ready.1 (bayClear_pops shut stack absent free)

end Sys2Proof
end

section
/-! PROOFS. The events that raise a cause, and the lanes' reports to the Shutdown Unit (O34, O35; 07 R148, R151, R152,
R154, R159 to R161). -/
namespace Sys2Proof.Machine
set_option Elab.async false

/-- A running part whose bus law holds has an idle bus at rest (04 R84). -/
theorem State.busLawful.rests {s : State} (law : s.busLawful) (running : s.power = .running) : s.busRests :=
  (law running).2

/-! ## BAY-SHUTDOWN, the sumps and the long press (07 R148, R151, R154) -/

theorem bayShutdown_eq (s : State) :
    bayShutdown s =
      (⟨.accepted, .shutdownTaken (s.raise .command 0).shutdown.bay (s.raise .command 0).shutdown.stack.length
        (decide (s.shutdown.bay = .armed ∨ s.shutdown.bay = .disarmed))⟩, s.raise .command 0) := by
  have entry : (s.shutdown.bay == .armed || s.shutdown.bay == .disarmed) =
      decide (s.shutdown.bay = .armed ∨ s.shutdown.bay = .disarmed) := by
    cases s.shutdown.bay <;> rfl
  unfold bayShutdown
  rw [entry]
  rfl

theorem sumpActive_held {n : Fin 4} {active : Bool} {s : State} (level : s.shutdown.sumps.getLsbD n.val = active) :
    sumpActive n active s = s := if_pos level

theorem sumpActive_rises {n : Fin 4} {s : State} (level : s.shutdown.sumps.getLsbD n.val = false) :
    sumpActive n true s =
      (s.modShutdown fun u => { u with sumps := u.sumps ||| (1#8 <<< n.val) }).raise .sump (1#8 <<< n.val) := by
  unfold sumpActive
  rw [if_neg (by rw [level]; simp)]
  rfl

theorem sumpActive_falls {n : Fin 4} {s : State} (level : s.shutdown.sumps.getLsbD n.val = true) :
    sumpActive n false s = s.modShutdown fun u => { u with sumps := u.sumps &&& ~~~(1#8 <<< n.val) } := by
  unfold sumpActive
  rw [if_neg (by rw [level]; simp)]
  rfl

/-! ## A valve failure or creep report (07 R152, R161) -/

/-- The reports of a kind that a lane has sent and that are not yet taken. -/
def Lane.reports (reason : LockoutReason) (l : Lane) : Nat :=
  if reason = .valveHeld then l.valveReports else l.creepReports

/-- The lane once one report of a kind has been taken. -/
def Lane.reportTaken (reason : LockoutReason) (l : Lane) : Lane :=
  if reason = .valveHeld then { l with valveReports := l.valveReports - 1 }
  else { l with creepReports := l.creepReports - 1 }

/-- The row that takes a report of a kind. -/
def reportRow (reason : LockoutReason) (i : Fin 8) : Instr :=
  if reason = .valveHeld then .valveFailureReport i else .creepReport i

/-- Both rows take a report alike: nothing with none sent, else the report goes to the Shutdown Unit. -/
theorem exec_reportRow (reason : LockoutReason) (i : Fin 8) (s : State) :
    exec (reportRow reason i) s =
      event (fun s => if (s.lane i).reports reason = 0 then s
        else (s.modLane i (Lane.reportTaken reason)).laneReport i reason) s := by
  cases reason <;> rfl

/-- In SHUTTING and SHUT a report makes LOCKOUT, whose notice passes every mask (07 R161; 09 R194). -/
theorem State.laneReport_locks {s : State} (i : Fin 8) (reason : LockoutReason)
    (bay : s.shutdown.bay = .shutting ∨ s.shutdown.bay = .shut) :
    s.laneReport i reason =
      { s with
        shutdown := { s.shutdown with bay := .lockout, lockout := some ⟨i, reason, s.period.clock⟩, lockoutFlag := true }
        link := s.link.offer ⟨s.period.clock, .lockout i reason s.shutdown.stack.length
          (s.shutdown.stack.head?.map CauseRecord.kind)⟩ } := by
  unfold State.laneReport
  rcases bay with bay | bay
  · rw [bay]; rfl
  · rw [bay]; rfl

/-- In any other bay state it raises RUNAWAY (07 R152). -/
theorem State.laneReport_runaway {s : State} (i : Fin 8) (reason : LockoutReason) (shutting : s.shutdown.bay ≠ .shutting)
    (shut : s.shutdown.bay ≠ .shut) : s.laneReport i reason = s.raise .runaway (oneMember i) := by
  unfold State.laneReport
  split
  · rename_i bay; exact absurd bay shutting
  · rename_i bay; exact absurd bay shut
  all_goals rfl

end Sys2Proof.Machine

namespace Sys2Proof
open Sys2Proof.Machine
set_option Elab.async false

/-- Settles O34: each event by its level or press, and what raising the cause does. -/
theorem causesAreRaised : Obligations.CausesAreRaised := by
  refine ⟨fun tag s ready law => ?_, fun n s running law => ?_, fun s running law => ⟨fun pressed => ?_, fun other => ?_⟩⟩
  · refine ⟨s.raise .command 0, State.raise_raises (law.rests ready.1) _ _, ?_⟩
    exact event_request_exact ready _ _ _ _ (by simpa using ready.1) (bayShutdown_eq s)
  · refine ⟨fun dry => ⟨_, event_eq_settled running (sumpActive_rises dry), ?_⟩, fun wet => ?_, fun wet => ?_,
      fun dry => ?_⟩
    · exact State.raise_raises (s := s.modShutdown _) (law.rests running) _ _
    · exact event_eq_settled running (sumpActive_held wet)
    · exact event_eq_settled running (sumpActive_falls wet)
    · exact event_eq_settled running (sumpActive_held dry)
  · refine ⟨_, event_eq_settled running (if_pos pressed), ?_⟩
    exact State.raise_raises (s := s.modShutdown _) (law.rests running) _ _
  · exact event_eq_settled running (if_neg other)

/-- Settles O35: a report by whether one stands and by the bay state, and a report of leaving by whether it stands. -/
theorem laneReportsTaken : Obligations.LaneReportsTaken := by
  refine ⟨fun i reason s running law => ?_, fun i s running => ⟨fun none => ?_, fun left => ?_⟩⟩
  · show (Lane.reports reason (s.lane i) = 0 → exec (reportRow reason i) s = _) ∧ _
    refine ⟨fun none => ?_, fun sent bay => ?_, fun sent shutting shut => ?_⟩
    · exact (exec_reportRow reason i s).trans (event_eq_settled running (if_pos none))
    · refine (exec_reportRow reason i s).trans (event_eq_settled running ((if_neg (Nat.ne_of_gt sent)).trans ?_))
      exact State.laneReport_locks (s := s.modLane i _) i reason bay
    · refine ⟨_, (exec_reportRow reason i s).trans (event_eq_settled running ((if_neg (Nat.ne_of_gt sent)).trans
        (State.laneReport_runaway i reason shutting shut))), ?_⟩
      exact State.raise_raises (s := s.modLane i _) (law.rests running) _ _
  · exact event_eq_settled running (if_neg (by rw [none]; simp))
  · exact event_eq_settled running (if_pos left)

end Sys2Proof
end

section
/-! PROOFS. The lane stop of a short press: the lanes, and then the headers whose demand has ended (for O36; 01 R30;
03 R62, R63, R66; 07 R149, R150). -/
namespace Sys2Proof.Machine
set_option Elab.async false

/-! ## The lanes are stopped (01 R30) -/

/-- The lane stop's command to a lane, but for the pass that follows. -/
def Lane.stopAlone (elapsed : Nat) (l : Lane) : Lane :=
  match l.state with
  | .authorised => l.withdrawn
  | .waiting | .flowing | .trimming => l.closingOn .laneStop elapsed
  | .idle | .closing | .done => l

theorem Lane.stopAlone_record (elapsed : Nat) (l : Lane) : (l.stopAlone elapsed).record = l.record := by
  unfold Lane.stopAlone
  split <;> rfl

theorem Lane.stopAlone_demands (elapsed : Nat) (l : Lane) : (l.stopAlone elapsed).state.demands = false := by
  unfold Lane.stopAlone
  split
  case h_1 | h_2 | h_3 | h_4 => rfl
  all_goals
    rename_i state
    rw [state]
    rfl

/-- A lane stopped and then held is one held and then stopped. -/
theorem Lane.stopAlone_held (elapsed : Nat) (l : Lane) : (l.held).stopAlone elapsed = (l.stopAlone elapsed).held := by
  obtain ⟨record, state⟩ := l
  cases state <;> rfl

theorem State.lane_stopLane_same (i : Fin 8) (s : State) : (s.stopLane i).lane i = (s.lane i).stopAlone s.elapsed := by
  unfold State.stopLane Lane.stopAlone
  cases state : (s.lane i).state
  case authorised =>
    rw [if_pos rfl]
    exact State.lane_modLane_same i Lane.toIdle s
  case waiting | flowing | trimming =>
    rw [if_neg (by simp), if_pos (show LaneState.demands _ = true from rfl)]
    exact (State.lane_closeCore_same i .laneStop s).trans (Lane.enterClosing_eq _ _ _)
  case idle | closing | done => simp [LaneState.demands]

theorem State.lane_stopLane_ne (i j : Fin 8) (hj : j ≠ i) (s : State) : (s.stopLane i).lane j = s.lane j := by
  unfold State.stopLane
  split
  · exact State.lane_modLane_ne i j hj _ s
  · split
    · exact State.lane_closeCore_ne i j hj _ s
    · rfl

/-- The part once every lane has been stopped. -/
def State.lanesStopped (s : State) : State := eachOfEight State.stopLane s

theorem State.lane_lanesStopped (s : State) (i : Fin 8) : s.lanesStopped.lane i = (s.lane i).stopAlone s.elapsed :=
  eachOfEight_lane State.stopLane Lane.stopAlone (fun _ _ => by simp) State.lane_stopLane_same
    (fun i j t hj => State.lane_stopLane_ne i j hj t) s i

/-- A stopped lane that demanded joins the closing lanes, and an authorisation withdrawn frees its place. -/
theorem State.stopLane_reports (i : Fin 8) (s : State) :
    (s.stopLane i).shutdown =
        { s.shutdown with
          closing := if (s.lane i).state.demands then s.shutdown.closing ||| oneMember i else s.shutdown.closing }
      ∧ (s.stopLane i).journal =
        { s.journal with
          reserved := if (s.lane i).state = .authorised then s.journal.reserved - 1 else s.journal.reserved } := by
  unfold State.stopLane
  cases (s.lane i).state <;> exact ⟨rfl, rfl⟩

/-- The parts agree on the lanes' states, the Shutdown Unit and the journal. -/
def State.reportsAlike (s t : State) : Prop :=
  (∀ i, (s.lane i).state = (t.lane i).state) ∧ s.shutdown = t.shutdown ∧ s.journal = t.journal

/-- What a lane reports at its stop is what it reports at shutdown entry: only the end cause differs. -/
theorem State.reportsAlike.stopLane {s t : State} (alike : s.reportsAlike t) (i : Fin 8) :
    (s.stopLane i).reportsAlike (t.shutLane i) := by
  obtain ⟨states, shutdown, journal⟩ := alike
  obtain ⟨closes, frees⟩ := s.stopLane_reports i
  obtain ⟨closes', frees'⟩ := t.shutLane_reports i
  refine ⟨fun j => ?_, by rw [closes, closes', states, shutdown], by rw [frees, frees', states, journal]⟩
  by_cases hj : j = i
  · subst hj
    rw [State.lane_stopLane_same, State.lane_shutLane_same]
    unfold Lane.stopAlone Lane.shutAlone
    rw [← states j]
    cases (s.lane j).state
    case authorised | waiting | flowing | trimming => rfl
    case idle | closing | done => exact states j
  · rw [State.lane_stopLane_ne i j hj, State.lane_shutLane_ne i j hj]
    exact states j

theorem State.lanesStopped_reports (s : State) :
    s.lanesStopped.shutdown =
        { s.shutdown with closing := s.shutdown.closing ||| maskOf fun i => (s.lane i).state.demands }
      ∧ s.lanesStopped.journal = { s.journal with reserved := s.journal.reserved - s.authorisedLanes } := by
  have walk : ∀ (l : List (Fin 8)) (s t : State), s.reportsAlike t →
      (l.foldl (fun u i => u.stopLane i) s).reportsAlike (l.foldl (fun u i => u.shutLane i) t) := by
    intro l
    induction l with
    | nil => exact fun _ _ alike => alike
    | cons i l ih => exact fun _ _ alike => ih _ _ (alike.stopLane i)
  obtain ⟨-, shutdown, journal⟩ := walk eightNumbers s s ⟨fun _ => rfl, rfl, rfl⟩
  obtain ⟨closes, frees⟩ := s.shutLanes_reports
  exact ⟨shutdown.trans closes, journal.trans frees⟩

/-- Stopping the lanes moves the lanes, the journal's reservations and the Shutdown Unit alone. -/
theorem State.lanesStopped_eq (s : State) :
    s.lanesStopped =
      { s with
        lanes := Vector.ofFn fun i => (s.lane i).stopAlone s.elapsed
        journal := { s.journal with reserved := s.journal.reserved - s.authorisedLanes }
        shutdown := { s.shutdown with
          closing := s.shutdown.closing ||| maskOf fun i => (s.lane i).state.demands } } := by
  obtain ⟨shutdown, journal⟩ := s.lanesStopped_reports
  have kept : ∀ {α : Type} (π : State → α), (∀ i s, π (State.stopLane i s) = π s) → π s.lanesStopped = π s :=
    fun π keeps => eachOfEight_keeps π State.stopLane keeps s
  apply State.ext_fields
  case h6 => exact State.lanes_eq_of_lane fun i => by rw [s.lane_lanesStopped, Fin.getElem_fin, Vector.getElem_ofFn]
  case h14 => exact journal
  case h16 => exact shutdown
  all_goals exact kept _ fun i s => by simp

/-! ## The headers hear of it (03 R62, R63, R66) -/

/-- A header all of whose lanes have withdrawn their demand ends it, and leaves its lanes HOLD. -/
theorem State.demandLeft_ended {h : Fin 6} {t : State} (none : ∀ i, (t.lane i).state.demands = false)
    (some' : ∃ i, (t.lane i).record.product = some h) :
    (∀ k, (t.demandLeft h).header k =
        if k = h then (t.header h).demandEnded (t.product h) t.elapsed else t.header k)
      ∧ (t.demandLeft h).slot =
        (if (t.header h).pump = .queued then { t.slot with queue := t.slot.queue.erase h } else t.slot)
      ∧ (∀ i, (t.demandLeft h).lane i =
        if (t.lane i).record.product = some h then (t.lane i).held else t.lane i)
      ∧ t.demandLeft h =
        { t with lanes := (t.demandLeft h).lanes, headers := (t.demandLeft h).headers
                 slot := (t.demandLeft h).slot } := by
  obtain ⟨i, product⟩ := some'
  have ended : t.headerDemand h = false := by
    rw [Bool.eq_false_iff, Ne, State.headerDemand_iff]
    rintro ⟨j, -, demands⟩
    rw [none j] at demands
    cases demands
  have leaves := t.demandLeft_demandLeaves h i product
  unfold State.demandLeaves at leaves
  rw [product] at leaves
  obtain ⟨header, slot, pass, rest⟩ := leaves
  simp only [ended, and_true, true_and] at header slot
  refine ⟨header, slot, fun j => ?_, rest⟩
  rw [pass j, show (t.demandLeft h).grantFor h _ (t.lane j) = .hold from if_neg fun c => by simp [none j] at c]
  unfold Lane.withGrant Lane.held
  simp

/-- The start slot once some headers have left its queue. -/
def StartSlot.without (gone : Fin 6 → Bool) (k : StartSlot) : StartSlot :=
  { k with queue := k.queue.filter fun h => !gone h }

theorem StartSlot.without_none {gone : Fin 6 → Bool} (none : ∀ h, gone h = false) (k : StartSlot) :
    k.without gone = k := by
  simp [StartSlot.without, none]

theorem StartSlot.without_without (a b : Fin 6 → Bool) (k : StartSlot) :
    (k.without a).without b = k.without fun h => a h || b h := by
  simp [StartSlot.without, Bool.and_comm]

theorem StartSlot.erase_eq_without {k : StartSlot} (nodup : k.queue.Nodup) (h : Fin 6) :
    ({ k with queue := k.queue.erase h } : StartSlot) = k.without (· == h) := by
  rw [nodup.erase_eq_filter]
  rfl

/-- From t to u the headers of a list, none of whose lanes demands, have ended their demand. -/
structure State.demandsEnded (l : List (Fin 6)) (t u : State) : Prop where
  header : ∀ h, u.header h = if h ∈ l then (t.header h).demandEnded (t.product h) t.elapsed else t.header h
  lane : ∀ i, u.lane i = if ∃ h ∈ l, (t.lane i).record.product = some h then (t.lane i).held else t.lane i
  slot : t.slot.queue.Nodup → u.slot = t.slot.without fun h => decide (h ∈ l) && (t.header h).pump == .queued
  rest : u = { t with lanes := u.lanes, headers := u.headers, slot := u.slot }

theorem State.demandsEnded_nil (t : State) : t.demandsEnded [] t where
  header h := by simp
  lane i := by simp
  slot _ := (StartSlot.without_none (fun h => by simp) t.slot).symm
  rest := rfl

/-- One more header at the front ends its demand. -/
theorem State.demandsEnded.cons {k : Fin 6} {l : List (Fin 6)} {t u : State} (fresh : k ∉ l)
    (none : ∀ i, (t.lane i).state.demands = false) (some' : ∃ i, (t.lane i).record.product = some k)
    (ended : (t.demandLeft k).demandsEnded l u) : t.demandsEnded (k :: l) u := by
  obtain ⟨header, slot, lane, rest⟩ := State.demandLeft_ended none some'
  have products : ∀ h, (t.demandLeft k).product h = t.product h := fun h => by rw [rest]; rfl
  have elapsed : (t.demandLeft k).elapsed = t.elapsed := by rw [rest]
  obtain ⟨header', lane', slot', rest'⟩ := ended
  refine ⟨fun h => ?_, fun i => ?_, fun nodup => ?_, rest'.trans (by rw [rest])⟩
  · rw [header', header, products, elapsed]
    by_cases hk : h = k
    · subst hk
      simp [fresh]
    · simp [hk]
  · rw [lane', lane]
    by_cases on : (t.lane i).record.product = some k
    · simp [on, Lane.held]
    · simp [on]
  · have first : (t.demandLeft k).slot = t.slot.without fun h => h == k && (t.header k).pump == .queued := by
      rw [slot]
      split
      · rename_i queued
        rw [StartSlot.erase_eq_without nodup, queued]
        simp
      · rename_i out
        exact (StartSlot.without_none (fun h => by simp [out]) _).symm
    rw [slot' (by rw [first]; exact nodup.filter _), first, StartSlot.without_without]
    congr 1
    funext h
    rw [header]
    by_cases hk : h = k
    · simp [hk, fresh]
    · simp [hk]

theorem State.demandsEnded_foldl {l : List (Fin 6)} {t : State} (nodup : l.Nodup)
    (none : ∀ i, (t.lane i).state.demands = false) (some' : ∀ h ∈ l, ∃ i, (t.lane i).record.product = some h) :
    t.demandsEnded l (l.foldl (fun u h => u.demandLeft h) t) := by
  induction l generalizing t with
  | nil => exact t.demandsEnded_nil
  | cons k l ih =>
    obtain ⟨fresh, nodup⟩ := List.nodup_cons.1 nodup
    have moved := t.demandLeft_headerMoved k
    refine State.demandsEnded.cons fresh none (some' k List.mem_cons_self) (ih nodup (fun i => ?_) fun h mem => ?_)
    · rw [(moved.lanes i).state_eq]
      exact none i
    · obtain ⟨i, product⟩ := some' h (List.mem_cons_of_mem k mem)
      exact ⟨i, by rw [(moved.lanes i).record_eq, product]⟩

/-! ## The lane stop whole -/

/-- The headers that have demand, in ascending number. -/
def State.demandedHeaders (s : State) : List (Fin 6) := sixNumbers.filter s.headerDemand

theorem State.mem_demandedHeaders (s : State) (h : Fin 6) : h ∈ s.demandedHeaders ↔ s.headerDemand h = true := by
  simp [State.demandedHeaders, mem_sixNumbers]

theorem State.laneStop_foldl (s : State) :
    s.laneStop = s.demandedHeaders.foldl (fun t h => t.demandLeft h) s.lanesStopped :=
  List.foldl_filter.symm

theorem State.laneStop_ended (s : State) : s.lanesStopped.demandsEnded s.demandedHeaders s.laneStop := by
  rw [State.laneStop_foldl]
  refine State.demandsEnded_foldl (List.Nodup.filter _ (by decide)) (fun i => ?_) fun h mem => ?_
  · rw [s.lane_lanesStopped, Lane.stopAlone_demands]
  · obtain ⟨i, product, -⟩ := (s.headerDemand_iff h).1 ((s.mem_demandedHeaders h).1 mem)
    exact ⟨i, by rw [s.lane_lanesStopped, Lane.stopAlone_record, product]⟩

/-- A lane as the lane stop leaves it: HOLD where its product had demand, and the stop's command (01 R30). -/
def Lane.stoppedBy (had : Fin 6 → Bool) (elapsed : Nat) (l : Lane) : Lane :=
  (if l.record.product.any had then l.held else l).stopAlone elapsed

/-- The lane stop as one state, but for the start queue (01 R30; 03 R62). -/
theorem State.laneStop_eq (s : State) :
    s.laneStop =
      { s with
        lanes := Vector.ofFn fun i => (s.lane i).stoppedBy s.headerDemand s.elapsed
        headers := Vector.ofFn fun h =>
          if s.headerDemand h then (s.header h).demandEnded (s.product h) s.elapsed else s.header h
        slot := s.laneStop.slot
        journal := { s.journal with reserved := s.journal.reserved - s.authorisedLanes }
        shutdown := { s.shutdown with
          closing := s.shutdown.closing ||| maskOf fun i => (s.lane i).state.demands } } := by
  obtain ⟨header, lane, -, rest⟩ := s.laneStop_ended
  have lanes : s.laneStop.lanes = Vector.ofFn fun i => (s.lane i).stoppedBy s.headerDemand s.elapsed := by
    refine State.lanes_eq_of_lane fun i => ?_
    rw [Fin.getElem_fin, Vector.getElem_ofFn, lane, s.lane_lanesStopped, Lane.stopAlone_record]
    unfold Lane.stoppedBy
    have named : (∃ h ∈ s.demandedHeaders, (s.lane i).record.product = some h) ↔
        (s.lane i).record.product.any s.headerDemand = true := by
      cases (s.lane i).record.product <;> simp [s.mem_demandedHeaders]
    simp only [named]
    split
    · exact (Lane.stopAlone_held _ _).symm
    · rfl
  have headers : s.laneStop.headers = Vector.ofFn fun h =>
      if s.headerDemand h then (s.header h).demandEnded (s.product h) s.elapsed else s.header h := by
    refine State.headers_eq_of_header fun h => ?_
    rw [Fin.getElem_fin, Vector.getElem_ofFn, header, s.lanesStopped_eq]
    exact if_congr (s.mem_demandedHeaders h) rfl rfl
  rw [rest, lanes, headers]
  rw [s.lanesStopped_eq]

/-- The headers whose demand has ended leave the start queue where they were QUEUED (03 R63). -/
theorem State.laneStop_slot {s : State} (nodup : s.slot.queue.Nodup) :
    s.laneStop.slot =
      { s.slot with queue := s.slot.queue.filter fun h => !(s.headerDemand h && (s.header h).pump == .queued) } := by
  have slot : s.lanesStopped.slot = s.slot := by rw [s.lanesStopped_eq]
  have header : ∀ h, s.lanesStopped.header h = s.header h := fun h => by rw [s.lanesStopped_eq]; rfl
  have named : ∀ h, decide (h ∈ s.demandedHeaders) = s.headerDemand h := fun h =>
    Bool.eq_iff_iff.2 (decide_eq_true_iff.trans (s.mem_demandedHeaders h))
  rw [s.laneStop_ended.slot (by rw [slot]; exact nodup), slot]
  simp only [header, named]
  rfl

end Sys2Proof.Machine
end

section
/-! PROOFS. Presses, their releases and key turns (O36; 07 R149, R150, R162, R163, R169). -/
namespace Sys2Proof.Machine
set_option Elab.async false

section
variable {s : State} {ms : Nat}

theorem pressRelease_of_noPress (press : s.shutdown.press = .noPress) : pressRelease ms s = s := by
  unfold pressRelease
  rw [press]

/-- A release from LONG, or from PRESSED outside ARMED, only ends the press (07 R149). -/
theorem pressRelease_ends
    (press : s.shutdown.press = .long ∨ (s.shutdown.press = .pressed ∧ s.shutdown.bay ≠ .armed)) :
    pressRelease ms s = s.modShutdown fun u => { u with press := .noPress } := by
  unfold pressRelease
  rcases press with long | ⟨pressed, unarmed⟩
  · rw [long]
  · rw [pressed]
    dsimp only
    unfold State.shortPress
    split
    · rename_i armed; exact absurd armed unarmed
    all_goals rfl

/-- A short press in ARMED is the lane stop, with its count and its notice (07 R150). -/
theorem pressRelease_stops (pressed : s.shutdown.press = .pressed) (armed : s.shutdown.bay = .armed) :
    pressRelease ms s =
      ((s.modShutdown fun u => { u with press := .noPress }).laneStop.modShutdown fun u =>
        { u with laneStops := satAdd 65535 u.laneStops 1 }).notify (.laneStop ms (maskOf s.stoppable)) := by
  unfold pressRelease
  rw [pressed]
  dsimp only
  unfold State.shortPress
  rw [show (s.modShutdown fun u => { u with press := .noPress }).shutdown.bay = .armed from armed]
  rfl

theorem keyTurn_unseen (seen : s.shutdown.keySeenHigh = false) : keyTurn s = s := if_neg (by rw [seen]; simp)

/-- A qualified turn ends a LOCKOUT (07 R163). -/
theorem keyTurn_unlocks (seen : s.shutdown.keySeenHigh = true) (locked : s.shutdown.bay = .lockout) :
    keyTurn s = s.modShutdown fun u =>
      { u with keySeenHigh := false, stack := [], lockout := none, bay := .disarmed } := by
  unfold keyTurn
  rw [if_pos seen]
  exact congrArg s.setShutdown (if_pos locked)

/-- In any other bay state it only clears the note. -/
theorem keyTurn_notes (seen : s.shutdown.keySeenHigh = true) (unlocked : s.shutdown.bay ≠ .lockout) :
    keyTurn s = s.modShutdown fun u => { u with keySeenHigh := false } := by
  unfold keyTurn
  rw [if_pos seen]
  exact congrArg s.setShutdown (if_neg unlocked)

end

end Sys2Proof.Machine

namespace Sys2Proof
open Sys2Proof.Machine
set_option Elab.async false

/-- Settles O36: presses and turns by the press, the bay and the note; in ARMED the lane stop as one state. -/
theorem pressesAndKeyTurns : Obligations.PressesAndKeyTurns := by
  refine fun s running => ⟨fun free => ?_, fun held => ?_, fun ms free => ?_, fun ms press => ?_,
    fun ms pressed armed => ⟨(s.modShutdown fun u => { u with press := .noPress }).laneStop.slot, fun nodup => ?_, ?_⟩,
    ?_, fun seen locked => ?_, fun seen unlocked => ?_, fun unseen => ?_⟩
  · exact event_eq_settled running (if_pos free)
  · exact event_eq_settled running (if_neg held)
  · exact event_eq_settled running (pressRelease_of_noPress free)
  · exact event_eq_settled running (pressRelease_ends press)
  · exact State.laneStop_slot (s := s.modShutdown fun u => { u with press := .noPress }) nodup
  · refine event_eq_settled running ((pressRelease_stops pressed armed).trans ?_)
    rw [State.laneStop_eq, State.notify_linkRaising]
    rfl
  · exact event_of_running running _
  · exact event_eq_settled running (keyTurn_unlocks seen locked)
  · exact event_eq_settled running (keyTurn_notes seen unlocked)
  · exact event_eq_settled running (keyTurn_unseen unseen)

end Sys2Proof
end

section
/-! PROOFS. The clock set by TIME-SET, and the next boundary (O14, O15; 08 R171 to R173). -/
namespace Sys2Proof.Machine
set_option Elab.async false

/-! ## The next boundary (08 R173) -/

section
variable {clock b1 b2 : Nat}

/-- Before B1 the next boundary is today's B1. -/
theorem boundaryAfter_before (room : clock + 86400 ≤ 4294967295) (first : b1 ≤ 1439)
    (early : clock % 86400 < 60 * b1) :
    boundaryAfter clock b1 b2 = { due := clock - clock % 86400 + 60 * b1, kind := .day } := by
  simp only [boundaryAfter, if_pos early]
  exact if_pos (by omega)

/-- From B1 up to B2 it is today's B2. -/
theorem boundaryAfter_between (room : clock + 86400 ≤ 4294967295) (second : b2 ≤ 1439)
    (begun : 60 * b1 ≤ clock % 86400) (early : clock % 86400 < 60 * b2) :
    boundaryAfter clock b1 b2 = { due := clock - clock % 86400 + 60 * b2, kind := .night } := by
  simp only [boundaryAfter, if_neg (Nat.not_lt.2 begun), if_pos early]
  exact if_pos (by omega)

/-- From B2 on it is tomorrow's B1. -/
theorem boundaryAfter_after (room : clock + 86400 ≤ 4294967295) (order : b1 < b2) (late : 60 * b2 ≤ clock % 86400) :
    boundaryAfter clock b1 b2 = { due := clock - clock % 86400 + 86400 + 60 * b1, kind := .day } := by
  simp only [boundaryAfter, if_neg (show ¬ clock % 86400 < 60 * b1 by omega), if_neg (Nat.not_lt.2 late)]
  exact if_pos (by omega)

end

/-! ## TIME-SET (08 R172) -/

/-- A clock value of 32 bits is taken, and the value it replaces is the answer. -/
theorem timeSet_taken {clock : Nat} (inRange : clock ≤ 4294967295) (s : State) :
    timeSet clock s =
      (accept (.clock s.period.clock),
        { s with period := { s.period with
          clock := clock, clockSet := true, adjusted := true
          next := s.settings.boundaries.map fun b => boundaryAfter clock b.1 b.2 } }) := by
  unfold timeSet
  exact if_pos (Nat.lt_succ_of_le inRange)

end Sys2Proof.Machine

namespace Sys2Proof
open Sys2Proof.Machine
set_option Elab.async false

/-- Settles O14: the owner of TIME-SET takes the value, and a ready part answers what its owner does. -/
theorem timeSetTakesClock : Obligations.TimeSetTakesClock :=
  fun _ _ s ready inRange => event_request_exact ready _ _ _ _ ready.1 (timeSet_taken inRange s)

/-- Settles O15: today's B1, today's B2 or tomorrow's B1, by where the time of day stands. -/
theorem nextBoundaryIsFirst : Obligations.NextBoundaryIsFirst := by
  intro clock b1 b2 order last room
  by_cases before : clock % 86400 < 60 * b1
  · rw [boundaryAfter_before room (by omega) before]
    refine ⟨?_, rfl, Or.inl ⟨?_, rfl⟩, fun c after below => ?_⟩ <;> dsimp only at * <;> omega
  · by_cases between : clock % 86400 < 60 * b2
    · rw [boundaryAfter_between room last (Nat.not_lt.1 before) between]
      refine ⟨?_, rfl, Or.inr ⟨?_, rfl⟩, fun c after below => ?_⟩ <;> dsimp only at * <;> omega
    · rw [boundaryAfter_after room order (Nat.not_lt.1 between)]
      refine ⟨?_, rfl, Or.inl ⟨?_, rfl⟩, fun c after below => ?_⟩ <;> dsimp only at * <;> omega

end Sys2Proof
end

section
/-! PROOFS. Reconciliation: the variance of a tank, its ppm and its class (O49; 08 R178, R179). -/
namespace Sys2Proof.Machine
set_option Elab.async false

section
variable {k : Tank}

/-- A configured tank that is not LOST, with O and C, has the variance V = C - (O + R - D) (08 R178). -/
theorem Tank.variance_eq_some {o c : Int} (configured : k.configured = true) (reads : k.status ≠ .lost)
    (opened : k.opening = some o) (closes : k.estimate = some c) :
    k.variance = some (c - (o + k.periodReceipts - k.periodDispensed)) := by
  unfold Tank.variance
  rw [if_pos ⟨configured, reads⟩, opened, closes]

/-- Every other tank has none (08 R178, R179). -/
theorem Tank.variance_eq_none
    (lacks : k.configured = false ∨ k.status = .lost ∨ k.opening = none ∨ k.estimate = none) :
    k.variance = none := by
  unfold Tank.variance
  rcases lacks with unconfigured | lost | unopened | unread
  · exact if_neg fun c => by simp [unconfigured] at c
  · exact if_neg fun c => c.2 lost
  · rw [unopened]; exact ite_self _
  · rw [unread]; cases k.opening <;> exact ite_self _

/-- A section's ppm and class follow its variance, on the base of the period's figures. -/
theorem Tank.report_of_variance {v : Int} (made : k.variance = some v) :
    k.report.variance = some v
      ∧ k.report.ppm = some (variancePpm v (varianceBase k.periodReceipts k.periodDispensed))
      ∧ k.report.cls
        = some (varianceClass (variancePpm v (varianceBase k.periodReceipts k.periodDispensed))) := by
  unfold Tank.report
  rw [made]
  exact ⟨rfl, rfl, rfl⟩

theorem Tank.report_of_variance_none (unmade : k.variance = none) :
    k.report.variance = none ∧ k.report.ppm = none ∧ k.report.cls = none := by
  unfold Tank.report
  rw [unmade]
  exact ⟨rfl, rfl, rfl⟩

end

/-! ## The ppm (08 R178) -/

theorem varianceBase_pos (receipts : Int) (dispensed : Nat) : 0 < varianceBase receipts dispensed := by
  unfold varianceBase
  omega

section
variable {v base : Int}

/-- Below the base in magnitude the quotient needs no saturation. -/
theorem variancePpm_inside (low : -base < v) (high : v < base) :
    variancePpm v base = (v * 1000000).tdiv base := by
  have small : ((v * 1000000).tdiv base).natAbs < 1000000 := by
    rw [Int.natAbs_tdiv]
    exact Nat.div_lt_of_lt_mul (by omega)
  unfold variancePpm clampInt
  omega

/-- From the base up it saturates at 999,999. -/
theorem variancePpm_above (positive : 0 < base) (high : base ≤ v) : variancePpm v base = 999999 := by
  have quotient : 1000000 ≤ (v * 1000000).tdiv base := Int.le_tdiv_of_mul_le positive (by omega)
  unfold variancePpm clampInt
  omega

/-- From minus the base down it saturates at -999,999. -/
theorem variancePpm_below (positive : 0 < base) (low : v ≤ -base) : variancePpm v base = -999999 := by
  have mirrored : 1000000 ≤ (-(v * 1000000)).tdiv base := Int.le_tdiv_of_mul_le positive (by omega)
  rw [Int.neg_tdiv] at mirrored
  unfold variancePpm clampInt
  omega

end

/-! ## The class (08 R178) -/

/-- The six bands of the class, by the magnitude of the ppm. -/
theorem varianceClass_bands (ppm : Int) :
    (ppm.natAbs ≤ 1000 → varianceClass ppm = .v0)
      ∧ (1001 ≤ ppm.natAbs → ppm.natAbs ≤ 2500 → varianceClass ppm = .v1)
      ∧ (2501 ≤ ppm.natAbs → ppm.natAbs ≤ 5000 → varianceClass ppm = .v2)
      ∧ (5001 ≤ ppm.natAbs → ppm.natAbs ≤ 10000 → varianceClass ppm = .v3)
      ∧ (10001 ≤ ppm.natAbs → ppm.natAbs ≤ 20000 → varianceClass ppm = .v4)
      ∧ (20001 ≤ ppm.natAbs → varianceClass ppm = .v5) := by
  unfold varianceClass
  refine ⟨fun _ => ?_, fun _ _ => ?_, fun _ _ => ?_, fun _ _ => ?_, fun _ _ => ?_, fun _ => ?_⟩ <;>
    grind

end Sys2Proof.Machine

namespace Sys2Proof
open Sys2Proof.Machine
set_option Elab.async false

/-- Settles O49: the section follows the variance, the ppm by where V stands to the base, the class by its bands. -/
theorem varianceOfTank : Obligations.VarianceOfTank := by
  intro k o c configured reads opened closes v base
  have positive : 0 < base := varianceBase_pos k.periodReceipts k.periodDispensed
  obtain ⟨variance, ppm, cls⟩ := Tank.report_of_variance (Tank.variance_eq_some configured reads opened closes)
  exact ⟨variance, _, _, ppm, cls, variancePpm_inside, variancePpm_above positive, variancePpm_below positive,
    varianceClass_bands _⟩

end Sys2Proof
end

section
/-! PROOFS. The period close: the uses, the notices, the figures cleared and the report (O48; 08 R173 to R182). -/
namespace Sys2Proof.Machine
set_option Elab.async false

/-! ## Eight units one after another -/

/-- The entries of v with the listed ones updated one after another. -/
def updatedIn {α : Type} (f : α → α) (l : List (Fin 8)) (v : Vector α 8) : Vector α 8 :=
  l.foldl (fun v (j : Fin 8) => v.set j (f v[j])) v

/-- Each of the listed entries is updated once, and the others stay. -/
theorem getElem_updatedIn {α : Type} (f : α → α) (i : Fin 8) (l : List (Fin 8)) (v : Vector α 8) (nodup : l.Nodup) :
    (updatedIn f l v)[i] = if i ∈ l then f v[i] else v[i] := by
  induction l generalizing v with
  | nil => rfl
  | cons j l ih =>
    obtain ⟨fresh, nodup⟩ := List.nodup_cons.1 nodup
    rw [updatedIn, List.foldl_cons, ← updatedIn, ih _ nodup]
    by_cases here : i = j
    · subst here; simp [fresh]
    · have apart : j.val ≠ i.val := fun e => here (Fin.ext e.symm)
      simp [here, Vector.getElem_set_ne, apart]

/-- An update of each of eight entries in turn is the update of all of them. -/
theorem updatedIn_eightNumbers {α : Type} (f : α → α) (v : Vector α 8) :
    updatedIn f eightNumbers v = Vector.ofFn fun i => f v[i] := by
  ext j hj
  have each := getElem_updatedIn f ⟨j, hj⟩ eightNumbers v eightNumbers_nodup
  rw [if_pos (mem_eightNumbers _)] at each
  rw [Vector.getElem_ofFn]
  exact each

/-- A walk that updates the tank and the lane of each number updates all the tanks and all the lanes. -/
theorem eachOfEight_modTank_modLane (g : Tank → Tank) (h : Lane → Lane) (s : State) :
    eachOfEight (fun i t => (t.modTank i g).modLane i h) s =
      { s with tanks := Vector.ofFn fun t => g (s.tank t), lanes := Vector.ofFn fun i => h (s.lane i) } := by
  have walk : ∀ (l : List (Fin 8)) (s : State), l.foldl (fun t i => (t.modTank i g).modLane i h) s =
      { s with tanks := updatedIn g l s.tanks, lanes := updatedIn h l s.lanes } := by
    intro l
    induction l with
    | nil => intro s; rfl
    | cons i l ih => intro s; exact ih _
  rw [eachOfEight, walk, updatedIn_eightNumbers, updatedIn_eightNumbers]
  rfl

theorem eightOf_eq_ofFn {α : Type} (f : Fin 8 → α) : eightOf f = Vector.ofFn f := by
  ext j hj
  rw [Vector.getElem_ofFn]
  interval_cases j <;> rfl

/-! ## A tank's section (08 R177 to R179) -/

/-- The flags of a section, each read as its rule states it (08 R177). -/
theorem Tank.sectionFlags_eq (k : Tank) :
    k.sectionFlags =
      if k.configured then
        { gaugeHeld := decide (k.status ≠ .good ∧ k.estimate ≠ none), lostDuring := k.lostDuring
          overfillStop := k.overfillStop, leak := k.leak, openedLate := k.openedLate
          receiptActive := decide (k.receipt ≠ none) }
      else {} := by
  have held : (k.status != .good && k.estimate.isSome) = decide (k.status ≠ .good ∧ k.estimate ≠ none) := by
    cases k.status <;> cases k.estimate <;> rfl
  have active : k.receipt.isSome = decide (k.receipt ≠ none) := by cases k.receipt <;> rfl
  rw [Tank.sectionFlags, held, active]

/-- The VARIANCE notice of a tank is there exactly where it is in alarm (08 R179). -/
theorem State.varianceNotices_length (s : State) (t : Fin 8) :
    (s.varianceNotices t).length = (s.tank t).report.inAlarm.toNat := by
  unfold State.varianceNotices TankSection.inAlarm
  cases made : (s.tank t).variance with
  | none =>
    obtain ⟨variance, ppm, cls⟩ := Tank.report_of_variance_none made
    simp only [variance, ppm, cls]
    rfl
  | some v =>
    obtain ⟨variance, ppm, cls⟩ := Tank.report_of_variance made
    simp only [variance, ppm, cls]
    split <;> rename_i alarm <;> simp [alarm]

/-- The tanks in alarm are counted by their notices. -/
theorem State.alarms_eq (s : State) : s.alarms = s.alarmCount := by
  have walk : ∀ l : List (Fin 8), (l.filter fun t => (s.tank t).report.inAlarm).length
      = (l.flatMap s.varianceNotices).length := by
    intro l
    induction l with
    | nil => rfl
    | cons t l ih =>
      rw [List.flatMap_cons, List.length_append, ← ih, s.varianceNotices_length t]
      cases alarm : (s.tank t).report.inAlarm <;> simp [alarm, Nat.add_comm]
  exact walk eightNumbers

/-! ## Step 1: the configured tanks' readings are used (08 R176; 04 R88) -/

/-- What step 1 makes of a tank. -/
def Tank.usedAtClose (k : Tank) : Tank := if k.configured then k.used else k

/-- Only the mark of a configured LOST tank is new. -/
theorem Tank.usedAtClose_eq (k : Tank) :
    k.usedAtClose = { k with noticed := k.noticed || (k.configured && k.status == .lost) } := by
  unfold Tank.usedAtClose
  cases k.configured
  · simp
  · rfl

/-- What a section reports does not look at the mark. -/
theorem Tank.report_usedAtClose (k : Tank) : k.usedAtClose.report = k.report := by
  rw [Tank.usedAtClose_eq]
  rfl

theorem Tank.newPeriod_usedAtClose (k : Tank) : k.usedAtClose.newPeriod = k.afterClose := by
  rw [Tank.usedAtClose_eq]
  rfl

/-- Step 1 as one state. -/
theorem State.useTanks_eq (s : State) :
    s.useTanks =
      { s with
        tanks := Vector.ofFn fun t => (s.tank t).usedAtClose
        link := s.linkRaising
          (eightNumbers.flatMap fun t => if (s.tank t).configured then (s.tank t).useNotice t else []) } := by
  refine eachOfEight_tanks Tank.usedAtClose (fun t k => if k.configured then k.useNotice t else []) _
    (fun t s => ?_) s
  unfold Tank.usedAtClose
  by_cases configured : (s.tank t).configured = true
  · simp only [if_pos configured]
    exact s.useReading_used t
  · simp only [if_neg configured, State.tanks_set_self, State.linkRaising_nil]

/-- After step 1 each tank is its own with the use marked. -/
theorem State.tank_useTanks (s : State) (t : Fin 8) : s.useTanks.tank t = (s.tank t).usedAtClose := by
  rw [State.useTanks_eq]
  simp [State.tank]

/-! ## Step 5: the notices (08 R176, R179) -/

/-- A tank's VARIANCE notice is raised where it is in alarm. -/
theorem State.varianceNotice_eq (t : Fin 8) (s : State) :
    s.varianceNotice t = { s with link := s.linkRaising (s.varianceNotices t) } := by
  unfold State.varianceNotice State.varianceNotices TankSection.inAlarm
  cases made : (s.tank t).variance with
  | none =>
    obtain ⟨variance, ppm, cls⟩ := Tank.report_of_variance_none made
    simp only [variance, ppm, cls]
    rfl
  | some v =>
    obtain ⟨variance, ppm, cls⟩ := Tank.report_of_variance made
    simp only [variance, ppm, cls]
    by_cases alarm : (s.tank t).report.alarmClass.code
        ≤ (varianceClass (variancePpm v (varianceBase (s.tank t).periodReceipts (s.tank t).periodDispensed))).code
    · simp only [alarm, decide_true, if_true, State.notify_linkRaising]
    · simp only [alarm, decide_false, if_false]
      rfl

/-- Step 5 raises the VARIANCE notices in tank order and then REPORT-READY. -/
theorem State.closeNotices_eq (s : State) :
    s.closeNotices =
      { s with
        link := s.linkRaising
          (eightNumbers.flatMap s.varianceNotices ++ [.reportReady s.period.number s.period.kind s.alarmCount]) } := by
  have walk : ∀ (l : List (Fin 8)) (s : State), l.foldl (fun t i => t.varianceNotice i) s =
      { s with link := s.linkRaising (l.flatMap s.varianceNotices) } := by
    intro l
    induction l with
    | nil => intro s; rfl
    | cons t l ih =>
      intro s
      rw [List.foldl_cons, ih, State.varianceNotice_eq, List.flatMap_cons, State.linkRaising_append]
      rfl
  have variances : eachOfEight State.varianceNotice s =
      { s with link := s.linkRaising (eightNumbers.flatMap s.varianceNotices) } := walk eightNumbers s
  rw [State.closeNotices, variances, State.notify_linkRaising, State.linkRaising_append, State.alarms_eq]

/-! ## Steps 6 and 7: the figures cleared, and the new period (08 R174, R176; 07 R169) -/

/-- Step 6 as one state. -/
theorem State.resetFigures_eq (s : State) :
    s.resetFigures =
      { s with
        tanks := Vector.ofFn fun t => (s.tank t).newPeriod
        lanes := Vector.ofFn fun i => { s.lane i with totals := {} }
        shutdown := { s.shutdown with causes := 0, laneStops := 0, lockoutFlag := s.shutdown.bay == .lockout } } := by
  rw [State.resetFigures, eachOfEight_modTank_modLane]
  rfl

/-- The kind of a period opened otherwise than at a boundary (08 R174). -/
theorem kindFromClock_eq_kindNow (s : State) :
    kindFromClock s.period.clock s.period.clockSet s.settings.boundaries = s.kindNow := by
  unfold kindFromClock State.kindNow minuteOfDay
  cases s.period.clockSet <;> cases s.settings.boundaries <;> rfl

/-! ## The close (08 R176) -/

/-- The report is made of the state before the close: the uses of step 1 show in none of its figures (08 R182). -/
theorem State.buildReport_useTanks (reason : CloseReason) (s : State) :
    s.useTanks.buildReport reason = s.buildReport reason := by
  have report : ∀ t, (s.useTanks.tank t).report = (s.tank t).report := fun t => by
    rw [State.tank_useTanks, Tank.report_usedAtClose]
  have lane : ∀ i, s.useTanks.lane i = s.lane i := fun i => State.lane_congr i _ _ (by simp)
  simp [State.buildReport, State.alarms, State.now, report, lane]

/-- The notices of step 5 are those of the state before the close. -/
theorem State.varianceNotices_useTanks (s : State) (t : Fin 8) :
    s.useTanks.varianceNotices t = s.varianceNotices t := by
  unfold State.varianceNotices
  rw [State.tank_useTanks, Tank.report_usedAtClose]
  simp

/-- The link of a close: GAUGE-LOST for the uses, VARIANCE, REPORT-READY. -/
theorem State.link_closeNotices (s : State) :
    s.useTanks.closeNotices.link = s.linkRaising
      ((eightNumbers.flatMap fun t => if (s.tank t).configured then (s.tank t).useNotice t else [])
        ++ eightNumbers.flatMap s.varianceNotices ++ [.reportReady s.period.number s.period.kind s.alarmCount]) := by
  have notices : s.useTanks.varianceNotices = s.varianceNotices := funext s.varianceNotices_useTanks
  have alarms : s.useTanks.alarmCount = s.alarmCount := by rw [State.alarmCount, notices, State.alarmCount]
  rw [State.closeNotices_eq, notices, alarms, List.append_assoc, s.linkRaising_append, State.useTanks_eq]
  rfl

/-- Steps 1, 5 and 6 together: the uses, the notices and the figures cleared. -/
theorem State.figuresClosed_eq (s : State) :
    s.useTanks.closeNotices.resetFigures =
      { s with
        lanes := Vector.ofFn fun i => { s.lane i with totals := {} }
        tanks := Vector.ofFn fun t => (s.tank t).afterClose
        shutdown := { s.shutdown with causes := 0, laneStops := 0, lockoutFlag := s.shutdown.bay == .lockout }
        link := s.linkRaising
          ((eightNumbers.flatMap fun t => if (s.tank t).configured then (s.tank t).useNotice t else [])
            ++ eightNumbers.flatMap s.varianceNotices
            ++ [.reportReady s.period.number s.period.kind s.alarmCount]) } := by
  have tank : ∀ t, (s.useTanks.closeNotices.tank t).newPeriod = (s.tank t).afterClose := fun t => by
    rw [State.tank_congr t s.useTanks _ (by simp), State.tank_useTanks, Tank.newPeriod_usedAtClose]
  have lane : ∀ i, s.useTanks.closeNotices.lane i = s.lane i := fun i => State.lane_congr i _ _ (by simp)
  simp only [State.resetFigures_eq, tank, lane, State.link_closeNotices, State.closeNotices_frame,
    State.useTanks_frame]

/-- The report a close leaves is the one steps 2 to 4 build (08 R182). -/
theorem State.closedPeriod_report (reason : CloseReason) (kind : PeriodKind) (s : State) :
    (s.closedPeriod reason kind).period.report = some (s.buildReport reason) := by
  have clock : (if s.period.clockSet = false then ClockState.unset else if s.period.adjusted then .adjusted else .set)
      = clockState s.period.clockSet s.period.adjusted := by
    unfold clockState
    cases s.period.clockSet <;> rfl
  unfold State.closedPeriod State.buildReport
  rw [eightOf_eq_ofFn, eightOf_eq_ofFn, State.alarms_eq, ← clock]
  rfl

/-- A close as one state, the kind of the new period the boundary's or the clock's. -/
theorem State.closePeriod_eq (reason : CloseReason) (kind : Option PeriodKind) (s : State) :
    s.closePeriod reason kind = s.closedPeriod reason (kind.getD s.kindNow) := by
  have report := s.closedPeriod_report reason (kind.getD s.kindNow)
  rw [State.closePeriod, State.figuresClosed_eq, State.buildReport_useTanks, ← report, ← kindFromClock_eq_kindNow]
  rfl

end Sys2Proof.Machine

namespace Sys2Proof
open Sys2Proof.Machine
set_option Elab.async false

/-- Settles O48: the close as one state, under REPORT-NOW and under BOUNDARY, and a tank's section of the report. -/
theorem periodCloses : Obligations.PeriodCloses := by
  refine ⟨fun tag s ready => ?_, fun s kind running due => ?_, fun s running due => ?_, fun k => ⟨?_, fun lacks => ?_⟩⟩
  · refine event_request_exact ready _ _ _ _ ready.1 ?_
    unfold reportNow
    rw [State.closePeriod_eq]
    rfl
  · refine event_eq_settled running ?_
    unfold boundary
    rw [due]
    exact State.closePeriod_eq .boundary (some kind) _
  · refine event_eq_settled running ?_
    unfold boundary
    rw [due]
  · rw [← Tank.sectionFlags_eq]
    rfl
  · exact Tank.report_of_variance_none (Tank.variance_eq_none lacks)

end Sys2Proof
end

section
/-! PROOFS. Every command answers, and keeps the queue of waiting commands (O2). -/
namespace Sys2Proof.Machine
set_option Elab.async false

/-- From s to t the commands waiting are the same, and the part has its supply as it had it. -/
def State.keepsQueue (s t : State) : Prop := t.pending = s.pending ∧ t.power = s.power

theorem State.keepsQueue_refl (s : State) : s.keepsQueue s := ⟨rfl, rfl⟩

theorem State.keepsQueue.trans {s t u : State} (a : s.keepsQueue t) (b : t.keepsQueue u) : s.keepsQueue u :=
  ⟨b.1.trans a.1, b.2.trans a.2⟩

theorem State.keepsQueue_of_frame {s t : State} (pending : t.pending = s.pending := by simp)
    (power : t.power = s.power := by simp) : s.keepsQueue t := ⟨pending, power⟩

/-! ## Requests -/

theorem authorise_keepsQueue (f : AuthoriseFields) (s : State) : s.keepsQueue (authorise f s).2 := by
  unfold authorise checkAuthorise acceptAuthorise
  dsimp only
  repeat' split
  all_goals exact State.keepsQueue_of_frame

/-- Every request's owner keeps the queue and the supply, whatever it answers. -/
theorem serveRequest_keepsQueue (r : Request) (s : State) : s.keepsQueue (serveRequest r s).2 := by
  cases r with
  | authorise f => exact authorise_keepsQueue f s
  | journalStop => exact s.keepsQueue_refl
  | _ =>
    simp only [serveRequest, productSet, laneSet, tankSet, tablePoint, tableCommit, curvePoint, curveCommit, baySet,
      timeSet, cancel, laneQuery, tankQuery, gaugeNow, receiptOpen, openReceipt, receiptClose, bookSet, machineRead,
      machineWrite, patternLoad, groupApply, journalRead, journalAck, bayArm, bayDisarm, bayShutdown, bayClear,
      pumpReset, status, reportNow, reportRead]
    repeat' split
    all_goals exact State.keepsQueue_of_frame

theorem serveFrame_keepsQueue (f : HeldFrame) (s : State) : s.keepsQueue (serveFrame f s).2 := by
  unfold serveFrame
  split
  · exact serveRequest_keepsQueue _ s
  · exact s.keepsQueue_refl
  · exact s.keepsQueue_refl

/-! ## The link's events -/

theorem State.takeHeld_keepsQueue (s : State) : s.keepsQueue s.takeHeld := by
  unfold State.takeHeld
  split
  · rename_i f rest _ _ _
    exact (State.keepsQueue_of_frame (t := s.modLink fun k => { k with hold := rest })).trans
      ((serveFrame_keepsQueue f _).trans State.keepsQueue_of_frame)
  · exact s.keepsQueue_refl

theorem State.request_keepsQueue (f : HeldFrame) (owner : State → Answer × State) {s : State}
    (kept : s.keepsQueue (owner s).2) : s.keepsQueue (State.request f owner s) := by
  unfold State.request
  split
  · exact State.keepsQueue_of_frame
  · exact kept.trans State.keepsQueue_of_frame

theorem State.frameCompletes_keepsQueue (bytes : List Byte) (s : State) : s.keepsQueue (s.frameCompletes bytes) := by
  unfold State.frameCompletes State.offerFrame
  dsimp only
  split
  · split
    · exact (State.keepsQueue_of_frame (t := State.holdFrame _ (s.modLink _))).trans (State.takeHeld_keepsQueue _)
    · exact State.keepsQueue_of_frame
  · exact State.keepsQueue_of_frame

theorem hostByteReceived_keepsQueue (b : Byte) (s : State) : s.keepsQueue (hostByteReceived b s) := by
  unfold hostByteReceived
  split
  · split
    all_goals exact State.keepsQueue_of_frame
  · dsimp only
    split
    · exact State.keepsQueue_of_frame
    · split
      · exact s.frameCompletes_keepsQueue _
      · exact State.keepsQueue_of_frame

theorem frameSent_keepsQueue (s : State) : s.keepsQueue (frameSent s) := by
  unfold frameSent
  split
  · exact (State.keepsQueue_of_frame (t := State.messageSent _ (s.modLink _))).trans (State.takeHeld_keepsQueue _)
  · exact s.keepsQueue_refl

/-! ## The starts -/

theorem State.restUnits_pending (s : State) : s.restUnits.pending = s.pending := by
  unfold State.restUnits
  simp [eachOfEight_keeps State.pending]

theorem State.start_pending (pins : StartPins) (s : State) : (s.start pins).pending = s.pending := by
  unfold State.start
  split
  · simp [State.warmStart, State.rest, s.restUnits_pending]
  · simp [State.coldStart]

/-! ## Every command -/

/-- The command answers a next state with the queue of s. -/
def answersNext (s : State) (o : Host.Outcome State Fault Refusal) : Prop := ∃ t, o = .next t ∧ t.pending = s.pending

theorem event_answersNext (f : State → State) {s : State} (kept : s.keepsQueue (f s)) : answersNext s (event f s) := by
  refine ⟨_, rfl, ?_⟩
  split
  · simpa using kept.1
  · rfl

/-- Every row that is no request answers. -/
theorem exec_answersNext_of_event (c : Instr) (noRequest : asRequest c = none) (s : State) :
    answersNext s (exec c s) := by
  have moved : ∀ (f : State → State), s.keepsQueue (f s) → answersNext s (event f s) := fun f => event_answersNext f
  cases c
  case unknownKind | malformed => exact moved _ (State.request_keepsQueue _ _ s.keepsQueue_refl)
  case frameReceived bytes => exact moved _ (s.frameCompletes_keepsQueue bytes)
  case hostByteReceived b => exact moved _ (hostByteReceived_keepsQueue b s)
  case frameSent => exact moved _ (frameSent_keepsQueue s)
  case coldStart pins | warmStart pins => exact ⟨_, rfl, s.start_pending pins⟩
  case powerLoss | resetAssert =>
    refine ⟨_, rfl, ?_⟩
    split <;> simp [State.goDark]
  case vbatLoss =>
    refine ⟨_, rfl, ?_⟩
    split <;> simp
  case clockSecond =>
    refine ⟨_, rfl, ?_⟩
    repeat' split
    all_goals simp
  case frameGap | pulse | sample | nozzleLift | nozzleHangup | authorisationExpiry | maxOpenExpiry | closeLimitExpiry
    | creepWindowExpiry | grantTaken | pumpEnding | tankLowEnding | proveChange | provingTimerExpiry | runonExpiry
    | staggerElapsed | roundDue | gaugePollSent | gaugeReply | replyTimerExpiry | sumpActive | pressBegin
    | pressRelease | longPress | valveFailureReport | creepReport | closingReport | keyTurn | keySeenHigh | boundary =>
    exact moved _ State.keepsQueue_of_frame
  all_goals cases noRequest

theorem exec_answersNext (c : Instr) (s : State) : answersNext s (exec c s) := by
  cases row : asRequest c with
  | none => exact exec_answersNext_of_event c row s
  | some named =>
    rw [exec_of_asRequest row]
    exact event_answersNext _ (State.request_keepsQueue _ _ (serveRequest_keepsQueue named.2 s))

end Sys2Proof.Machine

namespace Sys2Proof
open Sys2Proof.Machine
set_option Elab.async false

/-- Settles O2: a command is a request its owner answers, an event, a start or a move of the supply, and each of them
leaves the waiting commands alone. -/
theorem everyCommandAnswersNext : Obligations.EveryCommandAnswersNext := fun c s => exec_answersNext c s

end Sys2Proof
end

section
/-! PROOFS. What a request row does: an answer at once, a refusal that changes nothing, or a place in the hold (O5, O6). -/
namespace Sys2Proof.Machine
set_option Elab.async false

/-- The queue and the supply are kept by every request's owner. -/
theorem serveRequest_running {s : State} (running : s.power = .running) (r : Request) :
    (serveRequest r s).2.power = .running := (serveRequest_keepsQueue r s).2.trans running

/-- A ready request row answers what its owner answers (09 R188, R190). -/
theorem exec_request_of_ready {c : Instr} {tag : Byte} {r : Request} {s : State} (row : asRequest c = some (tag, r))
    (ready : s.ready) : exec c s = (serveRequest r s).2.answers r.kind tag (serveRequest r s).1 := by
  rw [exec_of_asRequest row]
  exact event_request_exact ready (r.frame tag) _ _ _ (serveRequest_running ready.1 r) rfl

/-! ## Refusals (09 R190; 04 R88) -/

/-- An owner that does not accept leaves the part as it was, but for the first use of a LOST tank's reading. -/
def State.refusesQuietly (s : State) (served : Answer × State) : Prop :=
  served.1.status ≠ .accepted →
    served.2 = s ∨ ∃ k, (s.tank k).status = .lost ∧ (s.tank k).noticed = false
      ∧ served.2 = { s with tanks := s.tanks.set k { s.tank k with noticed := true }
                            link := s.linkRaising ((s.tank k).useNotice k) }

@[simp] theorem State.refusesQuietly_refused (s : State) (a : Answer) : s.refusesQuietly (a, s) := fun _ => .inl rfl

@[simp] theorem State.refusesQuietly_accepted (s t : State) (p : Payload) : s.refusesQuietly (accept p, t) :=
  fun refused => absurd rfl refused

@[simp] theorem State.refusesQuietly_used (s : State) (a : Answer) (k : Fin 8) :
    s.refusesQuietly (a, s.useReading k) := by
  intro _
  by_cases first : (s.tank k).status = .lost ∧ (s.tank k).noticed = false
  · exact .inr ⟨k, first.1, first.2, State.useReading_of_lost first.1⟩
  · exact .inl (if_neg first)

theorem authorise_refusesQuietly (f : AuthoriseFields) (s : State) : s.refusesQuietly (authorise f s) := by
  unfold authorise checkAuthorise acceptAuthorise
  dsimp only
  repeat' split
  all_goals simp

theorem serveRequest_refusesQuietly (r : Request) (s : State) : s.refusesQuietly (serveRequest r s) := by
  cases r with
  | authorise f => exact authorise_refusesQuietly f s
  | journalStop => exact s.refusesQuietly_accepted s _
  | _ =>
    simp only [serveRequest, productSet, laneSet, tankSet, tablePoint, tableCommit, curvePoint, curveCommit, baySet,
      timeSet, cancel, laneQuery, tankQuery, gaugeNow, receiptOpen, openReceipt, receiptClose, bookSet, machineRead,
      machineWrite, patternLoad, groupApply, journalRead, journalAck, bayArm, bayDisarm, bayShutdown, bayClear,
      pumpReset, status, reportNow, reportRead]
    repeat' split
    all_goals simp

/-! ## The hold (09 R188; 06 R139, R140) -/

/-- A received frame that is a JOURNAL-STOP with no body stops the burst, and any other interrupts it. -/
theorem Burst.interrupt_endedBy (f : HeldFrame) (b : Burst) :
    b.interrupt f = b.endedBy (decide (f.kind = 0x29 ∧ f.body = [])) := by
  have stops : f.stopsBurst = decide (f.kind = 0x29 ∧ f.body = []) :=
    Bool.eq_iff_iff.2 (by simp [HeldFrame.stopsBurst])
  unfold Burst.interrupt Burst.endedBy
  rw [stops]

/-- With room in the hold a frame joins it and ends a running burst. -/
theorem State.holdFrame_of_room {s : State} (room : s.link.hold.length < 2) (f : HeldFrame) :
    s.holdFrame f =
      { s with burst := s.burst.map (Burst.endedBy (decide (f.kind = 0x29 ∧ f.body = [])))
               link := { s.link with hold := s.link.hold ++ [f] } } := by
  unfold State.holdFrame
  rw [if_pos room, ← funext (Burst.interrupt_endedBy f)]
  rfl

/-- With two frames held a third is discarded. -/
theorem State.holdFrame_of_full {s : State} (full : 2 ≤ s.link.hold.length) (f : HeldFrame) : s.holdFrame f = s :=
  if_neg (Nat.not_lt.2 full)

theorem State.not_ready {s : State} (waits : s.burst ≠ none ∨ s.link.hold ≠ [] ∨ s.link.reply ≠ none) : ¬ s.ready := by
  rintro ⟨-, burst, hold, reply⟩
  rcases waits with h | h | h
  · exact h burst
  · exact h hold
  · exact h reply

/-- No request but JOURNAL-STOP is sent under its KIND. -/
theorem request_stops_iff (r : Request) : (r.kind = 0x29 ∧ r.body = []) ↔ r = .journalStop := by
  cases r <;> simp [Request.kind, Request.body]

end Sys2Proof.Machine

namespace Sys2Proof
open Sys2Proof.Machine
set_option Elab.async false

/-- Settles O5: the owner's answer goes on the link, and an owner that refuses leaves the part alone but for the first
use of a LOST tank's reading. -/
theorem refusedRequestChangesNothing : Obligations.RefusedRequestChangesNothing := by
  intro c tag r s row ready
  rw [exec_request_of_ready row ready]
  refine ⟨_, (serveRequest r s).1, rfl, rfl, fun refused => ?_⟩
  rcases serveRequest_refusesQuietly r s refused with same | ⟨k, lost, first, used⟩
  · exact .inl (by rw [same])
  · exact .inr ⟨k, lost, first, by rw [used]⟩

/-- Settles O6: a part that is not ready puts the frame of a row in its hold, where it ends a running burst, or drops
it; a ready one answers an unknown or malformed frame with its status alone. -/
theorem holdKeepsTwoFrames : Obligations.HoldKeepsTwoFrames := by
  refine ⟨fun c tag r s row running waits => ?_, fun tag kind body s running waits => ?_,
    fun tag kind body s ready => ?_⟩
  · rw [exec_of_asRequest row, event_request_held running (State.not_ready waits)]
    refine ⟨fun room => ?_, fun full => ?_⟩
    · rw [State.holdFrame_of_room room, ← decide_eq_decide.2 (request_stops_iff r)]
      rfl
    · rw [State.holdFrame_of_full full]
  · have held (owner) : event (State.request ⟨kind, tag, body⟩ owner) s = (s.holdFrame ⟨kind, tag, body⟩).settled :=
      event_request_held running (State.not_ready waits) _ owner
    refine ⟨fun room => ⟨?_, ?_⟩, fun full => ⟨?_, ?_⟩⟩
    · exact (held _).trans (by rw [State.holdFrame_of_room room])
    · exact (held _).trans (by rw [State.holdFrame_of_room room])
    · exact (held _).trans (by rw [State.holdFrame_of_full full])
    · exact (held _).trans (by rw [State.holdFrame_of_full full])
  · exact ⟨event_request_exact ready _ _ _ _ ready.1 rfl, event_request_exact ready _ _ _ _ ready.1 rfl⟩

end Sys2Proof
end

section
/-! PROOFS. STATUS: the summary, the section asked, and the flags it clears (O50; 09 R198). -/
namespace Sys2Proof.Machine
set_option Elab.async false

theorem State.statusSection_eq_none {n : Nat} (high : 3 < n) (s : State) : s.statusSection n = none := by
  obtain ⟨k, rfl⟩ := Nat.exists_eq_add_of_le' high
  rfl

theorem State.statusSection_isSome {n : Nat} (low : n ≤ 3) (s : State) : ∃ v, s.statusSection n = some v := by
  match n, low with
  | 0, _ | 1, _ | 2, _ | 3, _ => exact ⟨_, rfl⟩

/-- A section of the table is answered with the summary, and the three flags are clear. -/
theorem status_of_section {s : State} {n : Nat} {v : StatusSection} (shown : s.statusSection n = some v) :
    status n s = (⟨.accepted, .status s.summary v⟩,
      { s with link := { s.link with retentionLost := false, overflow := false, displaced := false }
               freeCount := s.freeCount + 7 }) := by
  unfold status
  rw [shown]
  rfl

theorem State.alert_of_running {s : State} (running : s.power = .running) :
    s.alert = decide (s.shutdown.bay ≠ .disarmed ∧ s.shutdown.bay ≠ .armed) := by
  unfold State.alert
  rw [running]
  cases s.shutdown.bay <;> rfl

/-! ## The HEADERS section (03 R75) -/

/-- The view of a header stands at its number. -/
theorem State.headerViews_at (s : State) (h : Fin 6) : (sixNumbers.map s.headerView)[h.val]? = some (s.headerView h) := by
  have at' : ∀ h : Fin 6, sixNumbers[h.val]? = some h := by decide
  rw [List.getElem?_map, at']
  rfl

theorem queuePosition_of_absent {h : Fin 6} {queue : List (Fin 6)} (absent : h ∉ queue) : queuePosition h queue = 0 := by
  simp [queuePosition, absent]

/-- A queued header's position counts those before it and itself. -/
theorem queuePosition_of_first {h : Fin 6} {before : List (Fin 6)} (first : h ∉ before) (after : List (Fin 6)) :
    queuePosition h (before ++ h :: after) = before.length + 1 := by
  have index : (before ++ h :: after).idxOf h = before.length := by
    rw [List.idxOf_append_of_notMem first, List.idxOf_cons_self, Nat.add_zero]
  unfold queuePosition
  rw [if_pos (by simp), index]

theorem Header.secondsLeft_at_rest {k : Header} (starting : k.pump ≠ .starting) (runon : k.pump ≠ .runon) (elapsed : Nat)
    (phase : Bool) : k.secondsLeft elapsed phase = 0 := by
  unfold Header.secondsLeft
  cases pump : k.pump
  case starting => exact absurd pump starting
  case runon => exact absurd pump runon
  all_goals rfl

theorem Header.secondsLeft_starting {k : Header} {t : Timer} (starting : k.pump = .starting) (proving : k.proving = some t)
    (elapsed : Nat) (phase : Bool) : k.secondsLeft elapsed phase = t.left elapsed phase := by
  unfold Header.secondsLeft
  rw [starting, proving]
  rfl

theorem Header.secondsLeft_runon {k : Header} {t : Timer} (runon : k.pump = .runon) (timer : k.runOn = some t)
    (elapsed : Nat) (phase : Bool) : k.secondsLeft elapsed phase = t.left elapsed phase := by
  unfold Header.secondsLeft
  rw [runon, timer]
  rfl

/-- The slot is free in 0 seconds, or in what is left of the stagger, to within a second (03 R64). -/
theorem State.slotLeft_of_free {s : State} (free : s.slot.free = true) : s.slotLeft = 0 := if_pos free

theorem State.slotLeft_near {s : State} (occupied : s.slot.free = false) :
    s.slotLeft ≤ s.slot.lastStart + s.settings.stagger - s.elapsed
      ∧ s.slot.lastStart + s.settings.stagger - s.elapsed ≤ s.slotLeft + 1 := by
  have left : s.slotLeft = Timer.left ⟨s.slot.lastStart, s.settings.stagger⟩ s.elapsed (s.phase 6) :=
    if_neg (by rw [occupied]; decide)
  rw [left]
  exact Timer.left_near _ _ _

end Sys2Proof.Machine

namespace Sys2Proof
open Sys2Proof.Machine
set_option Elab.async false

/-- Settles O50: STATUS answers with the summary and the section of its table, each read off the part, and clears the
flags. -/
theorem statusClearsFlags : Obligations.StatusClearsFlags := by
  refine ⟨fun tag n s ready high => event_request_exact ready _ _ _ _ ready.1 ?_, fun tag n s ready low => ?_⟩
  · unfold status
    rw [State.statusSection_eq_none high]
    rfl
  obtain ⟨v, shown⟩ := State.statusSection_isSome low s
  refine ⟨s.summary, v, event_request_exact ready _ _ _ _ ready.1 (status_of_section shown), rfl, rfl, rfl, rfl, rfl, rfl,
    rfl, rfl, rfl, rfl, ?_, rfl, rfl, rfl, rfl, rfl, rfl, rfl, ?_, ?_, ?_, ?_⟩
  · simp [State.summary, State.runningBurst, ready.2.1]
  · rintro rfl
    exact (Option.some.inj shown).symm
  · rintro rfl
    rw [← PressState.held_eq, ← State.alert_of_running ready.1]
    exact (Option.some.inj shown).symm
  · rintro rfl
    refine ⟨sixNumbers.map s.headerView, s.slotLeft, (Option.some.inj shown).symm, rfl, State.slotLeft_of_free,
      State.slotLeft_near, fun h w seen => ?_⟩
    rw [State.headerViews_at, Option.some.injEq] at seen
    subst seen
    refine ⟨rfl, rfl, rfl, queuePosition_of_absent, fun before after queue first => ?_,
      fun starting runon => Header.secondsLeft_at_rest starting runon _ _, fun t starting proving => ?_,
      fun t runon timer => ?_⟩
    · show queuePosition h s.slot.queue = _
      rw [queue, queuePosition_of_first first]
    · show Header.secondsLeft (s.header h) _ _ ≤ _ ∧ _ ≤ Header.secondsLeft (s.header h) _ _ + 1
      rw [Header.secondsLeft_starting starting proving]
      exact t.left_near _ _
    · show Header.secondsLeft (s.header h) _ _ ≤ _ ∧ _ ≤ Header.secondsLeft (s.header h) _ _ + 1
      rw [Header.secondsLeft_runon runon timer]
      exact t.left_near _ _
  · rintro rfl
    exact (Option.some.inj shown).symm

end Sys2Proof
end

section
/-! PROOFS. The receive frame assembler, and the checks of a received frame (O52; 09 R185 to R187). -/
namespace Sys2Proof.Machine
set_option Elab.async false

/-! ## The checks of a frame (09 R186, R187) -/

/-- A bad LEN byte, or another number of bytes than it names, makes a bad frame. -/
theorem checkFrame_of_bad_length {len : Byte} {rest : List Byte}
    (bad : len.toNat < 2 ∨ 250 < len.toNat ∨ rest.length ≠ len.toNat + 2) : checkFrame (len :: rest) = none := by
  match rest, bad with
  | [], _ => rfl
  | [_], _ => rfl
  | kind :: tag :: body, bad =>
    refine if_neg fun good => ?_
    obtain ⟨low, high, whole, -⟩ := good
    simp only [List.length_cons] at bad
    omega

theorem checkFrame_of_good_crc {len kind tag hi lo : Byte} {body : List Byte} (small : len.toNat ≤ 250)
    (whole : body.length + 2 = len.toNat) (crc : hi ++ lo = crcOf (len :: kind :: tag :: body)) :
    checkFrame (len :: kind :: tag :: (body ++ [hi, lo])) = some ⟨kind, tag, body⟩ := by
  rw [checkFrame_eq len kind tag hi lo body small whole, if_pos crc]

theorem checkFrame_of_bad_crc {len kind tag hi lo : Byte} {body : List Byte} (small : len.toNat ≤ 250)
    (whole : body.length + 2 = len.toNat) (crc : hi ++ lo ≠ crcOf (len :: kind :: tag :: body)) :
    checkFrame (len :: kind :: tag :: (body ++ [hi, lo])) = none := by
  rw [checkFrame_eq len kind tag hi lo body small whole, if_neg crc]

/-- The check value of the CRC, of the digits 1 to 9 in ASCII (09 R186). -/
theorem crcOf_check_value : crcOf [0x31, 0x32, 0x33, 0x34, 0x35, 0x36, 0x37, 0x38, 0x39] = 0x29B1#16 := by
  decide +kernel

/-! ## A byte arrives (09 R187) -/

/-- The part with its receive frame assembler as given. -/
def State.assembling (s : State) (a : Assembler) : State := { s with link := { s.link with assembler := a } }

theorem hostByteReceived_hunt {b : Byte} {s : State} (hunt : s.link.assembler = .hunt) :
    hostByteReceived b s = if b = 0xA5 then s.assembling (.assembling []) else s := by
  unfold hostByteReceived
  rw [hunt]
  rfl

/-- What a byte collected after the sync makes of the assembler. -/
theorem hostByteReceived_collects {b : Byte} {bytes : List Byte} {s : State}
    (collected : s.link.assembler = .assembling bytes) :
    hostByteReceived b s =
      if badLength (bytes ++ [b]) then s.assembling .hunt
      else if frameWhole (bytes ++ [b]) then s.frameCompletes (bytes ++ [b])
      else s.assembling (.assembling (bytes ++ [b])) := by
  unfold hostByteReceived
  rw [collected]
  rfl

theorem badLength_cons (len : Byte) (rest : List Byte) :
    badLength (len :: rest) = true ↔ len.toNat < 2 ∨ 250 < len.toNat := by
  simp [badLength]

theorem frameWhole_cons (len : Byte) (rest : List Byte) :
    frameWhole (len :: rest) = true ↔ rest.length = len.toNat + 2 := by
  simp [frameWhole]

/-- The first byte is LEN: a bad one ends the frame. -/
theorem hostByteReceived_bad_len {b : Byte} {s : State} (synced : s.link.assembler = .assembling [])
    (bad : b.toNat < 2 ∨ 250 < b.toNat) : hostByteReceived b s = s.assembling .hunt := by
  rw [hostByteReceived_collects synced, List.nil_append, if_pos ((badLength_cons b []).2 bad)]

theorem hostByteReceived_len {b : Byte} {s : State} (synced : s.link.assembler = .assembling []) (low : 2 ≤ b.toNat)
    (high : b.toNat ≤ 250) : hostByteReceived b s = s.assembling (.assembling [b]) := by
  rw [hostByteReceived_collects synced, if_neg fun bad => ?_, if_neg fun whole => ?_]
  · rfl
  · exact absurd ((frameWhole_cons b []).1 whole) (by simp)
  · have := (badLength_cons b []).1 bad
    omega

section
variable {b len : Byte} {rest : List Byte} {s : State}

/-- A byte short of the frame's end is kept. -/
theorem hostByteReceived_kept (collected : s.link.assembler = .assembling (len :: rest)) (low : 2 ≤ len.toNat)
    (high : len.toNat ≤ 250) (more : rest.length + 1 < len.toNat + 2) :
    hostByteReceived b s = s.assembling (.assembling (len :: rest ++ [b])) := by
  rw [hostByteReceived_collects collected, List.cons_append, if_neg fun bad => ?_, if_neg fun whole => ?_]
  · have := (frameWhole_cons len (rest ++ [b])).1 whole
    simp only [List.length_append, List.length_singleton] at this
    omega
  · have := (badLength_cons len (rest ++ [b])).1 bad
    omega

/-- The last byte hands over the frame. -/
theorem hostByteReceived_completes (collected : s.link.assembler = .assembling (len :: rest)) (low : 2 ≤ len.toNat)
    (high : len.toNat ≤ 250) (last : rest.length + 1 = len.toNat + 2) :
    hostByteReceived b s = s.frameCompletes (len :: rest ++ [b]) := by
  rw [hostByteReceived_collects collected, List.cons_append, if_neg fun bad => ?_, if_pos]
  · exact (frameWhole_cons len (rest ++ [b])).2 (by simpa using last)
  · have := (badLength_cons len (rest ++ [b])).1 bad
    omega

end

/-! ## A frame is handed over (09 R187, R188) -/

theorem State.frameCompletes_bad {bytes : List Byte} (bad : checkFrame bytes = none) (s : State) :
    s.frameCompletes bytes = s.assembling .hunt := by
  unfold State.frameCompletes
  rw [bad]
  rfl

theorem State.frameCompletes_good {bytes : List Byte} {f : HeldFrame} (good : checkFrame bytes = some f) (s : State) :
    s.frameCompletes bytes = (s.assembling .hunt).offerFrame f := by
  unfold State.frameCompletes
  rw [good]
  rfl

theorem requestKind_iff (kind : Byte) : requestKind kind = true ↔ 1 ≤ kind.toNat ∧ kind.toNat ≤ 63 := by
  simp [requestKind]

/-- A frame of no request KIND is discarded. -/
theorem State.offerFrame_other {f : HeldFrame} (other : f.kind = 0 ∨ 64 ≤ f.kind.toNat) (s : State) :
    s.offerFrame f = s := by
  refine if_neg fun request => ?_
  have := (requestKind_iff f.kind).1 request
  rcases other with zero | high
  · rw [zero] at this
    exact absurd this.1 (by decide)
  · omega

end Sys2Proof.Machine

namespace Sys2Proof
open Sys2Proof.Machine
set_option Elab.async false

/-- Settles O52: what each byte makes of the assembler, what is done with the frame it hands over, and the checks of a
frame with the CRC taken bit by bit. -/
theorem assemblerTakesBytes : Obligations.AssemblerTakesBytes := by
  refine ⟨fun b s running => ⟨event_of_running running _, fun hunt sync => ?_, fun hunt other => ?_,
    fun synced bad => ?_, fun synced low high => ?_, fun len rest collected low high => ⟨fun more => ?_, fun last => ?_⟩,
    fun bytes bad => ?_, fun bytes f good other => ?_⟩, rfl, fun len rest => checkFrame_of_bad_length,
    fun len kind tag hi lo body small whole => ⟨checkFrame_of_good_crc small whole, checkFrame_of_bad_crc small whole⟩,
    crcOf_check_value⟩
  · exact event_eq_settled running ((hostByteReceived_hunt hunt).trans (if_pos sync))
  · exact event_eq_settled running ((hostByteReceived_hunt hunt).trans (if_neg other))
  · exact event_eq_settled running (hostByteReceived_bad_len synced bad)
  · exact event_eq_settled running (hostByteReceived_len synced low high)
  · exact event_eq_settled running (hostByteReceived_kept collected low high more)
  · exact (event_eq_settled running (hostByteReceived_completes collected low high last)).trans
      (event_of_running running _).symm
  · exact event_eq_settled running (State.frameCompletes_bad bad s)
  · exact event_eq_settled running ((State.frameCompletes_good good s).trans (State.offerFrame_other other _))

end Sys2Proof
end

section
/-! PROOFS. The end of a sent frame: the line, the reply slot, the burst and the frame held (O53; 09 R188, R192; 06 R136
to R141). -/
namespace Sys2Proof.Machine
set_option Elab.async false

/-! ## A held frame is taken (09 R188) -/

/-- The oldest held frame is dispatched and answered. -/
theorem State.takeHeld_takes {s : State} {f : HeldFrame} {rest : List HeldFrame} (slot : s.link.reply = none)
    (idle : s.burst = none) (held : s.link.hold = f :: rest) :
    s.takeHeld =
      let r := serveFrame f (s.modLink fun k => { k with hold := rest })
      r.2.putReply f.kind f.tag r.1 := by
  unfold State.takeHeld
  rw [slot, idle, held]

/-- Nothing is taken from an empty hold, during a burst, or beside a pending reply. -/
theorem State.takeHeld_waits {s : State} (waits : s.link.hold = [] ∨ s.burst ≠ none ∨ s.link.reply ≠ none) :
    s.takeHeld = s := by
  unfold State.takeHeld
  split
  · rename_i slot idle held
    rcases waits with none' | burst | reply
    · rw [none'] at held; cases held
    · exact absurd idle burst
    · exact absurd slot reply
  · rfl

/-! ## The end of a message (09 R192) -/

/-- The part with its line free. -/
def State.lineFreed (s : State) : State := { s with link := { s.link with line := none } }

/-- The part with its line and its reply slot free. -/
def State.replyFreed (s : State) : State := { s with link := { s.link with line := none, reply := none } }

theorem frameSent_of_line {s : State} {m : TxMessage} (sending : s.link.line = some m) :
    frameSent s = (s.lineFreed.messageSent m).takeHeld := by
  unfold frameSent
  rw [sending]
  rfl

theorem frameSent_of_free {s : State} (free : s.link.line = none) : frameSent s = s := by
  unfold frameSent
  rw [free]

/-- The end of a reply with no burst waiting frees the slot. -/
theorem State.replySent {s : State} (idle : s.burst = none) (r : Reply) :
    s.lineFreed.messageSent (.reply r) = s.replyFreed := by
  show s.replyFreed.beginBurst = _
  unfold State.beginBurst
  rw [show s.replyFreed.burst = none from idle]

/-- The end of a JOURNAL-READ's reply starts its burst. -/
theorem State.burstStarts {s : State} {b : Burst} (waiting : s.burst = some b) (empty : s.link.hold = []) (r : Reply) :
    s.lineFreed.messageSent (.reply r) = { s.replyFreed with burst := some { b with started := true } } := by
  show s.replyFreed.beginBurst = _
  unfold State.beginBurst
  rw [show s.replyFreed.burst = some b from waiting, show s.replyFreed.link.hold = [] from empty]
  rfl

/-- A burst that starts with a frame held is ended by the oldest. -/
theorem State.burstStartsEnded {s : State} {b : Burst} {f : HeldFrame} {rest : List HeldFrame} (waiting : s.burst = some b)
    (held : s.link.hold = f :: rest) (r : Reply) :
    s.lineFreed.messageSent (.reply r) =
      { s.replyFreed with
        burst := some (({ b with started := true } : Burst).endedBy (decide (f.kind = 0x29 ∧ f.body = []))) } := by
  show s.replyFreed.beginBurst = _
  unfold State.beginBurst
  rw [show s.replyFreed.burst = some b from waiting, show s.replyFreed.link.hold = f :: rest from held,
    ← Burst.interrupt_endedBy]
  rfl

/-- The end of a record counts it, and an auto-acknowledge burst releases it (06 R137, R138). -/
theorem State.recordSent_eq {s : State} {b : Burst} (running : s.burst = some b) (r : JournalRecord) :
    s.lineFreed.messageSent (.record r) =
      { s.lineFreed with burst := some { b with sent := b.sent + 1, last := r.seq }
                         journal := if b.auto then s.journal.release r.seq else s.journal } := by
  show s.lineFreed.recordSent r = _
  unfold State.recordSent
  rw [show s.lineFreed.burst = some b from running]
  dsimp only
  split <;> rfl

end Sys2Proof.Machine

namespace Sys2Proof
open Sys2Proof.Machine
set_option Elab.async false

/-- Settles O53: what the end of each message frees, starts, counts or ends, and whether a held frame is then taken. -/
theorem frameSentFreesLine : Obligations.FrameSentFreesLine := by
  intro s running
  have sent : ∀ {m : TxMessage} {v u : State}, s.link.line = some m → s.lineFreed.messageSent m = v → v.takeHeld = u →
      exec .frameSent s = u.settled := fun sending ended becomes =>
    event_eq_settled running ((frameSent_of_line sending).trans ((congrArg State.takeHeld ended).trans becomes))
  refine ⟨fun free => event_eq_settled running (frameSent_of_free free), fun n sending waits => ?_,
    fun r sending idle empty => ?_, fun r f rest sending idle held => ?_, fun r b sending waiting empty => ?_,
    fun r b f rest sending waiting held => ?_, fun r b sending burst kept => ?_, fun r b sending burst auto => ?_,
    fun e sending => ⟨fun waits => ?_, fun f rest slot held => ?_⟩⟩
  · exact sent sending rfl (State.takeHeld_waits waits)
  · exact sent sending (State.replySent idle r) (State.takeHeld_waits (.inl empty))
  · exact sent sending (State.replySent idle r) (State.takeHeld_takes rfl idle held)
  · exact sent sending (State.burstStarts waiting empty r) (State.takeHeld_waits (.inl empty))
  · exact sent sending (State.burstStartsEnded waiting held r) (State.takeHeld_waits (.inr (.inl (by simp))))
  · refine (sent sending (State.recordSent_eq burst r) (State.takeHeld_waits (.inr (.inl (by simp))))).trans ?_
    rw [kept]
    rfl
  · refine (sent sending (State.recordSent_eq burst r) (State.takeHeld_waits (.inr (.inl (by simp))))).trans ?_
    rw [auto]
    rfl
  · exact sent sending rfl (State.takeHeld_waits (waits.symm.imp_right .inr))
  · exact sent sending rfl (State.takeHeld_takes slot rfl held)

end Sys2Proof
end

section
/-! PROOFS. The law of the link's bounds, the gauge bus and the tanks' figures, and the moves that keep it (09 R188, R194;
04 R83, R84, R90). -/
namespace Sys2Proof.Machine
set_option Elab.async false

/-! ## One tank's figures (04 R90) -/

/-- The tank's dispensed counter is its held reading's counter and what was dispensed since. -/
def Tank.sincePollHolds (k : Tank) : Prop := ∀ h, k.held = some h → k.dispensed = h.counter + k.sincePoll

/-- A change that leaves the held reading and the two counts alone. -/
theorem Tank.sincePollHolds.of_same {k l : Tank} (holds : k.sincePollHolds) (held : l.held = k.held := by exact rfl)
    (dispensed : l.dispensed = k.dispensed := by exact rfl) (sincePoll : l.sincePoll = k.sincePoll := by exact rfl) :
    l.sincePollHolds := by
  intro h here
  rw [dispensed, sincePoll]
  exact holds h (held ▸ here)

theorem Tank.sincePollHolds.debit {k : Tank} (holds : k.sincePollHolds) (net : Nat) : (k.debit net).sincePollHolds := by
  intro h here
  show k.dispensed + net = h.counter + (k.sincePoll + net)
  rw [holds h here, Nat.add_assoc]

theorem Tank.holdReading_sincePollHolds (r : GaugeReading) (now : Nat) (net : Int) (k : Tank) :
    (k.holdReading r now net).sincePollHolds := by
  intro h here
  cases here
  rfl

theorem Tank.reconfigured_sincePollHolds (k : Tank) : k.reconfigured.sincePollHolds := fun _ here => by cases here

theorem Tank.sincePollHolds.openWith {k : Tank} (holds : k.sincePollHolds) (net : Int) :
    (k.openWith net).sincePollHolds := by
  unfold Tank.openWith
  split
  · exact holds.of_same
  · exact holds

theorem Tank.sincePollHolds.pollFailed {k : Tank} (holds : k.sincePollHolds) : k.pollFailed.sincePollHolds := by
  unfold Tank.pollFailed
  split
  case h_3 => split <;> exact holds.of_same
  all_goals exact holds.of_same

theorem Tank.sincePollHolds.roundEnded {k : Tank} (holds : k.sincePollHolds) : k.roundEnded.sincePollHolds := by
  unfold Tank.roundEnded
  repeat' split
  all_goals exact holds.of_same

/-! ## The link's bounds (09 R188, R194) -/

/-- At most 2 frames are held and at most 32 notices queued. -/
def Link.bounded (k : Link) : Prop := k.hold.length ≤ 2 ∧ k.notices.length ≤ 32

/-- A notice that finds the queue full takes the place of one, or is discarded (09 R195). -/
theorem Link.bounded.offer {k : Link} (bounded : k.bounded) (n : Notice) : (k.offer n).bounded := by
  obtain ⟨hold, notices⟩ := bounded
  unfold Link.offer
  split
  · rename_i room
    exact ⟨hold, by simpa using room⟩
  · split
    · rename_i l lowest
      have found := lowestBelow_spec n.level k.notices
      rw [lowest] at found
      obtain ⟨-, ⟨m, mem, level⟩, -⟩ := found
      refine ⟨hold, ?_⟩
      have shorter := List.length_eraseP_of_mem mem (p := fun m : Notice => m.level == l) (by simpa using level)
      have : 0 < k.notices.length := List.length_pos_of_mem mem
      simp only [List.length_append, List.length_singleton, shorter]
      omega
    · exact ⟨hold, notices⟩

theorem Link.bounded.raised {k : Link} (bounded : k.bounded) (maskLevel : Nat) (n : Notice) :
    (k.raised maskLevel n).bounded := by
  unfold Link.raised
  split
  · exact bounded.offer n
  · exact bounded

theorem State.linkRaising_bounded {s : State} (bounded : s.link.bounded) (bodies : List NoticeBody) :
    (s.linkRaising bodies).bounded :=
  List.foldlRecOn bodies _ bounded fun _ kept _ _ => kept.raised _ _

/-! ## The law, and moves that leave the bus alone -/

/-- The law but for what an idle bus holds: it stands also while the bus has yet to be served. -/
structure State.figuresSound (s : State) : Prop where
  link : s.link.bounded
  pending : s.power = .running → s.bus.roundPending = true → s.bus.round ≠ none
  tanks : ∀ t, (s.tank t).sincePollHolds

theorem State.figuresLawful_iff (s : State) :
    s.figuresLawful ↔
      s.figuresSound ∧ (s.power = .running → s.bus.poll = none → s.bus.round = none ∧ s.bus.queue = []) :=
  ⟨fun ⟨link, bus, tanks⟩ => ⟨⟨link, fun running => (bus running).1, tanks⟩, fun running => (bus running).2⟩,
    fun ⟨⟨link, pending, tanks⟩, idle⟩ => ⟨link, fun running => ⟨pending running, idle running⟩, tanks⟩⟩

theorem State.figuresLawful.sound {s : State} (law : s.figuresLawful) : s.figuresSound :=
  (s.figuresLawful_iff.1 law).1

/-- From s to t the bus and the supply are as they were, and the link's bounds and the tanks' figures are kept. -/
structure State.figuresQuiet (s t : State) : Prop where
  bus : t.bus = s.bus
  power : t.power = s.power
  link : s.link.bounded → t.link.bounded
  tanks : ∀ k, (s.tank k).sincePollHolds → (t.tank k).sincePollHolds

theorem State.figuresQuiet_refl (s : State) : s.figuresQuiet s := ⟨rfl, rfl, id, fun _ => id⟩

theorem State.figuresQuiet.trans {s t u : State} (a : s.figuresQuiet t) (b : t.figuresQuiet u) : s.figuresQuiet u :=
  ⟨b.bus.trans a.bus, b.power.trans a.power, b.link ∘ a.link, fun k => b.tanks k ∘ a.tanks k⟩

theorem State.figuresQuiet_of_frame {s t : State} (tanks : t.tanks = s.tanks := by simp) (bus : t.bus = s.bus := by simp)
    (power : t.power = s.power := by simp) (link : t.link = s.link := by simp) : s.figuresQuiet t :=
  ⟨bus, power, fun bounded => link ▸ bounded, fun k holds => by rwa [State.tank_congr k s t tanks]⟩

theorem State.figuresQuiet.sound {s t : State} (q : s.figuresQuiet t) (sound : s.figuresSound) : t.figuresSound where
  link := q.link sound.link
  pending := by rw [q.bus, q.power]; exact sound.pending
  tanks k := q.tanks k (sound.tanks k)

/-- Quiet moves keep the law. -/
theorem State.figuresQuiet.keeps {s t : State} (q : s.figuresQuiet t) (law : s.figuresLawful) : t.figuresLawful := by
  refine t.figuresLawful_iff.2 ⟨q.sound law.sound, ?_⟩
  rw [q.bus, q.power]
  exact (s.figuresLawful_iff.1 law).2

/-- What leaves tanks, bus, supply and link alone keeps the law. -/
theorem State.figuresLawful.unmoved {s t : State} (law : s.figuresLawful) (tanks : t.tanks = s.tanks := by simp)
    (bus : t.bus = s.bus := by simp) (power : t.power = s.power := by simp) (link : t.link = s.link := by simp) :
    t.figuresLawful := (State.figuresQuiet_of_frame tanks bus power link).keeps law

theorem State.modTank_figuresQuiet (t : Fin 8) (f : Tank → Tank)
    (holds : ∀ k : Tank, k.sincePollHolds → (f k).sincePollHolds) (s : State) : s.figuresQuiet (s.modTank t f) where
  bus := rfl
  power := rfl
  link := id
  tanks k here := by
    by_cases hk : k = t
    · subst hk; rw [State.tank_modTank_same]; exact holds _ here
    · rw [State.tank_modTank_ne _ _ hk]; exact here

theorem State.modLink_figuresQuiet (f : Link → Link) (s : State) (bounded : s.link.bounded → (f s.link).bounded) :
    s.figuresQuiet (s.modLink f) := ⟨rfl, rfl, bounded, fun _ => id⟩

theorem eachOfEight_figuresQuiet (f : Fin 8 → State → State) (quiet : ∀ i (s : State), s.figuresQuiet (f i s))
    (s : State) : s.figuresQuiet (eachOfEight f s) :=
  eachOfEight_induction (P := s.figuresQuiet) f (fun i t before => before.trans (quiet i t)) s.figuresQuiet_refl

/-! ## Notices and readings used (04 R88; 09 R194) -/

theorem State.notify_figuresQuiet (b : NoticeBody) (s : State) : s.figuresQuiet (s.notify b) := by
  unfold State.notify
  split
  · exact State.modLink_figuresQuiet _ s fun bounded => bounded.offer _
  · exact s.figuresQuiet_refl

theorem State.useReading_figuresQuiet (t : Fin 8) (s : State) : s.figuresQuiet (s.useReading t) := by
  unfold State.useReading
  split
  · exact (State.modTank_figuresQuiet t _ (fun _ holds => holds.of_same) s).trans (State.notify_figuresQuiet _ _)
  · exact s.figuresQuiet_refl

theorem State.hourProcessing_figuresQuiet (m : Fin 512) (i : Fin 8) (reading : Option Nat) (s : State) :
    s.figuresQuiet (s.hourProcessing m i reading).2 := by
  unfold State.hourProcessing
  dsimp only
  split
  · exact State.figuresQuiet.trans State.figuresQuiet_of_frame (State.notify_figuresQuiet _ (s.modMachine m _))
  · exact State.figuresQuiet_of_frame

/-! ## The pumps (03 R67) -/

theorem State.failPump_figuresQuiet (h : Fin 6) (reason : PumpReason) (s : State) :
    s.figuresQuiet (s.failPump h reason) :=
  State.figuresQuiet.trans State.figuresQuiet_of_frame (State.notify_figuresQuiet _ _)

theorem proveChange_figuresQuiet (h : Fin 6) (active : Bool) (s : State) : s.figuresQuiet (proveChange h active s) := by
  have level : s.figuresQuiet (s.modHeader h fun k => { k with prove := active }) := State.figuresQuiet_of_frame
  unfold proveChange
  dsimp only
  split
  · exact s.figuresQuiet_refl
  · split
    · split
      · exact level.trans State.figuresQuiet_of_frame
      · exact level
    · split
      · exact level
      · exact level.trans (State.failPump_figuresQuiet h _ _)
    · split
      · exact level
      · exact level.trans (State.failPump_figuresQuiet h _ _)
    all_goals exact level

theorem provingTimerExpiry_figuresQuiet (h : Fin 6) (s : State) : s.figuresQuiet (provingTimerExpiry h s) := by
  unfold provingTimerExpiry
  split
  · exact State.failPump_figuresQuiet h _ s
  · exact s.figuresQuiet_refl

/-! ## The stock band and the receipts (04 R91, R97, R98) -/

theorem State.evaluateBand_figuresQuiet (t : Fin 8) (s : State) : s.figuresQuiet (s.evaluateBand t) := by
  unfold State.evaluateBand
  extract_lets k band s1 s2
  have banded : s.figuresQuiet s1 :=
    State.modTank_figuresQuiet t (fun k => { k with band := band }) (fun _ holds => holds.of_same) s
  have sent : s1.figuresQuiet s2 := by
    unfold s2
    split
    · refine State.figuresQuiet.trans ?_ (State.notify_figuresQuiet _ _)
      split
      · exact State.figuresQuiet_of_frame
      · exact s1.figuresQuiet_refl
    · exact s1.figuresQuiet_refl
  split
  · exact banded.trans sent
  · split
    · exact (banded.trans sent).trans State.figuresQuiet_of_frame
    · exact banded.trans sent

theorem State.debitLane_figuresQuiet (i : Fin 8) (net : Nat) (s : State) : s.figuresQuiet (s.debitLane i net) := by
  unfold State.debitLane
  split
  · exact (State.modTank_figuresQuiet _ (Tank.debit net) (fun _ holds => holds.debit net) s).trans
      (State.evaluateBand_figuresQuiet _ _)
  · exact s.figuresQuiet_refl

theorem State.settleOnReply_figuresQuiet (t : Fin 8) (p : Poll) (net : Int) (s : State) :
    s.figuresQuiet (s.settleOnReply t p net) := by
  unfold State.settleOnReply
  split
  · exact s.figuresQuiet_refl
  · split
    · exact (State.modTank_figuresQuiet t _ (fun _ holds => holds.of_same) s).trans (State.notify_figuresQuiet _ _)
    · exact s.figuresQuiet_refl

/-- The end of a round settles receipts and leaves the figures (04 R97). -/
theorem State.roundOver_figuresQuiet (s : State) : s.figuresQuiet s.roundOver where
  bus := rfl
  power := rfl
  link bounded := State.linkRaising_bounded bounded _
  tanks k holds := by rw [State.tank_roundOver]; exact holds.roundEnded

/-! ## The period close (08 R176) -/

theorem State.useTanks_figuresQuiet (s : State) : s.figuresQuiet s.useTanks :=
  eachOfEight_figuresQuiet _ (fun t u => by
    split
    · exact State.useReading_figuresQuiet t u
    · exact u.figuresQuiet_refl) s

theorem State.closeNotices_figuresQuiet (s : State) : s.figuresQuiet s.closeNotices := by
  refine State.figuresQuiet.trans (eachOfEight_figuresQuiet _ (fun t u => ?_) s) (State.notify_figuresQuiet _ _)
  unfold State.varianceNotice
  dsimp only
  split
  · exact State.notify_figuresQuiet _ u
  · exact u.figuresQuiet_refl

theorem State.resetFigures_figuresQuiet (s : State) : s.figuresQuiet s.resetFigures := by
  refine State.figuresQuiet.trans (eachOfEight_figuresQuiet
    (fun i t => (t.modTank i Tank.newPeriod).modLane i fun l => { l with totals := {} }) (fun i t => ?_) s)
    (State.figuresQuiet_of_frame rfl rfl rfl rfl)
  exact (State.modTank_figuresQuiet i Tank.newPeriod (fun _ holds => holds.of_same) t).trans State.figuresQuiet_of_frame

theorem State.closePeriod_figuresQuiet (reason : CloseReason) (kind : Option PeriodKind) (s : State) :
    s.figuresQuiet (s.closePeriod reason kind) := by
  have reset := (s.useTanks_figuresQuiet.trans (State.closeNotices_figuresQuiet _)).trans
    (State.resetFigures_figuresQuiet _)
  refine reset.trans ?_
  unfold State.closePeriod
  exact State.figuresQuiet_of_frame

theorem boundary_figuresQuiet (s : State) : s.figuresQuiet (boundary s) := by
  unfold boundary
  split
  · exact (State.figuresQuiet_of_frame (t := s.modPeriod _)).trans (State.closePeriod_figuresQuiet _ _ _)
  · exact s.figuresQuiet_refl

/-! ## Commits (01 R24) -/

theorem State.commitDelivery_figuresQuiet (i : Fin 8) (valveHeld : Bool) (s : State) :
    s.figuresQuiet (s.commitDelivery i valveHeld) := by
  have credited : s.figuresQuiet (s.creditMachine i) := by
    unfold State.creditMachine
    dsimp only
    split
    · exact State.figuresQuiet.trans State.figuresQuiet_of_frame (State.notify_figuresQuiet _ (s.modMachine _ _))
    · exact State.figuresQuiet_of_frame
  refine credited.trans (State.figuresQuiet.trans ?_ (State.notify_figuresQuiet _ _))
  exact State.figuresQuiet_of_frame

theorem State.finishClose_figuresQuiet (i : Fin 8) (valveHeld : Bool) (s : State) :
    s.figuresQuiet (s.finishClose i valveHeld) := by
  unfold State.finishClose
  exact (State.commitDelivery_figuresQuiet i valveHeld s).trans State.figuresQuiet_of_frame

end Sys2Proof.Machine
end

section
/-! PROOFS. The gauge bus is served: polls asked for and ended, rounds that fall due, receipts and inlets closed, and
causes raised, under the law of the figures (04 R83, R84, R97, R99; 07 R156, R157). -/
namespace Sys2Proof.Machine
set_option Elab.async false

/-! ## Moves of the bus alone -/

/-- A part with a bus on which a round pends only beside another, and an idle one holds nothing. -/
theorem State.figuresSound.withBus {s : State} (sound : s.figuresSound) (b : GaugeBus)
    (pending : s.power = .running → b.roundPending = true → b.round ≠ none)
    (idle : b.poll = none → b.round = none ∧ b.queue = []) : ({ s with bus := b } : State).figuresLawful :=
  (State.figuresLawful_iff _).2 ⟨⟨sound.link, pending, sound.tanks⟩, fun _ => idle⟩

/-- A change of the bus beside its rounds. -/
theorem State.figuresSound.modBus {s : State} (sound : s.figuresSound) (f : GaugeBus → GaugeBus)
    (round : (f s.bus).round = s.bus.round := by exact rfl)
    (pending : (f s.bus).roundPending = s.bus.roundPending := by exact rfl) : (s.modBus f).figuresSound where
  link := sound.link
  pending := by
    show s.power = .running → (f s.bus).roundPending = true → (f s.bus).round ≠ none
    rw [round, pending]
    exact sound.pending
  tanks := sound.tanks

/-- A mark on the outstanding poll leaves an idle bus idle. -/
theorem State.figuresLawful.mapPoll {s : State} (law : s.figuresLawful) (f : Poll → Poll) :
    (s.modBus fun b => { b with poll := b.poll.map f }).figuresLawful := by
  refine (State.figuresLawful_iff _).2 ⟨law.sound.modBus _, fun running none' => ?_⟩
  exact (s.figuresLawful_iff.1 law).2 running (Option.map_eq_none_iff.1 none')

/-- A poll outstanding, the law asks no more of the bus. -/
theorem State.figuresSound.lawful_of_poll {s : State} (sound : s.figuresSound) (poll : s.bus.poll ≠ none) :
    s.figuresLawful := s.figuresLawful_iff.2 ⟨sound, fun _ idle => absurd idle poll⟩

/-! ## The bus is served (04 R83, R84) -/

/-- A served bus polls, or holds neither a round nor a tank. -/
theorem State.figuresSound.served {s : State} (sound : s.figuresSound) (queue : List (Fin 8)) :
    (s.served queue).figuresLawful := by
  unfold State.served
  split
  · exact sound.withBus _ sound.pending fun idle => by cases idle
  · rename_i round
    exact sound.withBus _ sound.pending fun _ => ⟨round, rfl⟩
  · split
    · exact sound.withBus _ (fun _ _ => by simp) fun idle => by cases idle
    · rename_i notPending
      exact (State.roundOver_figuresQuiet _).keeps
        (sound.withBus _ (fun _ waits => by rw [notPending] at waits; cases waits) fun _ => ⟨rfl, rfl⟩)
    · exact (State.roundOver_figuresQuiet _).keeps
        (sound.withBus _ (fun _ waits => by cases waits) fun idle => by cases idle)
    · exact (State.roundOver_figuresQuiet _).keeps ((State.roundOver_figuresQuiet _).keeps
        (sound.withBus _ (fun _ waits => by cases waits) fun _ => ⟨rfl, rfl⟩))

theorem State.figuresSound.serveBus {s : State} (sound : s.figuresSound) : s.serveBus.figuresLawful := by
  rw [State.serveBus_eq]
  split
  · exact sound.served _
  · rename_i poll
    exact sound.lawful_of_poll poll

theorem State.figuresSound.askPoll {s : State} (sound : s.figuresSound) (t : Fin 8) : (s.askPoll t).figuresLawful := by
  have joined : ∀ b : GaugeBus, (b.add t).round = b.round ∧ (b.add t).roundPending = b.roundPending := fun b => by
    unfold GaugeBus.add
    split <;> exact ⟨rfl, rfl⟩
  exact State.figuresSound.serveBus (sound.modBus (GaugeBus.add t) (joined s.bus).1 (joined s.bus).2)

theorem State.figuresSound.endPoll {s : State} (sound : s.figuresSound) : s.endPoll.figuresLawful :=
  State.figuresSound.serveBus (sound.modBus fun b => { b with poll := none })

/-- A round that falls due waits beside the running one, or begins, or ends at its start. -/
theorem State.figuresLawful.roundFallsDue {s : State} (law : s.figuresLawful) : s.roundFallsDue.figuresLawful := by
  have due : (s.modBus fun b => { b with lastDue := s.elapsed }).figuresSound := law.sound.modBus _
  unfold State.roundFallsDue
  refine State.figuresSound.serveBus ?_
  split
  · rename_i n round
    refine ⟨due.link, fun _ _ => ?_, due.tanks⟩
    show s.bus.round ≠ none
    rw [round]
    simp
  · rename_i round
    rw [State.startRound_over]
    split
    · exact ⟨due.link, fun _ _ => by simp, due.tanks⟩
    · refine (State.roundOver_figuresQuiet _).sound ⟨due.link, fun running waits => ?_, due.tanks⟩
      exact absurd round (law.sound.pending running waits)

theorem State.figuresLawful.failPoll {s : State} (law : s.figuresLawful) (p : Poll) : (s.failPoll p).figuresLawful := by
  unfold State.failPoll
  refine State.figuresSound.endPoll ?_
  split
  · exact law.sound
  · exact (State.modTank_figuresQuiet p.tank Tank.pollFailed (fun _ holds => holds.pollFailed) s).sound law.sound

theorem State.figuresLawful.replyTimerExpiry {s : State} (law : s.figuresLawful) :
    (replyTimerExpiry s).figuresLawful := by
  unfold Machine.replyTimerExpiry
  split
  · split
    · exact law.failPoll _
    · exact law
  · exact law

/-- A reconfigured tank holds no reading (04 R78). -/
theorem State.figuresLawful.reconfigure {s : State} (law : s.figuresLawful) (t : Fin 8) :
    (s.reconfigure t).figuresLawful :=
  State.figuresLawful.mapPoll
    ((State.modTank_figuresQuiet t Tank.reconfigured (fun k _ => k.reconfigured_sincePollHolds) s).keeps law) _

/-! ## Receipts and inlets closed (04 R96, R99) -/

theorem State.figuresLawful.closeReceipt {s : State} (law : s.figuresLawful) (t : Fin 8) (cause : SettleCause) :
    (s.closeReceipt t cause).figuresLawful := by
  unfold State.closeReceipt
  split
  · exact law
  · split
    · exact law
    · refine State.figuresSound.askPoll (State.figuresSound.modBus ?_ _) t
      exact (State.modTank_figuresQuiet t _ (fun _ holds => holds.of_same) s).sound law.sound

theorem State.figuresLawful.closeInlets {s : State} (law : s.figuresLawful) : s.closeInlets.figuresLawful :=
  eachOfEight_induction (P := State.figuresLawful) _ (fun t _ kept => kept.closeReceipt t .shutdown) law

/-! ## Shutdown entry and causes (07 R156, R157) -/

theorem State.figuresLawful.shutdownEntry {s : State} (law : s.figuresLawful) : s.shutdownEntry.figuresLawful := by
  have lanes : s.figuresQuiet s.lanesShut :=
    (State.figuresQuiet_of_frame (t := s.modShutdown fun u => { u with bay := .shutting })).trans
      (eachOfEight_figuresQuiet State.shutLane (fun _ _ => State.figuresQuiet_of_frame) _)
  have units : s.unitsShut.figuresLawful :=
    State.figuresLawful.closeInlets ((lanes.trans (t := s.lanesShut) (u := s.lanesShut.stopHeaders)
      State.figuresQuiet_of_frame).keeps law)
  rw [State.shutdownEntry_eq]
  split
  · exact units.unmoved
  · exact units

theorem State.figuresLawful.raise {s : State} (law : s.figuresLawful) (kind : CauseKind) (detail : Mask) :
    (s.raise kind detail).figuresLawful := by
  have recorded : (s.recordCause kind detail).figuresLawful := law.unmoved
  refine (State.notify_figuresQuiet _ _).keeps ?_
  rw [State.entryIfOpen_eq]
  split
  · exact recorded.shutdownEntry
  · exact recorded

theorem State.figuresLawful.laneReport {s : State} (law : s.figuresLawful) (i : Fin 8) (reason : LockoutReason) :
    (s.laneReport i reason).figuresLawful := by
  unfold State.laneReport
  split
  case h_1 | h_2 => exact (State.notify_figuresQuiet _ _).keeps law.unmoved
  all_goals exact law.raise _ _

/-! ## A gauge's reply (04 R103) -/

theorem State.figuresLawful.leakCheck {s : State} (law : s.figuresLawful) (t : Fin 8) (net : Int) :
    (s.leakCheck t net).figuresLawful := by
  unfold State.leakCheck
  split
  · exact ((State.modTank_figuresQuiet t _ (fun _ holds => holds.of_same) s).keeps law).raise _ _
  · exact law

theorem State.overfillNotice_figuresQuiet (t : Fin 8) (level : Nat) (s : State) :
    s.figuresQuiet (s.overfillNotice t level) :=
  (State.modTank_figuresQuiet t (fun k => { k with highHigh := true, overfillStop := true })
    (fun _ holds => holds.of_same) s).trans (State.notify_figuresQuiet _ _)

theorem State.figuresLawful.highHighCheck {s : State} (law : s.figuresLawful) (t : Fin 8) (level : Nat) :
    (s.highHighCheck t level).figuresLawful := by
  unfold State.highHighCheck
  split
  · exact (State.modTank_figuresQuiet t _ (fun _ holds => holds.of_same) s).keeps law
  · split
    · exact (State.overfillNotice_figuresQuiet t level _).keeps
        ((State.modTank_figuresQuiet t _ (fun _ holds => holds.of_same) _).keeps (law.closeReceipt t _))
    · split
      · exact law
      · exact (State.overfillNotice_figuresQuiet t level s).keeps law

theorem State.figuresLawful.watchCheck {s : State} (law : s.figuresLawful) (t : Fin 8) (level : Nat) :
    (s.watchCheck t level).figuresLawful := by
  unfold State.watchCheck
  split
  · exact law
  · split
    · exact ((State.modTank_figuresQuiet t _ (fun _ holds => holds.of_same) s).keeps law).raise _ _
    · exact law

theorem State.figuresLawful.goodReply {s : State} (law : s.figuresLawful) (p : Poll) (r : GaugeReading) :
    (s.goodReply p r).figuresLawful := by
  unfold State.goodReply
  extract_lets t net s3 s5
  have compared : s3.figuresLawful := ((law.leakCheck t net).highHighCheck t r.level).watchCheck t r.level
  have held : s5.figuresLawful := (State.evaluateBand_figuresQuiet t _).keeps
    ((State.modTank_figuresQuiet t (Tank.holdReading r s.now net)
      (fun k _ => k.holdReading_sincePollHolds r s.now net) s3).keeps compared)
  exact (State.modTank_figuresQuiet t (Tank.openWith net) (fun _ holds => holds.openWith net) _).keeps
    ((State.settleOnReply_figuresQuiet t _ net s5).keeps held)

theorem State.figuresLawful.gaugeReply {s : State} (law : s.figuresLawful) (bytes : List Byte) :
    (gaugeReply bytes s).figuresLawful := by
  unfold Machine.gaugeReply
  split
  · exact law
  · split
    · split
      · exact law
      · exact law.failPoll _
      · refine State.figuresSound.endPoll ?_
        split
        · exact law.sound
        · exact (law.goodReply _ _).sound
    · exact law

/-! ## The lane's own events -/

theorem authorisationExpiry_figuresQuiet (i : Fin 8) (s : State) : s.figuresQuiet (authorisationExpiry i s) := by
  unfold authorisationExpiry
  split
  · exact State.figuresQuiet.trans State.figuresQuiet_of_frame (State.notify_figuresQuiet _ (s.withdrawLane i))
  · exact s.figuresQuiet_refl

theorem closeLimitExpiry_figuresQuiet (i : Fin 8) (s : State) : s.figuresQuiet (closeLimitExpiry i s) := by
  unfold closeLimitExpiry
  split
  · exact (State.finishClose_figuresQuiet i true s).trans State.figuresQuiet_of_frame
  · exact s.figuresQuiet_refl

theorem grantTaken_figuresQuiet (i : Fin 8) (s : State) : s.figuresQuiet (grantTaken i s) := by
  unfold grantTaken
  dsimp only
  split
  · split
    · exact State.figuresQuiet_of_frame
    · split
      · exact State.figuresQuiet_of_frame
      · exact State.figuresQuiet.trans State.figuresQuiet_of_frame (State.notify_figuresQuiet _ (s.modLane i _))
  · split
    all_goals exact State.figuresQuiet_of_frame
  · split
    all_goals exact State.figuresQuiet_of_frame
  all_goals exact State.figuresQuiet_of_frame

theorem State.figuresLawful.hoseTest {s : State} (law : s.figuresLawful) (i : Fin 8) (h : Fin 6) :
    (s.hoseTest i h).figuresLawful := by
  unfold State.hoseTest
  dsimp only
  split
  · split
    · split
      · exact law.unmoved
      · exact State.figuresLawful.raise (s := s.modLane i _) law.unmoved _ _
    · exact law.unmoved
  · exact law

theorem State.figuresLawful.laneTests {s : State} (law : s.figuresLawful) (i : Fin 8) :
    (s.laneTests i).figuresLawful := by
  unfold State.laneTests State.closeTest
  split
  · split
    · exact (State.finishClose_figuresQuiet i false s).keeps law
    · exact law
  · split
    · exact State.figuresLawful.hoseTest (s := s.applyTests i _) law.unmoved i _
    · exact law

theorem State.figuresLawful.meteredSample {s : State} (law : s.figuresLawful) (i : Fin 8) (n : Nat) :
    (s.meteredSample i n).figuresLawful := by
  have taken : ∀ u : State, u.figuresLawful →
      ((u.modLane i (Lane.addSample n (s.metering i n) s.now)).laneTests i).figuresLawful :=
    fun u kept => State.figuresLawful.laneTests (s := u.modLane i _) kept.unmoved i
  have used : s.figuresQuiet (s.useLaneReading i) := by
    unfold State.useLaneReading
    split
    · exact State.useReading_figuresQuiet _ s
    · exact s.figuresQuiet_refl
  unfold State.meteredSample
  dsimp only
  split
  · exact taken s law
  · exact (State.debitLane_figuresQuiet i _ _).keeps (taken _ (used.keeps law))

theorem State.figuresLawful.sample {s : State} (law : s.figuresLawful) (i : Fin 8) : (sample i s).figuresLawful := by
  have read : (s.modLane i Lane.readCount).figuresLawful := law.unmoved
  unfold Machine.sample
  dsimp only
  split
  · exact read.meteredSample i _
  · split
    · exact read.unmoved
    · exact read

/-! ## The Shutdown Unit's events (07 R148 to R154) -/

theorem State.figuresLawful.sumpActive {s : State} (law : s.figuresLawful) (n : Fin 4) (active : Bool) :
    (sumpActive n active s).figuresLawful := by
  unfold Machine.sumpActive
  dsimp only
  split
  · exact law
  · split
    · exact State.figuresLawful.raise (s := s.modShutdown _) law.unmoved _ _
    · exact law.unmoved

theorem State.laneStop_figuresQuiet (s : State) : s.figuresQuiet s.laneStop := by
  have stopped : s.figuresQuiet (eachOfEight State.stopLane s) :=
    eachOfEight_figuresQuiet _ (fun _ _ => State.figuresQuiet_of_frame) s
  refine stopped.trans (State.figuresQuiet_of_frame ?_ ?_ ?_ ?_)
  · exact eachOfSix_keeps State.tanks _ (fun h t => by split <;> simp) _
  · exact eachOfSix_keeps State.bus _ (fun h t => by split <;> simp) _
  · exact eachOfSix_keeps State.power _ (fun h t => by split <;> simp) _
  · exact eachOfSix_keeps State.link _ (fun h t => by split <;> simp) _

theorem pressRelease_figuresQuiet (lengthMs : Nat) (s : State) : s.figuresQuiet (pressRelease lengthMs s) := by
  have short : ∀ t : State, t.figuresQuiet (t.shortPress lengthMs) := fun t => by
    unfold State.shortPress
    split
    · exact (t.laneStop_figuresQuiet.trans State.figuresQuiet_of_frame).trans
        (State.notify_figuresQuiet _ (t.laneStop.modShutdown _))
    all_goals exact t.figuresQuiet_refl
  unfold pressRelease
  split
  · exact s.figuresQuiet_refl
  · exact State.figuresQuiet.trans State.figuresQuiet_of_frame (short (s.modShutdown _))
  · exact State.figuresQuiet_of_frame

theorem State.figuresLawful.longPress {s : State} (law : s.figuresLawful) : (longPress s).figuresLawful := by
  unfold Machine.longPress
  split
  · exact State.figuresLawful.raise (s := s.modShutdown _) law.unmoved _ _
  · exact law

theorem State.figuresLawful.valveFailureReport {s : State} (law : s.figuresLawful) (i : Fin 8) :
    (valveFailureReport i s).figuresLawful := by
  unfold Machine.valveFailureReport
  split
  · exact law
  · exact State.figuresLawful.laneReport (s := s.modLane i _) law.unmoved i _

theorem State.figuresLawful.creepReport {s : State} (law : s.figuresLawful) (i : Fin 8) :
    (creepReport i s).figuresLawful := by
  unfold Machine.creepReport
  split
  · exact law
  · exact State.figuresLawful.laneReport (s := s.modLane i _) law.unmoved i _

end Sys2Proof.Machine
end

section
/-! PROOFS. The starts, the requests and the host link under the law of the figures. -/
namespace Sys2Proof.Machine
set_option Elab.async false

/-! ## The arbiter and the starts (09 R192; 10 R203 to R206) -/

/-- The arbiter may take the head of the notice queue. -/
theorem State.kick_figuresQuiet (s : State) : s.figuresQuiet s.kick := by
  unfold State.kick State.sendOn
  split
  · split
    · exact State.modLink_figuresQuiet _ s id
    · split
      · exact State.figuresQuiet.trans State.figuresQuiet_of_frame
          (State.modLink_figuresQuiet _ (s.setBurst _) id)
      · split
        · exact s.figuresQuiet_refl
        · rename_i n rest queue
          refine State.figuresQuiet.trans (State.modLink_figuresQuiet _ s fun bounded => ⟨bounded.1, ?_⟩)
            (State.modLink_figuresQuiet _ _ id)
          have := bounded.2
          rw [queue, List.length_cons] at this
          exact Nat.le_of_succ_le this
  · exact s.figuresQuiet_refl

/-- A tank at rest after a start keeps its figures (10 R205). -/
theorem State.restUnits_sincePollHolds {s : State} (holds : ∀ k, (s.tank k).sincePollHolds) (k : Fin 8) :
    (s.restUnits.tank k).sincePollHolds := by
  unfold State.restUnits
  extract_lets a w
  have units : a.figuresQuiet w := eachOfEight_figuresQuiet _ (fun i t =>
    (State.figuresQuiet_of_frame (t := t.modLane i Lane.afterStart)).trans
      (State.modTank_figuresQuiet i (Tank.afterStart s.now) (fun _ holds => holds.of_same) _)) a
  have kept : (w.tank k).sincePollHolds := units.tanks k (holds k)
  clear_value w
  exact kept

/-- At rest after a start the first round is due and the link is empty. -/
theorem State.figuresSound.rest {s : State} (sound : s.figuresSound) (kind : StartKind) (baudHigh : Bool) :
    (s.rest kind baudHigh).figuresSound where
  link := ⟨Nat.zero_le _, Nat.zero_le _⟩
  pending _ waits := by cases waits
  tanks k := by
    rw [State.tank_congr k s.restUnits (s.rest kind baudHigh) (by simp [State.rest])]
    exact State.restUnits_sincePollHolds sound.tanks k

theorem recoverLane_figuresQuiet (nozzleOut : Mask) (i : Fin 8) (s : State) :
    s.figuresQuiet (recoverLane nozzleOut i s) := by
  have committed : s.figuresQuiet (s.powerCommit i (nozzleOut.getLsbD i.val)) := by
    have caused : s.figuresQuiet
        (s.modLane i fun l => { l with delivery := { l.delivery with endCause := some .power } }) :=
      State.figuresQuiet_of_frame
    unfold State.powerCommit
    exact (caused.trans (State.commitDelivery_figuresQuiet i false _)).trans State.figuresQuiet_of_frame
  unfold recoverLane
  split
  case h_1 | h_2 => exact s.figuresQuiet_refl
  case h_3 => exact State.figuresQuiet_of_frame
  all_goals exact committed

theorem State.recover_figuresQuiet (pins : StartPins) (s : State) : s.figuresQuiet (s.recover pins) := by
  have lanes : ∀ t : State, t.figuresQuiet (t.recoverLanes pins.nozzleOut) :=
    eachOfEight_figuresQuiet _ fun i t => recoverLane_figuresQuiet pins.nozzleOut i t
  have late : ∀ t : State, t.figuresQuiet t.lateClose := fun t => by
    unfold State.lateClose
    split
    · split
      · exact State.closePeriod_figuresQuiet _ _ t
      · exact t.figuresQuiet_refl
    · exact t.figuresQuiet_refl
  unfold State.recover
  split
  · exact (late s).trans (lanes _)
  · exact (lanes s).trans (late _)

theorem State.afterColdStart_figuresLawful (baudHigh : Bool) : (State.afterColdStart baudHigh).figuresLawful := by
  have sound : (State.afterColdStart baudHigh).figuresSound :=
    ⟨⟨Nat.zero_le _, Nat.zero_le _⟩, fun _ waits => (by cases waits), fun t h held => by
      simp [State.tank, State.afterColdStart] at held⟩
  exact (State.figuresLawful_iff _).2 ⟨sound, fun _ _ => ⟨rfl, rfl⟩⟩

/-- Every start serves the bus, or leaves it empty. -/
theorem State.figuresLawful.start {s : State} (law : s.figuresLawful) (pins : StartPins) :
    (s.start pins).figuresLawful := by
  unfold State.start
  split
  · unfold State.warmStart
    exact (State.kick_figuresQuiet _).keeps
      ((State.recover_figuresQuiet pins _).sound (law.sound.rest _ pins.baudHigh)).serveBus
  · exact (State.afterColdStart_figuresLawful pins.baudHigh).unmoved rfl rfl rfl rfl

/-- A part without its supply has no bus to serve (10 R200). -/
theorem State.figuresLawful.goDark {s : State} (law : s.figuresLawful) {power : Power} (dark : power ≠ .running) :
    (s.goDark power).figuresLawful :=
  (State.figuresLawful_iff _).2
    ⟨⟨law.sound.link, fun running => absurd running dark, law.sound.tanks⟩, fun running => absurd running dark⟩

/-! ## Requests -/

theorem State.figuresLawful.tankSet {s : State} (law : s.figuresLawful) (f : TankFields) :
    (tankSet f s).2.figuresLawful := by
  unfold Machine.tankSet
  split
  · rename_i t r _ _
    have recorded : (s.modTank t fun k => { k with record := r }).figuresLawful :=
      (State.modTank_figuresQuiet t _ (fun _ holds => holds.of_same) s).keeps law
    split
    · exact law
    · split
      · exact law
      · dsimp only
        split
        · exact (State.evaluateBand_figuresQuiet t _).keeps recorded
        · exact recorded.reconfigure t
  · exact law

theorem tablePoint_figuresQuiet (f : TablePointFields) (s : State) : s.figuresQuiet (tablePoint f s).2 := by
  unfold tablePoint
  split
  · exact s.figuresQuiet_refl
  · split
    · dsimp only
      exact State.modTank_figuresQuiet _ _ (fun _ holds => holds.of_same) s
    · exact s.figuresQuiet_refl

theorem State.figuresLawful.tableCommit {s : State} (law : s.figuresLawful) (f : CommitFields) :
    (tableCommit f s).2.figuresLawful := by
  unfold Machine.tableCommit
  split
  · exact law
  · split
    · exact law
    · split
      · exact law
      · split
        · exact law
        · exact ((State.modTank_figuresQuiet _ _ (fun _ holds => holds.of_same) s).keeps law).reconfigure _

theorem State.figuresLawful.retimeRound {s : State} (law : s.figuresLawful) (old new : Nat) (phase : Bool) :
    (s.retimeRound old new phase).figuresLawful := by
  unfold State.retimeRound
  split
  · exact law.roundFallsDue
  · exact law

theorem State.figuresLawful.baySet {s : State} (law : s.figuresLawful) (f : BayFields) :
    (baySet f s).2.figuresLawful := by
  unfold Machine.baySet
  split
  · exact law
  · rename_i v _
    have tested : ((s.setSettings v).modSlot
        (StartSlot.retest s.settings.stagger v.stagger s.elapsed (s.phase 0))).testSlot.findBoundary.figuresLawful :=
      law.unmoved
    have retimed := tested.retimeRound s.settings.roundPeriod v.roundPeriod (s.phase 1)
    exact retimed.unmoved

theorem acceptAuthorise_figuresQuiet (f : AuthoriseFields) (o : AuthoriseOperands) (p : Fin 6) (t : Fin 8) (s : State) :
    s.figuresQuiet (acceptAuthorise f o p t s).2 :=
  (State.hourProcessing_figuresQuiet o.machine o.lane f.hourReading s).trans (State.figuresQuiet_of_frame rfl rfl rfl rfl)

theorem authorise_figuresQuiet (f : AuthoriseFields) (s : State) : s.figuresQuiet (authorise f s).2 := by
  unfold authorise checkAuthorise
  split
  · exact s.figuresQuiet_refl
  · split
    · exact s.figuresQuiet_refl
    · split
      · exact s.figuresQuiet_refl
      · split
        · exact s.figuresQuiet_refl
        · split
          · exact s.figuresQuiet_refl
          · split
            · exact s.figuresQuiet_refl
            · split
              · exact s.figuresQuiet_refl
              · split
                · exact s.figuresQuiet_refl
                · split
                  · exact State.useReading_figuresQuiet _ s
                  · exact acceptAuthorise_figuresQuiet f _ _ _ s

theorem State.figuresLawful.gaugeNow {s : State} (law : s.figuresLawful) (tank : Nat) :
    (gaugeNow tank s).2.figuresLawful := by
  unfold Machine.gaugeNow
  split
  · exact law
  · split
    · exact law.sound.askPoll _
    · exact law

theorem receiptOpen_figuresQuiet (f : ReceiptOpenFields) (s : State) : s.figuresQuiet (receiptOpen f s).2 := by
  unfold receiptOpen openReceipt
  dsimp only
  split
  · exact s.figuresQuiet_refl
  · split
    · split
      · exact s.figuresQuiet_refl
      · split
        · exact s.figuresQuiet_refl
        · split
          · exact s.figuresQuiet_refl
          · split
            · exact State.useReading_figuresQuiet _ s
            · exact s.figuresQuiet_refl
            · exact s.figuresQuiet_refl
            · dsimp only
              exact State.modTank_figuresQuiet _ _ (fun _ holds => holds.of_same) s
    · exact s.figuresQuiet_refl

theorem State.figuresLawful.receiptClose {s : State} (law : s.figuresLawful) (tank : Nat) :
    (receiptClose tank s).2.figuresLawful := by
  unfold Machine.receiptClose
  split
  · exact law
  · split
    · exact law.closeReceipt _ _
    · exact law

theorem bookSet_figuresQuiet (f : BookFields) (s : State) : s.figuresQuiet (bookSet f s).2 := by
  unfold bookSet
  split
  · exact s.figuresQuiet_refl
  · split
    · exact s.figuresQuiet_refl
    · dsimp only
      exact State.modTank_figuresQuiet _ _ (fun _ holds => holds.of_same) s

theorem status_figuresQuiet (part : Nat) (s : State) : s.figuresQuiet (status part s).2 := by
  unfold status
  split
  · exact s.figuresQuiet_refl
  · have cleared := State.modLink_figuresQuiet
      (fun k => { k with retentionLost := false, overflow := false, displaced := false }) s id
    exact cleared.trans State.figuresQuiet_of_frame

/-- Every request's owner keeps the law of the figures. -/
theorem State.figuresLawful.serveRequest {s : State} (law : s.figuresLawful) (r : Request) :
    (serveRequest r s).2.figuresLawful := by
  cases r with
  | tankSet f => exact law.tankSet f
  | tablePoint f => exact (tablePoint_figuresQuiet f s).keeps law
  | tableCommit f => exact law.tableCommit f
  | baySet f => exact law.baySet f
  | authorise f => exact (authorise_figuresQuiet f s).keeps law
  | gaugeNow n => exact law.gaugeNow n
  | receiptOpen f => exact (receiptOpen_figuresQuiet f s).keeps law
  | receiptClose n => exact law.receiptClose n
  | bookSet f => exact (bookSet_figuresQuiet f s).keeps law
  | journalStop => exact law
  | bayShutdown => exact law.raise .command 0
  | status n => exact (status_figuresQuiet n s).keeps law
  | reportNow => exact (State.closePeriod_figuresQuiet .request none s).keeps law
  | _ =>
    simp only [Machine.serveRequest, productSet, laneSet, curvePoint, curveCommit, timeSet, cancel, laneQuery, tankQuery,
      machineRead, machineWrite, patternLoad, groupApply, journalRead, journalAck, bayArm, bayDisarm, bayClear,
      pumpReset, reportRead]
    repeat' split
    all_goals exact law.unmoved

/-! ## The host link (09 R187 to R192) -/

theorem State.putReply_figuresQuiet (kind tag : Byte) (a : Answer) (s : State) :
    s.figuresQuiet (s.putReply kind tag a) := State.modLink_figuresQuiet _ s id

/-- A frame joins a hold that has room (09 R188). -/
theorem State.holdFrame_figuresQuiet (f : HeldFrame) (s : State) : s.figuresQuiet (s.holdFrame f) := by
  unfold State.holdFrame
  split
  · rename_i room
    have joined := State.modLink_figuresQuiet (fun k => { k with hold := k.hold ++ [f] }) s fun bounded =>
      ⟨by simpa using room, bounded.2⟩
    exact joined.trans State.figuresQuiet_of_frame
  · exact s.figuresQuiet_refl

theorem State.figuresLawful.takeHeld {s : State} (law : s.figuresLawful) : s.takeHeld.figuresLawful := by
  unfold State.takeHeld
  split
  · rename_i f rest _ _ held
    have taken : (s.modLink fun k => { k with hold := rest }).figuresLawful :=
      (State.modLink_figuresQuiet _ s fun bounded => ⟨by
        have := bounded.1
        rw [held, List.length_cons] at this
        exact Nat.le_of_succ_le this, bounded.2⟩).keeps law
    refine (State.putReply_figuresQuiet _ _ _ _).keeps ?_
    unfold serveFrame
    split
    · exact taken.serveRequest _
    · exact taken
    · exact taken
  · exact law

theorem State.figuresLawful.frameCompletes {s : State} (law : s.figuresLawful) (bytes : List Byte) :
    (s.frameCompletes bytes).figuresLawful := by
  have hunting : (s.modLink fun k => { k with assembler := .hunt }).figuresLawful :=
    (State.modLink_figuresQuiet _ s id).keeps law
  unfold State.frameCompletes State.offerFrame
  dsimp only
  split
  · split
    · exact ((State.holdFrame_figuresQuiet _ _).keeps hunting).takeHeld
    · exact hunting
  · exact hunting

theorem State.figuresLawful.hostByteReceived {s : State} (law : s.figuresLawful) (b : Byte) :
    (hostByteReceived b s).figuresLawful := by
  have assembling : ∀ a, (s.modLink fun k => { k with assembler := a }).figuresLawful := fun a =>
    (State.modLink_figuresQuiet _ s id).keeps law
  unfold Machine.hostByteReceived
  split
  · split
    · exact assembling _
    · exact law
  · dsimp only
    split
    · exact assembling _
    · split
      · exact law.frameCompletes _
      · exact assembling _

theorem State.messageSent_figuresQuiet (m : TxMessage) (s : State) : s.figuresQuiet (s.messageSent m) := by
  cases m with
  | reply r =>
    exact (State.modLink_figuresQuiet (fun k => { k with reply := none }) s id).trans
      (State.figuresQuiet_of_frame (t := State.beginBurst _))
  | record r => exact State.figuresQuiet_of_frame (t := s.recordSent r)
  | journalEnd e => exact State.figuresQuiet_of_frame (t := s.setBurst none)
  | notice n => exact s.figuresQuiet_refl

theorem State.figuresLawful.frameSent {s : State} (law : s.figuresLawful) : (frameSent s).figuresLawful := by
  unfold Machine.frameSent
  split
  · exact State.figuresLawful.takeHeld
      (((State.modLink_figuresQuiet _ s id).trans (State.messageSent_figuresQuiet _ _)).keeps law)
  · exact law

end Sys2Proof.Machine
end

section
/-! PROOFS. Every command and every step keeps the law of the figures (O60). -/
namespace Sys2Proof.Machine
set_option Elab.async false

/-- The answer of a command keeps the law of the figures. -/
def keepsFiguresLaw (o : Host.Outcome State Fault Refusal) : Prop := ∀ t, o = .next t → t.figuresLawful

theorem keepsFiguresLaw_next {t : State} (law : t.figuresLawful) : keepsFiguresLaw (.next t) := fun _ e => by
  cases e; exact law

theorem event_keepsFiguresLaw (f : State → State) {s : State} (law : s.figuresLawful) (kept : (f s).figuresLawful) :
    keepsFiguresLaw (event f s) := by
  refine keepsFiguresLaw_next ?_
  split
  · exact (State.kick_figuresQuiet _).keeps kept
  · exact law

theorem request_keepsFiguresLaw (f : HeldFrame) (owner : State → Answer × State) {s : State} (law : s.figuresLawful)
    (kept : (owner s).2.figuresLawful) : keepsFiguresLaw (event (State.request f owner) s) := by
  refine event_keepsFiguresLaw _ law ?_
  unfold State.request
  split
  · exact (State.holdFrame_figuresQuiet f s).keeps law
  · exact (State.putReply_figuresQuiet _ _ _ _).keeps kept

/-- Every row that is no request keeps the law of the figures. -/
theorem exec_keepsFiguresLaw_of_event (c : Instr) (noRequest : asRequest c = none) {s : State}
    (law : s.figuresLawful) : keepsFiguresLaw (exec c s) := by
  have moved : ∀ (f : State → State), (f s).figuresLawful → keepsFiguresLaw (event f s) := fun f kept =>
    event_keepsFiguresLaw f law kept
  have quiet : ∀ (f : State → State), s.figuresQuiet (f s) → keepsFiguresLaw (event f s) := fun f q =>
    moved f (q.keeps law)
  cases c
  case unknownKind | malformed => exact request_keepsFiguresLaw _ _ law law
  case frameReceived bytes => exact moved _ (law.frameCompletes bytes)
  case frameGap => exact quiet _ (State.modLink_figuresQuiet _ s id)
  case frameSent => exact moved _ law.frameSent
  case hostByteReceived byte => exact moved _ (law.hostByteReceived byte)
  case sample i => exact moved _ (law.sample i)
  case authorisationExpiry i => exact quiet _ (authorisationExpiry_figuresQuiet i s)
  case closeLimitExpiry i => exact quiet _ (closeLimitExpiry_figuresQuiet i s)
  case grantTaken i => exact quiet _ (grantTaken_figuresQuiet i s)
  case proveChange h active => exact quiet _ (proveChange_figuresQuiet h active s)
  case provingTimerExpiry h => exact quiet _ (provingTimerExpiry_figuresQuiet h s)
  case roundDue => exact moved _ law.roundFallsDue
  case gaugePollSent => exact moved _ (law.mapPoll fun p => { p with sent := true })
  case gaugeReply bytes => exact moved _ (law.gaugeReply bytes)
  case replyTimerExpiry => exact moved _ law.replyTimerExpiry
  case sumpActive sump active => exact moved _ (law.sumpActive sump active)
  case pressRelease lengthMs => exact quiet _ (pressRelease_figuresQuiet lengthMs s)
  case longPress => exact moved _ law.longPress
  case valveFailureReport i => exact moved _ (law.valveFailureReport i)
  case creepReport i => exact moved _ (law.creepReport i)
  case boundary => exact quiet _ (boundary_figuresQuiet s)
  case pulse | nozzleLift | nozzleHangup | maxOpenExpiry | creepWindowExpiry | pumpEnding | tankLowEnding | runonExpiry
    | staggerElapsed | pressBegin | closingReport | keyTurn | keySeenHigh =>
    exact quiet _ State.figuresQuiet_of_frame
  case powerLoss =>
    refine keepsFiguresLaw_next ?_
    split
    · exact law
    · exact law.goDark (by decide)
  case resetAssert =>
    refine keepsFiguresLaw_next ?_
    split
    · exact law.goDark (by decide)
    · exact law
  case vbatLoss =>
    refine keepsFiguresLaw_next ?_
    split
    · exact law.unmoved
    · exact law
  case coldStart pins => exact keepsFiguresLaw_next (law.start pins)
  case warmStart pins => exact keepsFiguresLaw_next (law.start pins)
  case clockSecond =>
    refine keepsFiguresLaw_next ?_
    split
    · exact law.unmoved
    · split
      · exact law.unmoved
      · exact law
  all_goals cases noRequest

/-- Every command keeps the law of the figures. -/
theorem exec_keepsFiguresLaw (c : Instr) {s : State} (law : s.figuresLawful) : keepsFiguresLaw (exec c s) := by
  cases row : asRequest c with
  | none => exact exec_keepsFiguresLaw_of_event c row law
  | some named =>
    rw [exec_of_asRequest row]
    exact request_keepsFiguresLaw _ _ law (law.serveRequest named.2)

/-- A step keeps the law of the figures. -/
theorem step_keepsFiguresLaw {s : State} (law : s.figuresLawful) : keepsFiguresLaw (step s) := by
  unfold step
  split
  · exact keepsFiguresLaw_next law
  · exact exec_keepsFiguresLaw _ law.unmoved

end Sys2Proof.Machine

namespace Sys2Proof
open Sys2Proof.Machine
set_option Elab.async false

/-- Settles O60: the hold and the notice queue take in no more than they have room for, a bus left idle has been served,
and a tank's counts move together or with its reading. -/
theorem figuresLawIsKept : Obligations.FiguresLawIsKept := fun _ t law next => step_keepsFiguresLaw law t next

end Sys2Proof
end

section
/-! PROOFS. BAY-SET: the settings read, the slot retested, the boundary found afresh and the round retimed (O13; 09 R197;
03 R64; 04 R83). -/
namespace Sys2Proof.Machine
set_option Elab.async false

/-! ## The settings read (09 R197) -/

/-- The boundaries as a request names them. -/
theorem boundaryPair_of_boundaries {b : Option (Nat × Nat)} (ordered : ∀ b1 b2, b = some (b1, b2) → b1 < b2 ∧ b2 ≤ 1439) :
    boundaryPair ((b.map Prod.fst).getD 65535) ((b.map Prod.snd).getD 65535) = some b := by
  unfold boundaryPair
  rcases b with _ | ⟨b1, b2⟩
  · rfl
  · obtain ⟨less, high⟩ := ordered b1 b2 rfl
    simp only [Option.map_some, Option.getD_some]
    rw [if_neg (by omega), if_pos ⟨by omega, high, less⟩]

theorem boundaryPair_eq_none {b1 b2 : Nat} (two : b1 ≠ 65535 ∨ b2 ≠ 65535) (bad : ¬ (b1 < b2 ∧ b2 ≤ 1439)) :
    boundaryPair b1 b2 = none := by
  unfold boundaryPair
  rw [if_neg (by omega), if_neg (by omega)]

theorem readSettings_of_ranges {f : BayFields} {b : Option (Nat × Nat)} (pair : boundaryPair f.boundary1 f.boundary2 = some b)
    (ranges : f.stagger ≤ 30 ∧ 10 ≤ f.authTimeout ∧ f.authTimeout ≤ 600 ∧ 10 ≤ f.burnBand ∧ f.burnBand ≤ 200
      ∧ f.maskLevel ≤ 6 ∧ 5 ≤ f.roundPeriod ∧ f.roundPeriod ≤ 60) :
    readSettings f = some
      { stagger := f.stagger, authTimeout := f.authTimeout, burnBand := f.burnBand, boundaries := b
        maskLevel := f.maskLevel, roundPeriod := f.roundPeriod } := by
  unfold readSettings
  rw [pair]
  exact if_pos ranges

/-- A field out of its range, or boundaries that are no pair, name no settings. -/
theorem readSettings_eq_none {f : BayFields}
    (bad : ((f.boundary1 ≠ 65535 ∨ f.boundary2 ≠ 65535) ∧ ¬ (f.boundary1 < f.boundary2 ∧ f.boundary2 ≤ 1439))
      ∨ 30 < f.stagger ∨ f.authTimeout < 10 ∨ 600 < f.authTimeout ∨ f.burnBand < 10 ∨ 200 < f.burnBand
      ∨ 6 < f.maskLevel ∨ f.roundPeriod < 5 ∨ 60 < f.roundPeriod) : readSettings f = none := by
  unfold readSettings
  rcases bad with ⟨two, unordered⟩ | outside
  · rw [boundaryPair_eq_none two unordered]
  · cases boundaryPair f.boundary1 f.boundary2 with
    | none => rfl
    | some b => exact if_neg (by omega)

/-! ## Times to the second (log 4) -/

theorem hasElapsed_of_lt {counted wanted : Nat} (past : wanted < counted) (phase : Bool) :
    hasElapsed counted wanted phase = true := by
  simp [hasElapsed, past]

theorem hasElapsed_zero (counted : Nat) (phase : Bool) : hasElapsed counted 0 phase = true := rfl

theorem hasElapsed_of_gt {counted wanted : Nat} (early : counted < wanted) (phase : Bool) :
    hasElapsed counted wanted phase = false := by
  have : wanted ≠ 0 ∧ ¬ wanted < counted ∧ counted ≠ wanted := by omega
  simp [hasElapsed, this]

section
variable {k : StartSlot} {old new elapsed : Nat} {phase : Bool}

/-- A free slot stays free under a stagger that is no longer, and an occupied one under one that is no shorter. -/
theorem StartSlot.retest_of_free (free : k.free = true) (shorter : new ≤ old) :
    (k.retest old new elapsed phase).free = true := if_pos ⟨free, shorter⟩

theorem StartSlot.retest_of_occupied (occupied : k.free = false) (longer : old ≤ new) :
    (k.retest old new elapsed phase).free = false :=
  (if_neg fun c => by rw [occupied] at c; cases c.1).trans (if_pos ⟨occupied, longer⟩)

/-- Otherwise the time since the last start decides. -/
theorem StartSlot.retest_of_longer (free : k.free = true) (longer : old < new) :
    (k.retest old new elapsed phase).free = hasElapsed (elapsed - k.lastStart) new phase :=
  (if_neg fun c => by omega).trans (if_neg fun c => by rw [free] at c; cases c.1)

theorem StartSlot.retest_of_shorter (occupied : k.free = false) (shorter : new < old) :
    (k.retest old new elapsed phase).free = hasElapsed (elapsed - k.lastStart) new phase :=
  (if_neg fun c => by rw [occupied] at c; cases c.1).trans (if_neg fun c => by omega)

end

/-! ## The start slot is tested under the new settings (03 R64 to R66) -/

/-- The heads that start do not depend on the period, nor on whether the slot was free before it was tested. -/
theorem State.headsStarted.with_period {s u : State} {free : Bool} (started : s.headsStarted u free) (p : Period)
    (was : Bool) :
    ({ s with period := p, slot := { s.slot with free := was } } : State).headsStarted { u with period := p } free := by
  obtain ⟨headers, slot, lanes, rest⟩ := started
  refine ⟨headers, slot, lanes, ?_⟩
  rw [rest]

theorem State.testSlot_rest (s : State) :
    s.testSlot = { s with headers := s.testSlot.headers, slot := s.testSlot.slot, lanes := s.testSlot.lanes } := by
  apply State.ext_fields <;> simp

/-- The part with new settings, its slot retested and its next boundary found afresh. -/
def State.resettled (v : Settings) (s : State) : State :=
  ((s.setSettings v).modSlot
    (StartSlot.retest s.settings.stagger v.stagger s.elapsed (s.phase 0))).testSlot.findBoundary

/-- The settings and the next boundary as BAY-SET leaves them. -/
def State.withSettings (v : Settings) (s : State) : State :=
  { s with settings := v
           period := { s.period with
             next := if s.period.clockSet then v.boundaries.map fun b => boundaryAfter s.period.clock b.1 b.2 else none } }

/-- The slot as it stands once the stagger is new. -/
def State.slotRetested (v : Settings) (s : State) : Bool :=
  (s.slot.retest s.settings.stagger v.stagger s.elapsed (s.phase 0)).free

/-- A round falls due at once under the new round period. -/
def State.roundRetimed (v : Settings) (s : State) : Bool :=
  decide (v.roundPeriod ≠ s.settings.roundPeriod
    ∧ hasElapsed (s.elapsed - s.bus.lastDue) v.roundPeriod (s.phase 1) = true)

theorem State.findBoundary_eq (s : State) :
    s.findBoundary = { s with period := { s.period with
      next := if s.period.clockSet then s.settings.boundaries.map fun b => boundaryAfter s.period.clock b.1 b.2
        else none } } := rfl

theorem State.resettled_eq (v : Settings) (s : State) :
    s.resettled v =
      { ((s.setSettings v).modSlot
          (StartSlot.retest s.settings.stagger v.stagger s.elapsed (s.phase 0))).testSlot with
        period := (s.withSettings v).period } := by
  unfold State.resettled
  rw [State.findBoundary_eq]
  simp [State.withSettings]

theorem State.resettled_starts (v : Settings) {s : State} (once : s.slot.queue.Nodup) :
    (s.withSettings v).headsStarted (s.resettled v) (s.slotRetested v) := by
  rw [State.resettled_eq]
  exact (State.testSlot_headsStarted ((s.setSettings v).modSlot
    (StartSlot.retest s.settings.stagger v.stagger s.elapsed (s.phase 0))) once).with_period _ s.slot.free

theorem State.resettled_rest (v : Settings) (s : State) :
    s.resettled v =
      { s.withSettings v with
        headers := (s.resettled v).headers, slot := (s.resettled v).slot, lanes := (s.resettled v).lanes } := by
  rw [State.resettled_eq, State.testSlot_rest]
  rfl

/-- What BAY-SET makes of the part with settings in range. -/
theorem baySet_accepted {f : BayFields} {v : Settings} (read : readSettings f = some v) (s : State) :
    baySet f s = (⟨.accepted, .settings v⟩,
      { (if s.roundRetimed v = true then (s.resettled v).roundMadeDue else s.resettled v) with
        freeCount := s.freeCount + 2 }) := by
  have retimed : (s.resettled v).retimeRound s.settings.roundPeriod v.roundPeriod (s.phase 1) =
      if s.roundRetimed v = true then (s.resettled v).roundMadeDue else s.resettled v := by
    have bus : (s.resettled v).bus = s.bus := by rw [State.resettled_rest]; rfl
    have elapsed : (s.resettled v).elapsed = s.elapsed := by rw [State.resettled_rest]; rfl
    unfold State.retimeRound State.roundRetimed
    simp only [State.roundFallsDue_roundMadeDue, bus, elapsed, decide_eq_true_eq]
  have counted : ((s.resettled v).retimeRound s.settings.roundPeriod v.roundPeriod (s.phase 1)).freeCount =
      s.freeCount := by
    simp [State.resettled]
  unfold baySet
  rw [read]
  show (accept (.settings v), ((s.resettled v).retimeRound _ _ _).usePhases 2) = _
  unfold State.usePhases
  rw [counted, retimed]
  rfl

end Sys2Proof.Machine

namespace Sys2Proof
open Sys2Proof.Machine
set_option Elab.async false

/-- Settles O13: the settings in range are taken, the slot tested under the new stagger, the boundary found and the round
retimed; anything out of range is refused. -/
theorem baySetReplacesSettings : Obligations.BaySetReplacesSettings := by
  refine ⟨fun tag f s b ready first second ordered stagger auth0 auth1 burn0 burn1 mask round0 round1 => ?_,
    fun tag f s ready bad => ?_⟩
  · have read : readSettings f = _ := readSettings_of_ranges
      (by rw [first, second]; exact boundaryPair_of_boundaries ordered)
      ⟨stagger, auth0, auth1, burn0, burn1, mask, round0, round1⟩
    intro v next set sinceStart sinceDue
    refine ⟨s.slotRetested v, s.roundRetimed v, s.resettled v, ?_, State.resettled_starts v, State.resettled_rest v s,
      StartSlot.retest_of_free, StartSlot.retest_of_occupied, fun free longer => ?_, fun occupied shorter => ?_,
      fun same => ?_, fun changed past => ?_, fun early => ?_⟩
    · have answered := exec_request_of_ready (c := .baySet tag f) rfl ready
      rw [show serveRequest (.baySet f) s = _ from baySet_accepted read s] at answered
      exact answered
    · unfold State.slotRetested
      rw [StartSlot.retest_of_longer free longer]
      exact ⟨fun past => hasElapsed_of_lt past _, fun early => hasElapsed_of_gt early _⟩
    · unfold State.slotRetested
      rw [StartSlot.retest_of_shorter occupied shorter]
      refine ⟨fun past => ?_, fun early => hasElapsed_of_gt early _⟩
      rcases past with zero | past
      · rw [show f.stagger = 0 from zero]
        exact hasElapsed_zero _ _
      · exact hasElapsed_of_lt past _
    · exact decide_eq_false fun retimed => retimed.1 same
    · exact decide_eq_true ⟨changed, hasElapsed_of_lt past _⟩
    · refine decide_eq_false fun retimed => ?_
      rw [hasElapsed_of_gt early] at retimed
      cases retimed.2
  · refine event_request_exact ready _ _ _ _ ready.1 ?_
    unfold baySet
    rw [readSettings_eq_none bad]
    rfl

end Sys2Proof
end

section
/-! PROOFS. A request is read from the bytes that carry it (09 R185, R189, R191, R196). -/
namespace Sys2Proof.Machine
set_option Elab.async false

/-! ## A field sent and read again (09 R191) -/

theorem mod_of_fitsBytes {w n : Nat} (fits : fitsBytes w n = true) : n % 256 ^ w = n := by
  refine Nat.mod_eq_of_lt ?_
  rw [show 256 = 2 ^ 8 from rfl, ← pow_mul]
  simpa [fitsBytes] using fits

theorem numAt_putNum_of_fits {w n : Nat} (fits : fitsBytes w n = true) (rest : List Byte) :
    numAt (putNum w n ++ rest) 0 w = n :=
  (numAt_putNum w n rest).trans (mod_of_fitsBytes fits)

theorem numAt_putNum_last_of_fits {w n : Nat} (fits : fitsBytes w n = true) : numAt (putNum w n) 0 w = n :=
  (numAt_putNum_last w n).trans (mod_of_fitsBytes fits)

/-- A signed field behind another one. -/
theorem intAt_putNum_skip {v at' : Nat} (behind : v ≤ at') (n w : Nat) (rest : List Byte) :
    intAt (putNum v n ++ rest) at' w = intAt rest (at' - v) w := by
  unfold intAt
  rw [numAt_putNum_skip behind]

theorem numAt_putInt_skip {v at' : Nat} (behind : v ≤ at') (n : Int) (w : Nat) (rest : List Byte) :
    numAt (putInt v n ++ rest) at' w = numAt rest (at' - v) w := numAt_putNum_skip behind _ w rest

theorem fitsSigned_iff (w : Nat) (v : Int) :
    fitsSigned w v = true ↔ -(2 ^ (8 * w - 1) : Int) ≤ v ∧ v < (2 ^ (8 * w - 1) : Int) := by
  simp [fitsSigned]

theorem intAt_putInt_of_fits {w : Nat} {v : Int} (wide : 0 < w) (fits : fitsSigned w v = true) (rest : List Byte) :
    intAt (putInt w v ++ rest) 0 w = v := by
  obtain ⟨low, high⟩ := (fitsSigned_iff w v).1 fits
  have whole : (256 : Int) ^ w = 2 * 2 ^ (8 * w - 1) := by
    rw [← pow_succ', Nat.sub_add_cancel (by omega), pow_mul]
    rfl
  have half : (0 : Int) < 2 ^ (8 * w - 1) := by positivity
  have field : (numAt (putInt w v ++ rest) 0 w : Int) = v % 256 ^ w := by
    unfold putInt
    rw [numAt_putNum]
    push_cast
    rw [Int.toNat_of_nonneg (Int.emod_nonneg _ (by omega)), Int.emod_emod_of_dvd _ (dvd_refl _)]
  have below : numAt (putInt w v ++ rest) 0 w < 2 ^ (8 * w - 1) ↔ v % 256 ^ w < 2 ^ (8 * w - 1) := by
    rw [← field]
    exact_mod_cast Iff.rfl
  unfold intAt
  rw [field]
  by_cases sign : 0 ≤ v
  · have same : v % 256 ^ w = v := Int.emod_eq_of_lt sign (by omega)
    rw [if_pos (below.2 (by omega)), same]
  · have wraps : v % 256 ^ w = v + 256 ^ w := by
      rw [← Int.add_emod_right, Int.emod_eq_of_lt (by omega) (by omega)]
    rw [if_neg fun c => by have := below.1 c; omega, wraps]
    omega

theorem intAt_putInt_last_of_fits {w : Nat} {v : Int} (wide : 0 < w) (fits : fitsSigned w v = true) :
    intAt (putInt w v) 0 w = v := by
  simpa using intAt_putInt_of_fits wide fits []

theorem putInt_length (w : Nat) (v : Int) : (putInt w v).length = w := putNum_length w _

/-- An optional field is its presence byte and a field of its full width. -/
theorem putOption_eq (w : Nat) (o : Option Nat) :
    putOption w o = putNum 1 o.isSome.toNat ++ putNum w (o.getD 0) := by
  cases o <;> simp [putOption, putNum]

theorem putOption_length (w : Nat) (o : Option Nat) : (putOption w o).length = w + 1 := by
  rw [putOption_eq, List.length_append, putNum_length, putNum_length, Nat.add_comm]

theorem numAt_putOption_skip {w at' : Nat} (behind : w + 1 ≤ at') (o : Option Nat) (v : Nat) (rest : List Byte) :
    numAt (putOption w o ++ rest) at' v = numAt rest (at' - (w + 1)) v := by
  rw [putOption_eq, List.append_assoc, numAt_putNum_skip (by omega), numAt_putNum_skip (by omega), Nat.sub_sub,
    Nat.add_comm 1]

theorem optionAt_putNum_skip {v at' : Nat} (behind : v ≤ at') (n w : Nat) (rest : List Byte) :
    optionAt (putNum v n ++ rest) at' w = optionAt rest (at' - v) w := by
  unfold optionAt
  rw [numAt_putNum_skip behind, numAt_putNum_skip (by omega), Nat.sub_add_comm behind]

/-- The presence byte of an optional field. -/
theorem numAt_putOption (w : Nat) (o : Option Nat) (rest : List Byte) :
    numAt (putOption w o ++ rest) 0 1 = o.isSome.toNat := by
  have fits : fitsBytes 1 o.isSome.toNat = true := by cases o <;> rfl
  rw [putOption_eq, List.append_assoc, numAt_putNum_of_fits fits]

theorem numAt_putOption_last (w : Nat) (o : Option Nat) : numAt (putOption w o) 0 1 = o.isSome.toNat := by
  simpa using numAt_putOption w o []

theorem optionAt_putOption_of_fits {w : Nat} {o : Option Nat} (fits : fitsOption w o = true) (rest : List Byte) :
    optionAt (putOption w o ++ rest) 0 w = o := by
  have present := numAt_putOption w o rest
  unfold optionAt
  rw [present]
  cases o with
  | none => rfl
  | some n =>
    have field : numAt (putOption w (some n) ++ rest) 1 w = n := by
      rw [putOption_eq, List.append_assoc, numAt_putNum_skip le_rfl]
      exact numAt_putNum_of_fits fits rest
    simp [field]

theorem optionAt_putOption_last_of_fits {w : Nat} {o : Option Nat} (fits : fitsOption w o = true) :
    optionAt (putOption w o) 0 w = o := by
  simpa using optionAt_putOption_of_fits fits []

/-- A body of the length and with the presence bytes its KIND requires carries its request. -/
theorem bodyOf_good {b : List Byte} {length : Nat} {presence : List Nat} {r : Request} (whole : b.length = length)
    (marks : ∀ p ∈ presence, numAt b p 1 ≤ 1) : bodyOf b length presence r = .request r :=
  if_pos ⟨whole, List.all_eq_true.2 fun p mem => decide_eq_true (marks p mem)⟩

/-- Every request is read back from the frame that carries it. -/
theorem parse_frame {r : Request} (wf : r.wf = true) (tag : Byte) : (r.frame tag).parse = .request r := by
  have marked (o : Option Nat) : o.isSome.toNat ≤ 1 := o.isSome.toNat_le
  cases r with
  | authorise | receiptOpen | machineWrite | patternLoad =>
    simp only [Request.wf, AuthoriseFields.wf, MachineValues.wf, Bool.and_eq_true] at wf
    refine (bodyOf_good ?_ ?_).trans ?_
    · simp [Request.frame, Request.body, MachineValues.body, putNum_length, putOption_length]
    · simpa [Request.frame, Request.body, MachineValues.body, numAt_putNum_skip, numAt_putOption,
        numAt_putOption_last] using marked _
    · simp only [Request.frame, Request.body, MachineValues.body, valuesAt, List.append_assoc, numAt_putNum_of_fits,
        numAt_putNum_last_of_fits, numAt_putNum_skip, numAt_putOption_skip, optionAt_putNum_skip,
        optionAt_putOption_of_fits, optionAt_putOption_last_of_fits, wf, Nat.reduceLeDiff, Nat.reduceSub, Nat.reduceAdd]
  | _ =>
    simp only [Request.wf, ProductFields.wf, LaneFields.wf, TankFields.wf, TablePointFields.wf, CommitFields.wf,
      CurvePointFields.wf, BayFields.wf, Bool.and_eq_true] at wf
    refine (bodyOf_good (by simp [Request.frame, Request.body, putNum_length, putInt_length]) (by simp)).trans ?_
    simp only [Request.frame, Request.body, List.append_assoc, numAt_putNum_of_fits, numAt_putNum_last_of_fits,
      numAt_putNum_skip, intAt_putNum_skip, numAt_putInt_skip, intAt_putInt_of_fits, intAt_putInt_last_of_fits, wf,
      Nat.reduceLeDiff, Nat.reduceSub, Nat.reduceLT]

/-! ## A body read and sent again (09 R191) -/

section
variable {b : List Byte} {at' w : Nat}

/-- The first field of a body, and the bytes of a body up to a field and beyond it. -/
theorem putNum_numAt_first (inside : w ≤ b.length) : putNum w (numAt b 0 w) = b.take w :=
  putNum_numAt b 0 w (by omega)

theorem take_append_putNum (inside : at' + w ≤ b.length) :
    b.take at' ++ putNum w (numAt b at' w) = b.take (at' + w) := by
  rw [putNum_numAt b at' w inside, ← List.take_add]

theorem take_append_putInt (inside : at' + w ≤ b.length) :
    b.take at' ++ putInt w (intAt b at' w) = b.take (at' + w) := by
  rw [putInt_intAt b at' w inside, ← List.take_add]

/-- The last field of a body, and the bytes of a body from a field on. -/
theorem putNum_numAt_last (whole : b.length = at' + w) : putNum w (numAt b at' w) = b.drop at' := by
  rw [putNum_numAt b at' w whole.ge, List.take_of_length_le (by rw [List.length_drop]; omega)]

theorem putNum_append_drop {next : Nat} (until' : at' + w = next) (inside : next ≤ b.length) :
    putNum w (numAt b at' w) ++ b.drop next = b.drop at' := by
  subst until'
  rw [putNum_numAt b at' w inside, ← List.drop_drop, List.take_append_drop]

end

/-- The optional field of a body is sent again as it was, or in zeros where it is absent. -/
theorem absentZeroed_eq {b : List Byte} {p : Nat} (inside : p + 5 ≤ b.length) (mark : (b.getD p 0).toNat ≤ 1) :
    absentZeroed [p] b = b.take p ++ putOption 4 (optionAt b p 4) ++ b.drop (p + 5) := by
  rw [putOption_optionAt b p inside mark]
  show (if b.getD p 0 = 0 then b.take (p + 1) ++ [0, 0, 0, 0] ++ b.drop (p + 5) else b) = _
  by_cases absent : b.getD p 0 = 0
  · have byte : b.take (p + 1) = b.take p ++ [0] := by
      rw [List.take_add_one, ← absent, List.getD_eq_getElem _ _ (by omega), List.getElem?_eq_getElem (by omega)]
      rfl
    rw [if_pos absent, if_pos absent, byte, List.append_assoc (b.take p)]
    rfl
  · rw [if_neg absent, if_neg absent, ← List.take_add, List.take_append_drop]

/-- A taken frame of a known KIND is dispatched as the request of that KIND its body carries. -/
theorem parse_of_requestShape {f : HeldFrame} {widths presence : List Nat}
    (shape : requestShape f.kind.toNat = some (widths, presence)) :
    ∃ r : Request, f.parse = bodyOf f.body widths.sum presence r ∧ r.kind = f.kind
      ∧ (f.body.length = widths.sum → (∀ p ∈ presence, (f.body.getD p 0).toNat ≤ 1) →
          r.body = absentZeroed presence f.body) := by
  unfold requestShape at shape
  split at shape
  case h_33 => cases shape
  case h_10 k kind | h_15 k kind | h_19 k kind | h_20 k kind =>
    cases shape
    unfold HeldFrame.parse
    rw [kind]
    refine ⟨_, rfl, BitVec.eq_of_toNat_eq kind.symm, fun whole marks => ?_⟩
    simp only [List.sum_cons, List.sum_nil, Nat.reduceAdd] at whole
    rw [absentZeroed_eq (by omega) (marks _ (List.mem_singleton_self _))]
    simp only [Request.body, MachineValues.body, valuesAt, ← List.append_assoc, putNum_numAt_first, take_append_putNum,
      whole, Nat.reduceAdd, Nat.reduceLeDiff]
    simp only [List.append_assoc, putNum_numAt_last, putNum_append_drop, whole, Nat.reduceAdd, Nat.reduceLeDiff,
      List.drop_eq_nil_of_le, Nat.le_refl, List.append_nil]
  all_goals
    cases shape
    rename_i kind
    unfold HeldFrame.parse
    rw [kind]
    refine ⟨_, rfl, BitVec.eq_of_toNat_eq kind.symm, fun whole marks => ?_⟩
    simp only [List.sum_cons, List.sum_nil, Nat.reduceAdd] at whole
    simp only [Request.body, putNum_numAt_first, take_append_putNum, take_append_putInt, whole, Nat.reduceAdd,
      Nat.reduceLeDiff]
    exact List.take_of_length_le whole.le

theorem parse_unknown {f : HeldFrame} (unknown : requestShape f.kind.toNat = none) : f.parse = .unknownKind := by
  unfold HeldFrame.parse
  split
  case h_33 => rfl
  all_goals
    rename_i kind
    rw [kind] at unknown
    cases unknown

end Sys2Proof.Machine
end

section
/-! PROOFS. A received request frame is its request: answered at once, or held (O51; 09 R185 to R191, R196; 06 R139). -/
namespace Sys2Proof.Machine
set_option Elab.async false

/-! ## A frame received (09 R187, R188) -/

/-- The bytes of a frame sent pass the checks of a frame received. -/
theorem checkFrame_frameBytes (kind tag : Byte) {body : List Byte} (short : body.length ≤ 248) :
    checkFrame (frameBytes kind tag body) = some ⟨kind, tag, body⟩ := by
  have len : (BitVec.ofNat 8 (body.length + 2)).toNat = body.length + 2 := by
    rw [BitVec.toNat_ofNat]
    omega
  have bytes := (List.cons.inj (frameBytes_whole kind tag body)).2
  rw [bytes]
  refine checkFrame_of_good_crc (by omega) len.symm ?_
  generalize crcOf _ = c
  exact BitVec.eq_of_toNat_eq (by simp [toNat_append_byte, Nat.shiftRight_eq_div_pow]; omega)

/-- A ready part takes a frame offered to it at once. -/
theorem State.offerFrame_of_ready {s : State} (ready : s.ready) {f : HeldFrame} (request : requestKind f.kind = true) :
    s.offerFrame f = (serveFrame f s).2.putReply f.kind f.tag (serveFrame f s).1 := by
  obtain ⟨-, burst, hold, reply⟩ := ready
  have room : s.link.hold.length < 2 := by simp [hold]
  have emptied : (s.holdFrame f).modLink (fun k => { k with hold := [] }) = s := by
    rw [State.holdFrame_of_room room, burst]
    show ({ s with burst := none, link := { s.link with hold := [] } } : State) = s
    rw [← hold, ← burst]
  unfold State.offerFrame
  rw [if_pos request, State.takeHeld_takes (f := f) (rest := []), emptied]
  all_goals simp [State.holdFrame_of_room room, burst, hold, reply]

/-- A frame offered during a burst or beside a pending reply waits in the hold, where there is room. -/
theorem State.offerFrame_of_waits {s : State} (waits : s.burst ≠ none ∨ s.link.reply ≠ none) {f : HeldFrame}
    (request : requestKind f.kind = true) : s.offerFrame f = s.holdFrame f := by
  unfold State.offerFrame
  rw [if_pos request, State.takeHeld_waits]
  right
  by_cases room : s.link.hold.length < 2
  · simpa [State.holdFrame_of_room room] using waits
  · rwa [State.holdFrame_of_full (by omega)]

/-- A ready part answers a received request frame at once. -/
theorem exec_frameReceived_of_ready {bytes : List Byte} {f : HeldFrame} {s : State} (good : checkFrame bytes = some f)
    (request : requestKind f.kind = true) (ready : s.ready) :
    exec (.frameReceived bytes) s =
      (serveFrame f (s.assembling .hunt)).2.answers f.kind f.tag (serveFrame f (s.assembling .hunt)).1 := by
  have running : (serveFrame f (s.assembling .hunt)).2.power = .running :=
    (serveFrame_keepsQueue f (s.assembling .hunt)).2.trans ready.1
  have served := (State.frameCompletes_good good s).trans
    (State.offerFrame_of_ready (s := s.assembling .hunt) ready request)
  exact (event_eq_settled ready.1 served).trans (State.answered_eq running _ _ _)

/-- A received request frame that must wait is offered to the hold. -/
theorem exec_frameReceived_of_waits {bytes : List Byte} {f : HeldFrame} {s : State} (good : checkFrame bytes = some f)
    (request : requestKind f.kind = true) (running : s.power = .running)
    (waits : s.burst ≠ none ∨ s.link.reply ≠ none) :
    exec (.frameReceived bytes) s = ((s.assembling .hunt).holdFrame f).settled :=
  event_eq_settled running ((State.frameCompletes_good good s).trans
    (State.offerFrame_of_waits (s := s.assembling .hunt) waits request))

/-! ## The frame of a request row -/

theorem wellFormed_of_asRequest {c : Instr} {tag : Byte} {r : Request} (row : asRequest c = some (tag, r)) :
    c.wellFormed = r.wf := by
  cases c <;> cases row <;> rfl

theorem requestKind_of_request (r : Request) : requestKind r.kind = true := by cases r <;> rfl

theorem requestBody_short (r : Request) : r.body.length ≤ 248 := by
  cases r <;> simp [Request.body, MachineValues.body, putNum_length, putInt_length, putOption_length]

/-- The frame of a request with fields that fit is served as the request. -/
theorem serveFrame_frame {r : Request} (wf : r.wf = true) (tag : Byte) (s : State) :
    serveFrame (r.frame tag) s = serveRequest r s := by
  unfold serveFrame
  rw [parse_frame wf tag]

/-- A request row at a ready part is the arrival of its frame. -/
theorem exec_frame_of_row {c : Instr} {tag : Byte} {r : Request} {s : State} (row : asRequest c = some (tag, r))
    (wf : c.wellFormed = true) (ready : s.ready) :
    exec (.frameReceived (frameBytes r.kind tag r.body)) s = exec c (s.assembling .hunt) := by
  have whole := checkFrame_frameBytes r.kind tag (requestBody_short r)
  have served := serveFrame_frame ((wellFormed_of_asRequest row).symm.trans wf) tag (s.assembling .hunt)
  rw [exec_frameReceived_of_ready (f := r.frame tag) whole (requestKind_of_request r) ready, served,
    exec_request_of_ready (s := s.assembling .hunt) row ready]
  rfl

end Sys2Proof.Machine

namespace Sys2Proof
open Sys2Proof.Machine
set_option Elab.async false

/-- Settles O51: a request row is the arrival of its frame; a request frame is answered at once or offered to the hold;
and it is dispatched by its KIND and the body that KIND requires. -/
theorem receivedFrameIsItsRequest : Obligations.ReceivedFrameIsItsRequest := by
  refine ⟨fun c tag r s row wf ready => exec_frame_of_row row wf ready, fun bytes f s good low high => ?_,
    fun f s low high => ⟨fun unknown => ?_, fun widths presence shape => ?_⟩⟩
  · have request := (requestKind_iff f.kind).2 ⟨low, high⟩
    refine ⟨exec_frameReceived_of_ready good request, fun running waits => ?_⟩
    have held := exec_frameReceived_of_waits good request running waits
    refine ⟨fun room => held.trans ?_, fun full => held.trans ?_⟩
    · rw [State.holdFrame_of_room (s := s.assembling .hunt) room]
      rfl
    · rw [State.holdFrame_of_full (s := s.assembling .hunt) full]
      rfl
  · unfold serveFrame
    rw [parse_unknown unknown]
    rfl
  · obtain ⟨r, parsed, kind, body⟩ := parse_of_requestShape shape
    have served := serveFrame_of_bodyOf f s _ _ r parsed
    exact ⟨fun bad => served.trans (if_neg bad),
      fun good => ⟨r, kind, body good.1 good.2, served.trans (if_pos good)⟩⟩

end Sys2Proof
end

section
/-! PROOFS. A cold start, field by field, and the laws of the part at reset (O3, O4; 10 R202 to R204). -/
namespace Sys2Proof.Machine
set_option Elab.async false

/-! ## The two start rows (10 R202) -/

/-- Either start row takes its kind from the marker. -/
theorem exec_coldStart_eq_warmStart (pins : StartPins) (s : State) :
    exec (.coldStart pins) s = exec (.warmStart pins) s := rfl

/-- With the marker absent a start row answers the part after a cold start. -/
theorem exec_coldStart_of_no_marker {s : State} (absent : s.marker = false) (pins : StartPins) :
    exec (.coldStart pins) s = .next (s.coldStart pins.baudHigh) :=
  congrArg Host.Outcome.next (if_neg (by rw [absent]; decide))

end Sys2Proof.Machine

namespace Sys2Proof
open Sys2Proof.Machine
set_option Elab.async false

/-- Settles O3: a start row runs the start its marker names, and the fields of the state after a cold start are the
blocks' defaults. -/
theorem coldStartValues : Obligations.ColdStartValues := fun pins s =>
  ⟨fun _ => exec_coldStart_eq_warmStart pins s, fun absent => exec_coldStart_of_no_marker absent pins⟩

/-- Settles O4: reset is the part after a cold start, which each law holds of. -/
theorem lawsHoldAtReset : Obligations.LawsHoldAtReset := by
  obtain ⟨balanced, numbered⟩ := State.afterColdStart_journalLaw false
  obtain ⟨granted, capacity⟩ := (State.grantLaw_iff _).1 (State.afterColdStart_grantsHeld false).grantLaw
  exact ⟨State.afterColdStart_bayLaw false, balanced, numbered, granted, capacity,
    State.afterColdStart_figuresLawful false, rfl, rfl⟩

end Sys2Proof
end

section
/-! PROOFS. The supply, the reset input and the clock second, and a part that does not run (O55; 10 R200, R201;
08 R171, R173, R184). -/
namespace Sys2Proof.Machine
set_option Elab.async false

variable {s : State}

/-! ## A part that does not run (10 R200; log 8) -/

/-- A part that does not run takes no event. -/
theorem event_of_dark (dark : s.power ≠ .running) (f : State → State) : event f s = .next s :=
  congrArg Host.Outcome.next (if_neg dark)

/-- Every row but those of the supply, the clock second and the starts is an event. -/
theorem exec_of_dark (dark : s.power ≠ .running) {c : Instr} (loss : c ≠ .powerLoss) (reset : c ≠ .resetAssert)
    (vbat : c ≠ .vbatLoss) (second : c ≠ .clockSecond) (cold : ∀ pins, c ≠ .coldStart pins)
    (warm : ∀ pins, c ≠ .warmStart pins) : exec c s = .next s := by
  cases row : asRequest c with
  | some named => exact (exec_of_asRequest row s).trans (event_of_dark dark _)
  | none =>
    cases c
    case powerLoss => exact absurd rfl loss
    case resetAssert => exact absurd rfl reset
    case vbatLoss => exact absurd rfl vbat
    case clockSecond => exact absurd rfl second
    case coldStart pins => exact absurd rfl (cold pins)
    case warmStart pins => exact absurd rfl (warm pins)
    case unknownKind | malformed | frameReceived | hostByteReceived | frameSent | frameGap | pulse | sample
      | nozzleLift | nozzleHangup | authorisationExpiry | maxOpenExpiry | closeLimitExpiry | creepWindowExpiry
      | grantTaken | pumpEnding | tankLowEnding | proveChange | provingTimerExpiry | runonExpiry | staggerElapsed
      | roundDue | gaugePollSent | gaugeReply | replyTimerExpiry | sumpActive | pressBegin | pressRelease | longPress
      | valveFailureReport | creepReport | closingReport | keyTurn | keySeenHigh | boundary =>
      exact event_of_dark dark _
    all_goals cases row

/-- Its valve outputs are CLOSED. -/
theorem State.valveOutput_of_dark (dark : s.power ≠ .running) (i : Fin 8) : s.valveOutput i = .closed := if_neg dark

/-- No output that is driven by a running part alone is driven. -/
theorem running_and_of_dark (dark : s.power ≠ .running) (b : Bool) : (s.power == .running && b) = false := by
  simp [dark]

/-- Every output of the part is released (10 R200). -/
theorem State.outputs_of_dark (dark : s.power ≠ .running) :
    (∀ i, s.valveOutput i = .closed ∧ s.slowValvePin i = false ∧ s.fullValvePin i = false)
      ∧ (∀ h, s.pumpOutput h = false) ∧ (∀ t, s.inletOutput t = false) ∧ s.alert = false
      ∧ s.gaugeDriverEnable = false := by
  refine ⟨fun i => ?_, fun h => running_and_of_dark dark _, fun t => running_and_of_dark dark _,
    running_and_of_dark dark _, running_and_of_dark dark _⟩
  have closed := State.valveOutput_of_dark dark i
  unfold State.slowValvePin State.fullValvePin
  rw [closed]
  exact ⟨rfl, rfl, rfl⟩

/-! ## The clock second (08 R171, R173, R184) -/

section
variable {u : Period} {running : Bool}

/-- A clock second that reaches no boundary counts the clock alone. -/
theorem Period.second_of_apart (apart : ∀ b, u.next = some b → b.due ≠ nextSecond u.clock) :
    u.second running = { u with clock := nextSecond u.clock } := by
  unfold Period.second
  dsimp only
  split
  · rename_i b next
    exact if_neg (apart b next)
  · rfl

/-- A clock second that reaches the next boundary marks it, and at a running part it stands due (log 15). -/
theorem Period.second_of_due {b : NextBoundary} (next : u.next = some b) (due : b.due = nextSecond u.clock) :
    u.second running =
      { u with clock := nextSecond u.clock, next := some { b with reached := true }
               boundaryDue := if running then some b.kind else u.boundaryDue } := by
  unfold Period.second
  rw [next]
  exact if_pos due

theorem Period.second_clock (u : Period) (running : Bool) : (u.second running).clock = nextSecond u.clock := by
  unfold Period.second
  dsimp only
  split
  · split <;> rfl
  · rfl

end

/-- At a running part the elapsed seconds count with the clock (log 4). -/
theorem exec_clockSecond_of_running (running : s.power = .running) :
    exec .clockSecond s = .next { s with period := s.period.second true, elapsed := s.elapsed + 1 } :=
  congrArg Host.Outcome.next (if_pos running)

/-- While the part does not run the retained clock counts as long as its marker stands (08 R171; log 8). -/
theorem exec_clockSecond_of_dark (dark : s.power ≠ .running) :
    exec .clockSecond s = .next (if s.marker then { s with period := s.period.second false } else s) :=
  congrArg Host.Outcome.next (if_neg dark)

end Sys2Proof.Machine

namespace Sys2Proof
open Sys2Proof.Machine
set_option Elab.async false

/-- Settles O55: the supply rows go by the power they find, the clock second by its boundary, and a part that does not
run takes no event and drives no output. -/
theorem powerAndClock : Obligations.PowerAndClock := by
  intro s dark
  refine ⟨fun on => congrArg Host.Outcome.next (if_neg on), fun lost => congrArg Host.Outcome.next (if_pos lost),
    fun on => congrArg Host.Outcome.next (if_pos on), fun off => congrArg Host.Outcome.next (if_neg off),
    fun lost => congrArg Host.Outcome.next (if_pos lost), fun on => congrArg Host.Outcome.next (if_neg on),
    fun running => ?_, fun off marker => ?_, fun off absent => ?_,
    fun off c loss reset vbat second cold warm => exec_of_dark off loss reset vbat second cold warm,
    State.outputs_of_dark, fun p => ⟨rfl, rfl⟩⟩
  · have clock := s.period.second_clock true
    refine ⟨s.period.second true, exec_clockSecond_of_running running, clock, ?_⟩
    rw [clock]
    exact ⟨Period.second_of_apart, fun b next due => Period.second_of_due next due⟩
  · have counts := exec_clockSecond_of_dark off
    rw [if_pos marker] at counts
    refine ⟨fun apart => ?_, fun b next due => ?_⟩
    · rw [counts, Period.second_of_apart apart]
      rfl
    · rw [counts, Period.second_of_due next due]
      rfl
  · exact (exec_clockSecond_of_dark off).trans (congrArg Host.Outcome.next (if_neg (by rw [absent]; decide)))

end Sys2Proof
end

section
/-! PROOFS. A warm start in the statement's words: the part at rest, the lanes' recovery and the late close (for O56;
10 R205, R206; 01 R32; 04 R99; 08 R184). -/
namespace Sys2Proof.Machine
set_option Elab.async false

/-! ## The part at rest (10 R205) -/

theorem Lane.afterStart_rested (l : Lane) : l.afterStart = l.rested := by
  unfold Lane.afterStart Lane.restartCreep Lane.rested
  dsimp only
  cases l.record.product <;> rfl

theorem Tank.afterStart_rested (now : Nat) (k : Tank) : k.afterStart now = k.rested now := by
  unfold Tank.afterStart Tank.rested
  cases k.receipt with
  | none => rfl
  | some r => obtain ⟨state⟩ := r; cases state <;> rfl

/-- The units at rest, field by field. -/
theorem State.restUnits_eq (s : State) :
    s.restUnits =
      { s with
        lanes := Vector.ofFn fun i => (s.lane i).rested
        headers := Vector.replicate 6 {}
        slot := { free := s.settings.stagger == 0 }
        tanks := Vector.ofFn fun t => (s.tank t).rested s.period.clock
        bus := s.busAfterStart
        shutdown := s.shutdown.afterStart
        period := { s.period with boundaryDue := none } } := by
  have lanes : Lane.afterStart = Lane.rested := funext Lane.afterStart_rested
  have tanks : Tank.afterStart s.now = Tank.rested s.period.clock := funext (Tank.afterStart_rested _)
  unfold State.restUnits
  rw [lanes, tanks]
  extract_lets still units
  have walk : units =
      { still with
        tanks := Vector.ofFn fun t => (still.tank t).rested s.period.clock
        lanes := Vector.ofFn fun i => (still.lane i).rested } := eachOfEight_modTank_modLane _ _ still
  rw [walk]
  rfl

/-- The part at rest is the statement's, whatever the pins. -/
theorem State.rest_rested (pins : StartPins) (s : State) :
    s.rest (if pins.keyLow then .key else .warm) pins.baudHigh = s.rested pins := by
  unfold State.rest
  rw [State.restUnits_eq]
  rfl

/-! ## The lanes' recovery (01 R32) -/

/-- A commit sets the end cause it is given: the cause noted on the lane before it does not show. -/
theorem State.committed_modLane_cause (i : Fin 8) (noted : Option EndCause) (cause : EndCause)
    (valveHeld nozzleOut : Bool) (s : State) :
    (s.modLane i fun l => { l with delivery := { l.delivery with endCause := noted } }).committed i cause valveHeld
      nozzleOut = s.committed i cause valveHeld nozzleOut := by
  generalize marked : s.modLane i (fun l => { l with delivery := { l.delivery with endCause := noted } }) = t
  have lane : t.lane i = { s.lane i with delivery := { (s.lane i).delivery with endCause := noted } } := by
    rw [← marked, State.lane_modLane_same]
  have rest : t = { s with lanes := t.lanes } := by rw [← marked]; rfl
  have credit : t.credited i = s.credited i := by
    unfold State.credited
    rw [lane, rest]
    rfl
  have record : t.recordOf i cause valveHeld = s.recordOf i cause valveHeld := by
    unfold State.recordOf State.temperatureOf State.laneTank
    rw [credit, lane, rest]
    rfl
  have lanes : ∀ l, t.lanes.set i l = s.lanes.set i l := fun l => by
    rw [← marked]
    exact Vector.set_set ..
  unfold State.committed
  simp only [credit, record, lane, lanes]
  subst marked
  rfl

/-- A POWER commit (10 R206). -/
theorem State.powerCommit_committed (i : Fin 8) (nozzleOut : Bool) (s : State) :
    s.powerCommit i nozzleOut = s.committed i .power false nozzleOut := by
  unfold State.powerCommit
  rw [State.commitDelivery_committed (cause := .power) false nozzleOut (by rw [State.lane_modLane_same]),
    State.committed_modLane_cause]

theorem recoverLane_laneRecovered (pins : StartPins) (i : Fin 8) (s : State) :
    recoverLane pins.nozzleOut i s = s.laneRecovered pins i := by
  unfold recoverLane State.laneRecovered
  cases (s.lane i).state
  case idle | done | authorised => rfl
  case waiting | flowing | trimming | closing => exact State.powerCommit_committed ..

theorem State.recoverLanes_lanesRecovered (pins : StartPins) (s : State) :
    s.recoverLanes pins.nozzleOut = s.lanesRecovered pins := by
  unfold State.recoverLanes State.lanesRecovered eachOfEight
  simp only [recoverLane_laneRecovered]

/-! ## The late close (08 R184) -/

theorem State.lateClose_closedLate (s : State) : s.lateClose = s.closedLate := by
  unfold State.lateClose State.closedLate
  cases s.period.next with
  | none => rfl
  | some b =>
    dsimp only [Option.any_some]
    rw [State.closePeriod_eq]
    rfl

/-- The recovery and the late close, in the order the operand names (log 7). -/
theorem State.recover_eq (pins : StartPins) (s : State) :
    s.recover pins =
      if pins.closeFirst then s.closedLate.lanesRecovered pins else (s.lanesRecovered pins).closedLate := by
  unfold State.recover
  simp only [State.lateClose_closedLate, State.recoverLanes_lanesRecovered]

/-! ## The start row -/

/-- With the marker present a start row recovers the part at rest, serves its bus, and lets the arbiter choose. -/
theorem exec_warmStart_of_marker {s : State} (marker : s.marker = true) (pins : StartPins) :
    let u := (s.rested pins).recover pins
    exec (.warmStart pins) s = (u.served u.bus.queue).settled := by
  intro u
  have idle : u.bus.poll = none := by simp [u, State.rested]
  have started : s.start pins = s.warmStart pins := if_pos marker
  show Host.Outcome.next (s.start pins) = _
  rw [started]
  unfold State.warmStart
  rw [State.rest_rested, State.serveBus_served u idle]
  rfl

end Sys2Proof.Machine
end

section
/-! PROOFS. What the recovery and the late close keep, the lanes' states, the records and the period after them (O56;
10 R205, R206; 01 R32; 06 R133; 08 R184). -/
namespace Sys2Proof.Machine
set_option Elab.async false

/-! ## What both keep -/

/-- Lane b has what a start leaves standing of lane a: its record and curve, its nozzle and its grants. -/
structure Lane.keptAtStart (a b : Lane) : Prop where
  record : b.record = a.record
  curve : b.curve = a.curve
  nozzleOut : b.nozzleOut = a.nozzleOut
  grant : b.grant = a.grant
  arbiterGrant : b.arbiterGrant = a.arbiterGrant

/-- Tank b has what a period close leaves standing of tank a. -/
structure Tank.keptAtStart (a b : Tank) : Prop where
  record : b.record = a.record
  table : b.table = a.table
  status : b.status = a.status
  held : b.held = a.held
  dispensed : b.dispensed = a.dispensed
  sincePoll : b.sincePoll = a.sincePoll
  book : b.book = a.book
  bookSaturated : b.bookSaturated = a.bookSaturated
  receipt : b.receipt = a.receipt
  lastReceipt : b.lastReceipt = a.lastReceipt

/-- From s to t what neither the recovery nor the late close touches stands: in each lane, in each tank, and in the
Shutdown Unit. -/
structure State.keptAtStart (s t : State) : Prop where
  lanes : ∀ i, (s.lane i).keptAtStart (t.lane i)
  tanks : ∀ k, (s.tank k).keptAtStart (t.tank k)
  bay : t.shutdown.bay = s.shutdown.bay
  stack : t.shutdown.stack = s.shutdown.stack
  lockout : t.shutdown.lockout = s.shutdown.lockout

theorem Lane.keptAtStart_refl (l : Lane) : l.keptAtStart l := ⟨rfl, rfl, rfl, rfl, rfl⟩

theorem Tank.keptAtStart_refl (k : Tank) : k.keptAtStart k := ⟨rfl, rfl, rfl, rfl, rfl, rfl, rfl, rfl, rfl, rfl⟩

theorem State.keptAtStart_refl (s : State) : s.keptAtStart s :=
  ⟨fun _ => Lane.keptAtStart_refl _, fun _ => Tank.keptAtStart_refl _, rfl, rfl, rfl⟩

theorem Lane.keptAtStart.trans {a b c : Lane} (ab : a.keptAtStart b) (bc : b.keptAtStart c) : a.keptAtStart c where
  record := bc.record.trans ab.record
  curve := bc.curve.trans ab.curve
  nozzleOut := bc.nozzleOut.trans ab.nozzleOut
  grant := bc.grant.trans ab.grant
  arbiterGrant := bc.arbiterGrant.trans ab.arbiterGrant

theorem Tank.keptAtStart.trans {a b c : Tank} (ab : a.keptAtStart b) (bc : b.keptAtStart c) : a.keptAtStart c where
  record := bc.record.trans ab.record
  table := bc.table.trans ab.table
  status := bc.status.trans ab.status
  held := bc.held.trans ab.held
  dispensed := bc.dispensed.trans ab.dispensed
  sincePoll := bc.sincePoll.trans ab.sincePoll
  book := bc.book.trans ab.book
  bookSaturated := bc.bookSaturated.trans ab.bookSaturated
  receipt := bc.receipt.trans ab.receipt
  lastReceipt := bc.lastReceipt.trans ab.lastReceipt

theorem State.keptAtStart.trans {s t u : State} (st : s.keptAtStart t) (tu : t.keptAtStart u) : s.keptAtStart u where
  lanes i := (st.lanes i).trans (tu.lanes i)
  tanks k := (st.tanks k).trans (tu.tanks k)
  bay := tu.bay.trans st.bay
  stack := tu.stack.trans st.stack
  lockout := tu.lockout.trans st.lockout

/-! ## One lane's recovery (01 R32; 10 R206) -/

/-- The lane state a start leaves of another (01 R32). -/
def LaneState.recovered (nozzleOut : Bool) : LaneState → LaneState
  | .idle | .authorised => .idle
  | .done => .done
  | .waiting | .flowing | .trimming | .closing => if nozzleOut then .done else .idle

/-- The records lane i's recovery adds to the journal: its own where its delivery was open or closing (06 R133). -/
def State.recoveryRecords (s : State) (i : Fin 8) : List JournalRecord :=
  if (s.lane i).state.metered then [s.recordOf i .power false] else []

section
variable {s t : State} {i j : Fin 8} {l : Lane}

theorem State.lane_of_lanes_set (lanes : t.lanes = s.lanes.set i l) : t.lane i = l := by
  unfold State.lane
  rw [lanes]
  exact Vector.getElem_set_self _

theorem State.lane_of_lanes_set_ne (lanes : t.lanes = s.lanes.set i l) (other : j ≠ i) : t.lane j = s.lane j := by
  unfold State.lane
  rw [lanes]
  exact Vector.getElem_set_ne _ _ fun same => other (Fin.ext same.symm)

end

section
variable (pins : StartPins) (i : Fin 8) (s : State)

/-- The lane its recovery puts back: what stands of it, in its state after the start. -/
theorem State.laneRecovered_lanes :
    ∃ l, (s.laneRecovered pins i).lanes = s.lanes.set i l ∧ (s.lane i).keptAtStart l
      ∧ l.state = (s.lane i).state.recovered (pins.nozzleOut.getLsbD i.val) := by
  unfold State.laneRecovered
  cases state : (s.lane i).state
  case idle | done => exact ⟨s.lane i, (s.lanes_set_self i).symm, Lane.keptAtStart_refl _, state⟩
  case authorised => exact ⟨_, rfl, ⟨rfl, rfl, rfl, rfl, rfl⟩, rfl⟩
  case waiting | flowing | trimming | closing => exact ⟨_, rfl, ⟨rfl, rfl, rfl, rfl, rfl⟩, rfl⟩

/-- A lane's recovery keeps of every lane what stands over a start, and the tanks and the Shutdown Unit as they are. -/
theorem State.laneRecovered_keptAtStart : s.keptAtStart (s.laneRecovered pins i) := by
  obtain ⟨l, lanes, kept, -⟩ := s.laneRecovered_lanes pins i
  rw [← recoverLane_laneRecovered] at lanes ⊢
  have shutdown : (recoverLane pins.nozzleOut i s).shutdown = s.shutdown := by simp
  refine ⟨fun j => ?_, fun k => ?_, by rw [shutdown], by rw [shutdown], by rw [shutdown]⟩
  · by_cases here : j = i
    · subst here
      rw [State.lane_of_lanes_set lanes]
      exact kept
    · rw [State.lane_of_lanes_set_ne lanes here]
      exact Lane.keptAtStart_refl _
  · rw [State.tank_congr k s (recoverLane pins.nozzleOut i s) (by simp)]
    exact Tank.keptAtStart_refl _

theorem State.lane_laneRecovered_ne {j : Fin 8} (other : j ≠ i) : (s.laneRecovered pins i).lane j = s.lane j := by
  obtain ⟨l, lanes, -⟩ := s.laneRecovered_lanes pins i
  exact State.lane_of_lanes_set_ne lanes other

theorem State.state_laneRecovered :
    ((s.laneRecovered pins i).lane i).state = (s.lane i).state.recovered (pins.nozzleOut.getLsbD i.val) := by
  obtain ⟨l, lanes, -, state⟩ := s.laneRecovered_lanes pins i
  rw [State.lane_of_lanes_set lanes, state]

/-- Lane i's recovery adds its record where its delivery was open or closing, and none else (06 R133). -/
theorem State.records_laneRecovered :
    (s.laneRecovered pins i).journal.records = s.journal.records ++ s.recoveryRecords i := by
  unfold State.laneRecovered State.recoveryRecords
  cases (s.lane i).state
  case idle | authorised | done => exact (List.append_nil _).symm
  case waiting | flowing | trimming | closing => rfl

end

/-! ## All the lanes (01 R32; 06 R133) -/

/-- From s to t the journal gained one record for each metered lane among `lanes`, in their order, of its delivery as it
stood, with POWER at the clock. -/
def State.recordsGained (lanes : List (Fin 8)) (s t : State) : Prop :=
  ∃ new, t.journal.records = s.journal.records ++ new
    ∧ new.map JournalRecord.lane = lanes.filter (fun i => (s.lane i).state.metered)
    ∧ ∀ r ∈ new, r.cause = .power ∧ r.endTime = s.period.clock ∧ r.gross = (s.lane r.lane).delivery.gross
      ∧ r.net = (s.lane r.lane).delivery.net

/-- The lane's own record is gained first, and the lanes after it are as they were. -/
theorem State.recordsGained.cons {s t : State} {pins : StartPins} {i : Fin 8} {lanes : List (Fin 8)}
    (fresh : i ∉ lanes) (gained : State.recordsGained lanes (s.laneRecovered pins i) t) :
    State.recordsGained (i :: lanes) s t := by
  obtain ⟨new, records, named, each⟩ := gained
  have others : ∀ j ∈ lanes, (s.laneRecovered pins i).lane j = s.lane j := fun j mem =>
    s.lane_laneRecovered_ne pins i fun same => fresh (same ▸ mem)
  have clock : (s.laneRecovered pins i).period = s.period := by rw [← recoverLane_laneRecovered]; simp
  have metered : lanes.filter (fun j => ((s.laneRecovered pins i).lane j).state.metered) =
      lanes.filter fun j => (s.lane j).state.metered :=
    List.filter_congr fun j mem => by rw [others j mem]
  refine ⟨s.recoveryRecords i ++ new, ?_, ?_, fun r mem => ?_⟩
  · rw [records, s.records_laneRecovered, List.append_assoc]
  · rw [List.map_append, named, metered, List.filter_cons]
    unfold State.recoveryRecords
    split <;> rfl
  · rcases List.mem_append.1 mem with own | later
    · unfold State.recoveryRecords at own
      split at own
      · obtain rfl := List.mem_singleton.1 own
        exact ⟨rfl, rfl, rfl, rfl⟩
      · cases own
    · have among : r.lane ∈ lanes := by
        have mapped := List.mem_map_of_mem (f := JournalRecord.lane) later
        rw [named] at mapped
        exact (List.mem_filter.1 mapped).1
      have here := each r later
      rwa [others r.lane among, clock] at here

section
variable (pins : StartPins) (s : State)

theorem State.lanesRecovered_recordsGained : State.recordsGained eightNumbers s (s.lanesRecovered pins) := by
  have walk : ∀ (l : List (Fin 8)) (s : State), l.Nodup →
      State.recordsGained l s (l.foldl (fun t i => t.laneRecovered pins i) s) := by
    intro l
    induction l with
    | nil => exact fun s _ => ⟨[], (List.append_nil _).symm, rfl, fun r mem => by cases mem⟩
    | cons i l ih =>
      intro s nodup
      obtain ⟨fresh, nodup⟩ := List.nodup_cons.1 nodup
      exact (ih (s.laneRecovered pins i) nodup).cons fresh
  exact walk eightNumbers s eightNumbers_nodup

theorem State.lanesRecovered_keptAtStart : s.keptAtStart (s.lanesRecovered pins) :=
  eachOfEight_induction (P := s.keptAtStart) (fun i t => t.laneRecovered pins i)
    (fun i t kept => kept.trans (t.laneRecovered_keptAtStart pins i)) s.keptAtStart_refl

theorem State.state_lanesRecovered (i : Fin 8) :
    ((s.lanesRecovered pins).lane i).state = (s.lane i).state.recovered (pins.nozzleOut.getLsbD i.val) :=
  eachOfEight_at (P := fun _ => True) (fun t => (t.lane i).state)
    (LaneState.recovered (pins.nozzleOut.getLsbD i.val)) (fun i t => t.laneRecovered pins i) i (fun _ _ _ => trivial)
    (fun t _ => t.state_laneRecovered pins i)
    (fun j t other => by rw [t.lane_laneRecovered_ne pins j (Ne.symm other)]) trivial

theorem State.lanesRecovered_period : (s.lanesRecovered pins).period = s.period := by
  rw [← State.recoverLanes_lanesRecovered]
  simp

end

/-! ## The late close (08 R184) -/

section
variable (s : State)

/-- The late close is none, or a period close. -/
theorem State.closedLate_cases : s.closedLate = s ∨ s.closedLate = s.closedPeriod .late s.kindNow := by
  unfold State.closedLate
  split
  · exact .inr rfl
  · exact .inl rfl

theorem State.lane_closedPeriod (reason : CloseReason) (kind : PeriodKind) (i : Fin 8) :
    (s.closedPeriod reason kind).lane i = { s.lane i with totals := {} } := Vector.getElem_ofFn _

theorem State.tank_closedPeriod (reason : CloseReason) (kind : PeriodKind) (k : Fin 8) :
    (s.closedPeriod reason kind).tank k = (s.tank k).afterClose := Vector.getElem_ofFn _

theorem State.closedLate_keptAtStart : s.keptAtStart s.closedLate := by
  rcases s.closedLate_cases with stays | closed
  · rw [stays]
    exact s.keptAtStart_refl
  · rw [closed]
    refine ⟨fun i => ?_, fun k => ?_, rfl, rfl, rfl⟩
    · rw [State.lane_closedPeriod]
      exact ⟨rfl, rfl, rfl, rfl, rfl⟩
    · rw [State.tank_closedPeriod]
      exact ⟨rfl, rfl, rfl, rfl, rfl, rfl, rfl, rfl, rfl, rfl⟩

/-- The late close keeps the clock, the journal, and every lane's state and delivery. -/
theorem State.closedLate_deliveries :
    s.closedLate.period.clock = s.period.clock ∧ s.closedLate.journal = s.journal
      ∧ ∀ i, (s.closedLate.lane i).state = (s.lane i).state
        ∧ (s.closedLate.lane i).delivery = (s.lane i).delivery := by
  rcases s.closedLate_cases with stays | closed
  · rw [stays]
    exact ⟨rfl, rfl, fun _ => ⟨rfl, rfl⟩⟩
  · rw [closed]
    refine ⟨rfl, rfl, fun i => ?_⟩
    rw [State.lane_closedPeriod]
    exact ⟨rfl, rfl⟩

end

/-! ## The recovery as a whole, in either order (log 7) -/

section
variable (pins : StartPins) (s : State)

theorem State.recover_keptAtStart : s.keptAtStart (s.recover pins) := by
  rw [State.recover_eq]
  split
  · exact s.closedLate_keptAtStart.trans (s.closedLate.lanesRecovered_keptAtStart pins)
  · exact (s.lanesRecovered_keptAtStart pins).trans (s.lanesRecovered pins).closedLate_keptAtStart

theorem State.state_recover (i : Fin 8) :
    ((s.recover pins).lane i).state = (s.lane i).state.recovered (pins.nozzleOut.getLsbD i.val) := by
  have late := fun t : State => (t.closedLate_deliveries.2.2 i).1
  rw [State.recover_eq]
  split
  · rw [State.state_lanesRecovered, late]
  · rw [late, State.state_lanesRecovered]

theorem State.recover_recordsGained : State.recordsGained eightNumbers s (s.recover pins) := by
  rw [State.recover_eq]
  split
  · obtain ⟨clock, journal, lanes⟩ := s.closedLate_deliveries
    have gained := s.closedLate.lanesRecovered_recordsGained pins
    unfold State.recordsGained at gained
    simp only [clock, journal, lanes] at gained
    exact gained
  · obtain ⟨-, journal, -⟩ := (s.lanesRecovered pins).closedLate_deliveries
    have gained := s.lanesRecovered_recordsGained pins
    unfold State.recordsGained at gained ⊢
    rwa [journal]

/-- With no boundary reached the period goes on (log 15). -/
theorem State.recover_period_open (unreached : s.period.next.any NextBoundary.reached = false) :
    (s.recover pins).period = s.period := by
  have late : ∀ t : State, t.period = s.period → t.closedLate = t := fun t same =>
    if_neg (by rw [same, unreached]; decide)
  rw [State.recover_eq]
  split
  · rw [late s rfl, State.lanesRecovered_period]
  · rw [late _ (s.lanesRecovered_period pins), State.lanesRecovered_period]

/-- With a boundary reached the period is the one a late close opens. -/
theorem State.recover_period_closed (reached : s.period.next.any NextBoundary.reached = true) :
    ∃ t : State, t.period = s.period ∧ (s.recover pins).period = (t.closedPeriod .late t.kindNow).period := by
  have late : ∀ t : State, t.period = s.period → t.closedLate = t.closedPeriod .late t.kindNow := fun t same =>
    if_pos (by rw [same, reached])
  rw [State.recover_eq]
  split
  · exact ⟨s, rfl, by rw [State.lanesRecovered_period, late s rfl]⟩
  · exact ⟨_, s.lanesRecovered_period pins, by rw [late _ (s.lanesRecovered_period pins)]⟩

end

/-! ## The part at rest, unit by unit -/

section
variable (pins : StartPins) (s : State)

theorem State.lane_rested (i : Fin 8) : (s.rested pins).lane i = (s.lane i).rested := Vector.getElem_ofFn _

theorem State.tank_rested (k : Fin 8) : (s.rested pins).tank k = (s.tank k).rested s.period.clock :=
  Vector.getElem_ofFn _

/-- No inlet is driven at rest: an OPEN receipt is SETTLING (04 R99). -/
theorem Tank.inlet_rested (clock : Nat) (k : Tank) : (k.rested clock).inlet = false := by
  rw [← Tank.afterStart_rested]
  exact k.inlet_afterStart clock

end

end Sys2Proof.Machine

namespace Sys2Proof
open Sys2Proof.Machine
set_option Elab.async false

/-- Settles O56: a start with the marker recovers the part at rest; the recovery and the late close, in either order,
keep what is retained, give every lane its state and add a record for each metered one. -/
theorem warmStartRecovers : Obligations.WarmStartRecovers := by
  intro pins s
  refine ⟨fun _ => (exec_coldStart_eq_warmStart pins s).symm, fun marker => ?_⟩
  intro before u
  have recovered : u = before.recover pins := (before.recover_eq pins).symm
  clear_value u
  subst recovered
  obtain ⟨lanes, tanks, bay, stack, lockout⟩ := before.recover_keptAtStart pins
  have gained := before.recover_recordsGained pins
  have states := before.state_recover pins
  have lane : ∀ i, before.lane i = (s.lane i).rested := s.lane_rested pins
  have tank : ∀ k, before.tank k = (s.tank k).rested s.period.clock := s.tank_rested pins
  refine ⟨exec_warmStart_of_marker marker pins, ?_, ?_, ?_, ?_, ?_, ?_, bay, stack, lockout, fun i => ?_, fun k => ?_,
    ?_, fun unreached => ?_, fun reached => ?_⟩
  · exact (by simp : (before.recover pins).marker = before.marker).trans marker
  · simp [before, State.rested]
  · simp
  · simp
  · simp
  · simp
  · obtain ⟨record, curve, nozzle, grant, arbiterGrant⟩ := lanes i
    rw [record, curve, nozzle, grant, arbiterGrant, states, lane]
    exact ⟨rfl, rfl, rfl, rfl, rfl, rfl⟩
  · obtain ⟨record, table, status, held, dispensed, sincePoll, book, saturated, receipt, last⟩ := tanks k
    have inlet : ((before.recover pins).tank k).inlet = false := by
      unfold Tank.inlet
      rw [receipt, tank]
      exact (s.tank k).inlet_rested s.period.clock
    rw [record, table, status, held, dispensed, sincePoll, book, saturated, receipt, last, tank]
    exact ⟨rfl, rfl, rfl, rfl, rfl, rfl, rfl, rfl, rfl, rfl, inlet⟩
  · unfold State.recordsGained at gained
    simp only [lane] at gained
    exact gained
  · exact before.recover_period_open pins unreached
  · obtain ⟨t, same, closed⟩ := before.recover_period_closed pins reached
    rw [closed]
    exact ⟨congrArg (fun p => (p.number + 1) % 4294967296) same, _, rfl, rfl, (congrArg Period.clock same :)⟩

end Sys2Proof
end

section
/-! PROOFS. A step: the front of the queue is taken, and an empty queue idles (O1; 95). -/
namespace Sys2Proof.Machine
set_option Elab.async false

/-- Of two queues put in one after the other, the last stands. -/
theorem State.setPending_setPending (v w : List Instr) (s : State) : (s.setPending v).setPending w = s.setPending w :=
  rfl

/-- With nothing waiting the part idles: the model's choice (log 3). -/
theorem step_of_pending_nil {s : State} (idle : s.pending = []) : step s = .next s := by
  unfold step
  rw [idle]

/-- The command in front has its effect with the rest of the queue waiting. -/
theorem step_of_pending_cons {s : State} {c : Instr} {rest : List Instr} (front : s.pending = c :: rest) :
    step s = exec c (s.setPending rest) := by
  unfold step
  rw [front]

end Sys2Proof.Machine

namespace Sys2Proof
open Sys2Proof.Machine
set_option Elab.async false

/-- Settles O1: the two cases of the queue; of the queue put in, c is the front, and the rest takes its place. -/
theorem stepRunsFrontCommand : Obligations.StepRunsFrontCommand := by
  refine ⟨fun c rest s => ?_, fun s idle => step_of_pending_nil idle⟩
  have front : (s.setPending (c :: rest)).pending = c :: rest := (s.setPending_fields (c :: rest)).1
  calc step (s.setPending (c :: rest))
    _ = exec c ((s.setPending (c :: rest)).setPending rest) := step_of_pending_cons front
    _ = exec c (s.setPending rest) := by rw [State.setPending_setPending]

end Sys2Proof
end
